-- ==== Sys2Proof/Word.lean ====
section
/-! DEFINITION. The words of the backplane and of the flash spare area, and the bytes of page data
(12_packet_and_record_formats.md: every word is 16 bits; page data travels two bytes to a word). -/

namespace Sys2Proof

/-- A word of the backplane or of a leaf's spare area: 16 bits, numbered 15 down to 0. -/
abbrev Word := BitVec 16

/-- A byte of page data. -/
abbrev Byte := BitVec 8

/-- The first byte of a word of page data stands in bits 15..8 (R180). -/
def highByte (w : Word) : Byte := w.extractLsb' 8 8

/-- The second byte of a word of page data stands in bits 7..0 (R180). -/
def lowByte (w : Word) : Byte := w.extractLsb' 0 8

end Sys2Proof
end

