-- ==== Sys2Proof/Config.lean ====
section
/-! DEFINITION. What is fixed for the part ("Numbers at a glance" of 00_scope.md) and the FREE VALUES:
constants without a body, which nothing in Lean can evaluate, for what the manual leaves open. -/

namespace Sys2Proof

/-- Leaves of the leaf store, numbered 0..65,535 (R82). -/
def Config.leaves : Nat := 65536
/-- Bytes of a leaf, and of a staging buffer. -/
def Config.leafBytes : Nat := 4096
/-- Banks of the leaf store; a leaf's bank is its number modulo 4. -/
def Config.banks : Nat := 4
/-- Staging buffers, numbered 0..143 (R66). -/
def Config.buffers : Nat := 144
/-- Buffers a session's staging queue may hold (R49, R54). -/
def Config.queueLimit : Nat := 4
/-- Read windows (R74). -/
def Config.windowLimit : Nat := 24
/-- The intake reserve (R75): a new window needs more FREE buffers than this. -/
def Config.intakeReserve : Nat := 16
/-- Sessions, numbered 0..31 (R43). -/
def Config.sessions : Nat := 32
/-- Catalog slots, numbered 0..4,095 (R1). -/
def Config.slots : Nat := 4096
/-- Page records, shared by all documents (R15). -/
def Config.pageRecords : Nat := 65536
/-- Pages a document may hold (R48). -/
def Config.pageLimit : Nat := 999
/-- Leaf slots a page may hold (R53). -/
def Config.pageSlots : Nat := 64
/-- Hold tags a document may bear (R147). -/
def Config.holdLimit : Nat := 4
/-- Departments, numbered 0..15. -/
def Config.departments : Nat := 16
/-- Nodes a department may have (R26). -/
def Config.departmentNodes : Nat := 2
/-- Route entries, numbered 0..63 (R33). -/
def Config.routes : Nat := 64
/-- The next serial that means serials are exhausted (R4). -/
def Config.serialEnd : Nat := 4294967296
/-- The largest value of the receipt clock and of the run counter, 2^48 − 1 ticks (R154). -/
def Config.tickMax : Nat := 281474976710655
/-- Ticks of a minute (R116). -/
def Config.minute : Nat := 3840
/-- Ticks of a day (R144). -/
def Config.day : Nat := 5529600
/-- The hold-back cap, 900 seconds (R157). -/
def Config.holdBackCap : Nat := 57600

/-- FREE VALUE: the order of choices that the manual leaves open (R88, R149): which of several idle banks with work
chooses first, which of several due purges starts first (log 7, 8, 9). Applied to a counter of the state. -/
opaque Config.freeChoice : Nat → Nat

/-- FREE VALUE: the words a failed or cut-off flash operation leaves in a spare area (R98, log 10). Applied to a
counter of the state and the word's place, 0..11 for the header and 12 for the void-mark word. -/
opaque Config.freeWord : Nat → Nat → Word

/-- FREE VALUE: the bytes a failed or cut-off flash operation leaves in a data area (R98, log 10). Applied to a counter
of the state and the byte's place in the leaf. -/
opaque Config.freeByte : Nat → Nat → Byte

/-- FREE VALUE: the table state, as a number 0..8 after reduction, of a leaf that the header scan has not yet read, or
has read as valid and the rebuild has not yet settled (R101, R170, log 11). Applied to the leaf number. -/
opaque Config.unsettledLeaf : Nat → Nat

/-- FREE VALUE: how many words of what the part was sending had gone when a bus reset or a loss of main power ended it
(R176, R178, log 31). Applied to a counter of the state. -/
opaque Config.freeWordsGone : Nat → Nat

end Sys2Proof
end

