-- ==== Sys2Proof/Syntax.lean ====
section
/-! DEFINITION. The commands of the part: one constructor per row of spec/opcode_table.json. A request carries the head
of its packet and its fields at the widths of R181, so that every packet a node can send is a command. -/

namespace Sys2Proof

/-- Word 0 of a request packet (R181): the target (a hub number 0..3, 15 the broadcast target, 4..14 no hub) and the
sending node (0..31; 32..63 are treated as role NONE). -/
structure Head where
  target : BitVec 4
  sender : BitVec 6
  deriving DecidableEq, Repr

/-- The commands. -/
inductive Instr where
  /-- OPEN CALL from a line node (R46). -/
  | openCall (h : Head) (channel : BitVec 3) (extension : BitVec 24) (identityLength : BitVec 5) (identity : BitVec 80)
  /-- PAGE BEGIN (R48). -/
  | pageBegin (h : Head) (channel : BitVec 3) (density width coding : BitVec 2)
  /-- APPEND's request packet (R51); its data block ends with `appendDataBlockEnd`. -/
  | append (h : Head) (channel : BitVec 3) (count : BitVec 9)
  /-- The end of an APPEND's data block (R175): the words received. Complete when they reach the expected length;
  otherwise ended early by an end mark or a dropped framing line, which the part treats alike. -/
  | appendDataBlockEnd (words : List Word)
  /-- PAGE END (R57). -/
  | pageEnd (h : Head) (channel : BitVec 3) (scanlines badLines : BitVec 16)
  /-- CLOSE CALL (R58). -/
  | closeCall (h : Head) (channel : BitVec 3) (ending : BitVec 2)
  /-- END SESSION from the records node (R61). -/
  | endSession (h : Head) (session : BitVec 6)
  /-- The run counter reaches a session's idle deadline (R60). -/
  | idleExpiry (session : BitVec 5)
  /-- LIST (R127). -/
  | list (h : Head) (afterSerial : BitVec 32) (department : BitVec 5)
  /-- DESCRIBE (R130). -/
  | describe (h : Head) (slot : BitVec 13) (generation : BitVec 8) (firstPage : BitVec 10)
  /-- READ (R133). -/
  | read (h : Head) (slot : BitVec 13) (generation : BitVec 8) (page : BitVec 10) (offset : BitVec 18) (count : BitVec 9)
  /-- RELEASE (R110). -/
  | release (h : Head) (slot : BitVec 13) (generation : BitVec 8) (choice : BitVec 2)
  /-- FORWARD (R114). -/
  | forward (h : Head) (slot : BitVec 13) (generation : BitVec 8) (department : BitVec 5)
  /-- HOLD (R147). -/
  | hold (h : Head) (slot : BitVec 13) (generation : BitVec 8) (tag : BitVec 16)
  /-- UNHOLD (R148). -/
  | unhold (h : Head) (slot : BitVec 13) (generation : BitVec 8) (tag : BitVec 16)
  /-- SET NODE (R26). -/
  | setNode (h : Head) (node : BitVec 6) (role : BitVec 3) (value : BitVec 5)
  /-- SET ROUTE (R33). -/
  | setRoute (h : Head) (index : BitVec 7) (pattern : BitVec 24) (department : BitVec 5) (role : BitVec 2)
  /-- CLEAR ROUTE (R33). -/
  | clearRoute (h : Head) (index : BitVec 7)
  /-- SET DEPARTMENT (R30). -/
  | setDepartment (h : Head) (department : BitVec 5) (enabled : BitVec 2) (quota : BitVec 17) (escalation : BitVec 14)
      (retention : BitVec 12) (copyAll : BitVec 2)
  /-- SET LIMITS (R32). -/
  | setLimits (h : Head) (floor : BitVec 14) (idleTimeout : BitVec 10)
  /-- SET CLOCK addressed to a hub number (R156, R157). -/
  | setClock (h : Head) (value : BitVec 48)
  /-- SET CLOCK at the broadcast target (R172). -/
  | broadcastSetClock (sender : BitVec 6) (value : BitVec 48)
  /-- STATUS (R177). -/
  | status (h : Head)
  /-- A request whose operation code names no request: 0 or 21..31 (R173, R181). -/
  | unknownOperation (h : Head) (code : BitVec 5)
  /-- One tick of the timebase (R154). -/
  | tick
  /-- The run counter reaches the escalation deadline of a department's obligation on a document (R117). -/
  | escalation (slot : BitVec 12) (department : BitVec 4)
  /-- The receipt clock reaches a document's retain-until (R149). -/
  | retentionDue (slot : BitVec 12)
  /-- A bank's program completes (R91). -/
  | programComplete (bank : BitVec 2)
  /-- A bank's program fails (R92). -/
  | programFail (bank : BitVec 2)
  /-- A bank's fetch completes (R76). -/
  | fetchComplete (bank : BitVec 2)
  /-- A bank's void mark completes or fails (R96). -/
  | voidMarkEnd (bank : BitVec 2) (completed : Bool)
  /-- A bank's erase completes or fails (R97). -/
  | eraseEnd (bank : BitVec 2) (completed : Bool)
  /-- The bus reset input is asserted (R178). When it cuts off an APPEND's data block, the words received before it. -/
  | busReset (words : List Word)
  /-- PFW is asserted (R163). -/
  | powerFailWarning
  /-- PFW is withdrawn (R161). -/
  | powerFailWithdrawn
  /-- Main power is lost (R163); whether the loss cut off a change of the backed-up memory (R162). -/
  | mainPowerLoss (cutsChange : Bool)
  /-- Main power returns; the straps are read (R162, R179). -/
  | mainPowerReturn (hub : BitVec 2) (recordsNode : BitVec 5)
  /-- Warm-start reconciliation completes (R166). -/
  | warmStartComplete
  /-- The cold-start header scan and rebuild complete (R169). -/
  | rebuildComplete
  /-- The bus reset input is withdrawn (R178). -/
  | busResetWithdrawn
  /-- The backup supply fails while main power is off (R162). -/
  | backupSupplyFailure
  /-- The header scan finishes reading one more leaf's spare area (R170). -/
  | headerScanLeafRead
  deriving DecidableEq, Repr

end Sys2Proof
end

