-- ==== Sys2Proof/WellFormed.lean ====
section
/-! DEFINITION. Which commands are well formed: those the outside can send. Whether a request's fields are in range is
not asked here: such a request is sent, and the part answers it DENIED(MALFORMED) (R173). -/

namespace Sys2Proof

/-- The operation codes that name a request: 1..20 (R181). -/
def namesRequest (code : Nat) : Bool := 1 ≤ code && code ≤ 20

/-- A data block carries up to 128 words (11.4). -/
def blockLimit : Nat := 128

/-- The broadcast target (R181). -/
def broadcastTarget : BitVec 4 := 15

/-- A command the outside can send: an addressed SET CLOCK is not at the broadcast target (that one is
`broadcastSetClock`), an unknown operation's code names no request, and a data block has at most 128 words. -/
def Instr.wellFormed : Instr → Bool
  | .setClock h _ => h.target != broadcastTarget
  | .unknownOperation _ code => !namesRequest code.toNat
  | .appendDataBlockEnd words => words.length ≤ blockLimit
  | .busReset words => words.length ≤ blockLimit
  | .openCall .. | .pageBegin .. | .append .. | .pageEnd .. | .closeCall .. | .endSession .. | .idleExpiry .. => true
  | .list .. | .describe .. | .read .. | .release .. | .forward .. | .hold .. | .unhold .. => true
  | .setNode .. | .setRoute .. | .clearRoute .. | .setDepartment .. | .setLimits .. | .broadcastSetClock .. => true
  | .status .. | .tick | .escalation .. | .retentionDue .. | .programComplete .. | .programFail .. => true
  | .fetchComplete .. | .voidMarkEnd .. | .eraseEnd .. | .powerFailWarning | .powerFailWithdrawn => true
  | .mainPowerLoss .. | .mainPowerReturn .. | .warmStartComplete | .rebuildComplete | .busResetWithdrawn => true
  | .backupSupplyFailure | .headerScanLeafRead => true

end Sys2Proof
end

