-- ==== Sys2Proof/Machine/Format.lean ====
section
/-! DEFINITION. The packing of every format (R180): fixed-width fields laid end to end, the most significant bit first,
from bit 15 of the first word; and the CRC of the leaf header (R184). -/

namespace Sys2Proof.Machine

/-- A field: its width in bits and its value. -/
abbrev Field := Nat × Nat

/-- The low `w` bits of `v`, the most significant first. -/
def bitsOf : Nat → Nat → List Bool
  | 0, _ => []
  | w + 1, v => v.testBit w :: bitsOf w v

/-- The number whose bits, the most significant first, are given. -/
def numberOf (bits : List Bool) : Nat := bits.foldl (fun acc b => 2 * acc + b.toNat) 0

/-- The bits of a sequence of fields, in order and without gaps. -/
def fieldBits (fields : List Field) : List Bool := fields.flatMap (fun f => bitsOf f.1 f.2)

/-- Reads fields of the given widths, one after another. -/
def readFields : List Nat → List Bool → List Nat
  | [], _ => []
  | w :: ws, bits => numberOf (bits.take w) :: readFields ws (bits.drop w)

/-- The bits of one word, padded with zeros where fewer than 16 are left. -/
def wordFrom (bits : List Bool) : Word := BitVec.ofNat 16 (numberOf ((bits ++ List.replicate 16 false).take 16))

/-- `n` words from a sequence of bits; bits after the last field are sent as zero (R180). -/
def wordsFrom : Nat → List Bool → List Word
  | 0, _ => []
  | n + 1, bits => wordFrom bits :: wordsFrom n (bits.drop 16)

/-- The bits of a sequence of words. -/
def wordBits (words : List Word) : List Bool := words.flatMap (fun w => bitsOf 16 w.toNat)

/-- The words a sequence of fields needs. -/
def packFields (fields : List Field) : List Word :=
  let bits := fieldBits fields
  wordsFrom ((bits.length + 15) / 16) bits

/-- A presence bit and the field it precedes; an absent field is sent as zeros (R180). -/
def optField (w : Nat) : Option Nat → List Field
  | none => [(1, 0), (w, 0)]
  | some v => [(1, 1), (w, v)]

/-- A flag of one bit. -/
def flagField (b : Bool) : Field := (1, b.toNat)

/-- The two bytes of each word of a data block, the first in bits 15..8 (R180). -/
def bytesOfWords (words : List Word) : List Byte := words.flatMap (fun w => [highByte w, lowByte w])

/-- The words of page data; an odd last byte stands in bits 15..8 over a zero (R180). -/
def wordsOfBytes : List Byte → List Word
  | [] => []
  | [b] => [b ++ (0 : Byte)]
  | b :: c :: rest => (b ++ c) :: wordsOfBytes rest

/-- The digits of a field of four bits each, the first most significant (R180). -/
def digitsOf : Nat → Nat → List Nat
  | 0, _ => []
  | n + 1, v => v / 16 ^ n % 16 :: digitsOf n v

/-- One bit taken into the CRC: polynomial x^16 + x^12 + x^5 + 1, most significant bit first (R184). -/
def crcBit (crc : BitVec 16) (bit : Bool) : BitVec 16 :=
  if crc.msb ^^ bit then (crc <<< 1) ^^^ 0x1021#16 else crc <<< 1

/-- The CRC of a sequence of bits: starts from all ones, not inverted at the end (R184). -/
def crc16 (bits : List Bool) : BitVec 16 := bits.foldl crcBit 0xFFFF#16

end Sys2Proof.Machine
end

