-- ==== Sys2Proof/Decode.lean ====
section
/-! DEFINITION. The commands that bits spell. The table of commands gives no row any bits, so `decodeTableWord` answers
none. The request packets of R181 are read and written here as well: a packet of 8 words spells a request command. -/

namespace Sys2Proof

open Sys2Proof.Machine

/-- The command that a word of the table's bits spells: the table gives no row any bits. -/
def decodeTableWord (_nbits _w : Nat) : Option Instr := none

/-! ### Request packets (R181) -/

/-- Words of a request packet (R171). -/
def packetLength : Nat := 8

/-- The widths of an operation's fields, from word 1 on (R181). -/
def operationWidths : Nat → List Nat
  | 1 => [3, 24, 5, 80]
  | 2 => [3, 2, 2, 2]
  | 3 => [3, 9]
  | 4 => [3, 16, 16]
  | 5 => [3, 2]
  | 6 => [6]
  | 7 => [32, 5]
  | 8 => [13, 8, 10]
  | 9 => [13, 8, 10, 18, 9]
  | 10 => [13, 8, 2]
  | 11 => [13, 8, 5]
  | 12 => [13, 8, 16]
  | 13 => [13, 8, 16]
  | 14 => [6, 3, 5]
  | 15 => [7, 24, 5, 2]
  | 16 => [7]
  | 17 => [5, 2, 17, 14, 12, 2]
  | 18 => [14, 10]
  | 19 => [48]
  | _ => []

/-- The command an operation and its fields spell; SET CLOCK at the broadcast target is a command of its own (R172). -/
def decodeOperation (h : Head) (op : Nat) (fields : List Nat) : Option Instr :=
  match op, fields with
  | 1, [c, e, l, i] => some (.openCall h (.ofNat _ c) (.ofNat _ e) (.ofNat _ l) (.ofNat _ i))
  | 2, [c, d, w, k] => some (.pageBegin h (.ofNat _ c) (.ofNat _ d) (.ofNat _ w) (.ofNat _ k))
  | 3, [c, n] => some (.append h (.ofNat _ c) (.ofNat _ n))
  | 4, [c, a, b] => some (.pageEnd h (.ofNat _ c) (.ofNat _ a) (.ofNat _ b))
  | 5, [c, e] => some (.closeCall h (.ofNat _ c) (.ofNat _ e))
  | 6, [n] => some (.endSession h (.ofNat _ n))
  | 7, [a, d] => some (.list h (.ofNat _ a) (.ofNat _ d))
  | 8, [n, g, p] => some (.describe h (.ofNat _ n) (.ofNat _ g) (.ofNat _ p))
  | 9, [n, g, p, o, c] => some (.read h (.ofNat _ n) (.ofNat _ g) (.ofNat _ p) (.ofNat _ o) (.ofNat _ c))
  | 10, [n, g, c] => some (.release h (.ofNat _ n) (.ofNat _ g) (.ofNat _ c))
  | 11, [n, g, d] => some (.forward h (.ofNat _ n) (.ofNat _ g) (.ofNat _ d))
  | 12, [n, g, t] => some (.hold h (.ofNat _ n) (.ofNat _ g) (.ofNat _ t))
  | 13, [n, g, t] => some (.unhold h (.ofNat _ n) (.ofNat _ g) (.ofNat _ t))
  | 14, [n, r, v] => some (.setNode h (.ofNat _ n) (.ofNat _ r) (.ofNat _ v))
  | 15, [i, p, d, r] => some (.setRoute h (.ofNat _ i) (.ofNat _ p) (.ofNat _ d) (.ofNat _ r))
  | 16, [i] => some (.clearRoute h (.ofNat _ i))
  | 17, [d, e, q, p, r, c] =>
    some (.setDepartment h (.ofNat _ d) (.ofNat _ e) (.ofNat _ q) (.ofNat _ p) (.ofNat _ r) (.ofNat _ c))
  | 18, [f, t] => some (.setLimits h (.ofNat _ f) (.ofNat _ t))
  | 19, [v] =>
    if h.target = broadcastTarget then some (.broadcastSetClock h.sender (.ofNat _ v)) else some (.setClock h (.ofNat _ v))
  | 20, [] => some (.status h)
  | code, [] => if namesRequest code then none else some (.unknownOperation h (.ofNat _ code))
  | _, _ => none

/-- The command a request packet spells. A packet of another length is no request (R171). -/
def decodePacket (words : List Word) : Option Instr :=
  if words.length ≠ packetLength then none
  else
    match readFields [4, 6, 5, 1] (wordBits words) with
    | [target, sender, op, _] =>
      decodeOperation ⟨.ofNat _ target, .ofNat _ sender⟩ op (readFields (operationWidths op) ((wordBits words).drop 16))
    | _ => none

/-- Word 0 of a packet (R181). -/
def headFields (h : Head) (op : Nat) : List Field := [(4, h.target.toNat), (6, h.sender.toNat), (5, op), (1, 0)]

/-- The head, operation code and field values of a request; the other commands are no packets. -/
def packetOf : Instr → Option (Head × Nat × List Nat)
  | .openCall h c e l i => some (h, 1, [c.toNat, e.toNat, l.toNat, i.toNat])
  | .pageBegin h c d w k => some (h, 2, [c.toNat, d.toNat, w.toNat, k.toNat])
  | .append h c n => some (h, 3, [c.toNat, n.toNat])
  | .pageEnd h c a b => some (h, 4, [c.toNat, a.toNat, b.toNat])
  | .closeCall h c e => some (h, 5, [c.toNat, e.toNat])
  | .endSession h n => some (h, 6, [n.toNat])
  | .list h a d => some (h, 7, [a.toNat, d.toNat])
  | .describe h n g p => some (h, 8, [n.toNat, g.toNat, p.toNat])
  | .read h n g p o c => some (h, 9, [n.toNat, g.toNat, p.toNat, o.toNat, c.toNat])
  | .release h n g c => some (h, 10, [n.toNat, g.toNat, c.toNat])
  | .forward h n g d => some (h, 11, [n.toNat, g.toNat, d.toNat])
  | .hold h n g t => some (h, 12, [n.toNat, g.toNat, t.toNat])
  | .unhold h n g t => some (h, 13, [n.toNat, g.toNat, t.toNat])
  | .setNode h n r v => some (h, 14, [n.toNat, r.toNat, v.toNat])
  | .setRoute h i p d r => some (h, 15, [i.toNat, p.toNat, d.toNat, r.toNat])
  | .clearRoute h i => some (h, 16, [i.toNat])
  | .setDepartment h d e q p r c => some (h, 17, [d.toNat, e.toNat, q.toNat, p.toNat, r.toNat, c.toNat])
  | .setLimits h f t => some (h, 18, [f.toNat, t.toNat])
  | .setClock h v => some (h, 19, [v.toNat])
  | .broadcastSetClock sender v => some (⟨broadcastTarget, sender⟩, 19, [v.toNat])
  | .status h => some (h, 20, [])
  | .unknownOperation h code => some (h, code.toNat, [])
  | .appendDataBlockEnd _ | .idleExpiry _ | .tick | .escalation _ _ | .retentionDue _ => none
  | .programComplete _ | .programFail _ | .fetchComplete _ | .voidMarkEnd _ _ | .eraseEnd _ _ => none
  | .busReset _ | .powerFailWarning | .powerFailWithdrawn | .mainPowerLoss _ | .mainPowerReturn _ _ => none
  | .warmStartComplete | .rebuildComplete | .busResetWithdrawn | .backupSupplyFailure | .headerScanLeafRead => none

/-- The request packet of a request: 8 words, the bits after its last field zero (R180, R181). -/
def encodePacket (i : Instr) : Option (List Word) :=
  (packetOf i).map (fun p =>
    wordsFrom packetLength (fieldBits (headFields p.1 p.2.1 ++ (operationWidths p.2.1).zip p.2.2)))

end Sys2Proof
end

