-- ==== Sys2Proof/Machine/Table.lean ====
section
/-! DEFINITION. Tables kept as sparse lists of (key, value) pairs in one canonical form: keys strictly rising, and no
value equal to what an unlisted key reads as. Every numbered collection of the part (sessions, buffers, leaves, catalog
slots, nodes, departments, routes, the flash) is one of these, so equal contents are equal data. -/

namespace Sys2Proof.Machine

/-- Entries by number; what an unlisted number reads as is given to each operation. -/
abbrev Table (α : Type) := List (Nat × α)

/-- The value at key `n`, `d` where no entry lists it. -/
def Table.read {α : Type} (d : α) : Table α → Nat → α
  | [], _ => d
  | (k, v) :: t, n => if n = k then v else Table.read d t n

/-- Lists `v` at key `n`, in its place. -/
def Table.put {α : Type} (n : Nat) (v : α) : Table α → Table α
  | [] => [(n, v)]
  | (k, w) :: t => if n < k then (n, v) :: (k, w) :: t else if n = k then (n, v) :: t else (k, w) :: Table.put n v t

/-- No entry at key `n`. -/
def Table.drop {α : Type} (n : Nat) (t : Table α) : Table α := t.filter (fun p => p.1 ≠ n)

/-- `v` at key `n`; the value an unlisted key reads as is not listed. -/
def Table.write {α : Type} [DecidableEq α] (d : α) (t : Table α) (n : Nat) (v : α) : Table α :=
  if v = d then Table.drop n t else Table.put n v t

/-- The canonical form. -/
abbrev Table.wf {α : Type} [DecidableEq α] (d : α) (t : Table α) : Prop :=
  t.Pairwise (fun p q => p.1 < q.1) ∧ ∀ p ∈ t, p.2 ≠ d

/-- How many listed values meet `p`. -/
def Table.count {α : Type} (p : α → Bool) (t : Table α) : Nat := t.countP (fun e => p e.2)

/-- The first number from `start` on, within `fuel` of it, that meets `p`. -/
def firstFrom (p : Nat → Bool) : Nat → Nat → Option Nat
  | 0, _ => none
  | fuel + 1, start => if p start then some start else firstFrom p fuel (start + 1)

/-- `f` at position `i` of a list. -/
def updateNth {α : Type} (f : α → α) : List α → Nat → List α
  | [], _ => []
  | x :: xs, 0 => f x :: xs
  | x :: xs, i + 1 => x :: updateNth f xs i

/-- A set of numbers kept as a rising list: `n` joins it. -/
def insertRising (n : Nat) : List Nat → List Nat
  | [] => [n]
  | k :: t => if n < k then n :: k :: t else if n = k then k :: t else k :: insertRising n t

end Sys2Proof.Machine
end

