-- ==== Sys2Proof/Machine/State.lean ====
section
/-! DEFINITION. Everything the spec gives the part, as plain data, and the part after reset. The records are grouped as
the manual groups them, by the block that owns them: `Tables` (routing unit), `Body` (sessions, staging pool, leaf store
controller, catalog with its obligations and retention fields, accounts and attention), `Timebase`, `Recovery`, `Flash`,
and the bus interface's own fields. Numbers that the manual counts, compares or adds are `Nat`s; INVENTORY.md gives
each one's range. -/

namespace Sys2Proof.Machine

/-! ### The catalog (01_documents_and_the_catalog.md) -/

/-- Density of a page (1.2). -/
inductive Density where
  | normal | fine | extraFine
  deriving DecidableEq, Repr

/-- Width of a page (1.2). -/
inductive PageWidth where
  | narrow | standard | wide
  deriving DecidableEq, Repr

/-- State of a page: OPEN, CLOSED, CUT (R17). -/
inductive PageState where
  | openPage | closed | cut
  deriving DecidableEq, Repr

/-- A leaf slot names one leaf, waits for a replacement, or has been passed by a purge (1.2). -/
inductive LeafSlot where
  | placed (leaf : Nat)
  | unplaced
  | released
  deriving DecidableEq, Repr

/-- A page record (1.2). Its page number is its place in the page list. -/
structure Page where
  state : PageState
  density : Density
  width : PageWidth
  coding : Nat
  byteLength : Nat
  /-- Scanline and bad-line counts; present only when the page is CLOSED by a PAGE END. -/
  counts : Option (Nat × Nat)
  slots : List LeafSlot
  deriving DecidableEq, Repr

/-- Document states (1.5). -/
inductive DocState where
  | receiving | distributing | retained | purging
  deriving DecidableEq, Repr

/-- Endings of a document (R7). -/
inductive Ending where
  | complete | remoteHangup | lineFault | timeout | storeFull | forced | withdrawn | busReset | powerLoss | rebuilt
  deriving DecidableEq, Repr

/-- A receipt-clock value with the trusted flag as it stood (R155). -/
structure Stamp where
  ticks : Nat
  trusted : Bool
  deriving DecidableEq, Repr

/-- Why an obligation was created (R104). -/
inductive ObKind where
  | primary | unrouted | overflow | copy | rerouted | escalated | forwarded | rebuilt
  deriving DecidableEq, Repr

/-- PENDING until a READ by the department is TAKEN, then OPENED (R105). -/
inductive ObState where
  | pending | opened
  deriving DecidableEq, Repr

/-- An obligation of one department on a document (R103). -/
structure Obligation where
  department : Nat
  kind : ObKind
  state : ObState
  created : Nat
  deadline : Option Nat
  escalated : Bool
  charge : Nat
  deriving DecidableEq, Repr

/-- The retention base and retain-until: absent while RECEIVING, pending, or known (8.1). -/
inductive Retain where
  | absent
  | pending
  | known (ticks : Nat)
  deriving DecidableEq, Repr

/-- A document record (1.1, 8.1). Its handle's slot is its key in the catalog; its leaf count is computed. -/
structure Document where
  serial : Nat
  state : DocState
  ending : Option Ending
  session : Option Nat
  /-- Six digits, or absent. -/
  extension : Option (List Nat)
  /-- Character codes of R180, 1..20 of them, or absent. -/
  caller : Option (List Nat)
  openTime : Stamp
  receipt : Option Stamp
  pages : List Page
  obligations : List Obligation
  retained : Nat
  base : Retain
  /-- The retention departments, a set kept rising (8.1). -/
  departments : List Nat
  retainUntil : Retain
  /-- The hold tags, a set kept rising (8.1). -/
  holds : List Nat
  deriving DecidableEq, Repr

/-- A catalog slot: a generation, kept in both conditions, and free or one document (R1). -/
structure Slot where
  generation : Nat
  doc : Option Document
  deriving DecidableEq, Repr

/-- A free slot at generation 0, as after a cold start (R23). -/
def Slot.free : Slot := ⟨0, none⟩

/-- Where a leaf or a buffer belongs: document slot, page number from 1, leaf slot index from 0 (R82, 4.1). -/
structure Place where
  slot : Nat
  page : Nat
  index : Nat
  deriving DecidableEq, Repr

/-! ### Sessions (03_intake_sessions.md) -/

/-- Session states (3.1). -/
inductive SessState where
  | idle | admitted | inPage | stopped
  deriving DecidableEq, Repr

/-- A session record (3.1). -/
structure Session where
  state : SessState
  doc : Option Nat
  deadline : Option Nat
  /-- The staging queue, oldest first. -/
  queue : List Nat
  deriving DecidableEq, Repr

/-- IDLE, document and deadline absent, queue empty (R43). -/
def Session.idle : Session := ⟨.idle, none, none, []⟩

/-! ### The staging pool (04_staging_buffers.md) -/

/-- Buffer states (4.1). -/
inductive BufState where
  | free | filling | ready | programming | fetching | window
  deriving DecidableEq, Repr

/-- Who holds a buffer (4.1). -/
inductive Holder where
  | session (n : Nat)
  | orphan
  | delivery
  deriving DecidableEq, Repr

/-- A buffer record with its data bytes (4.1). Its fill is the number of data bytes it holds. -/
structure Buffer where
  state : BufState
  leaf : Option Nat
  place : Option Place
  holder : Option Holder
  data : List Byte
  discard : Bool
  deriving DecidableEq, Repr

/-- FREE, leaf, place and holder absent, fill 0, discard no (R66). -/
def Buffer.free : Buffer := ⟨.free, none, none, none, [], false⟩

/-! ### The leaf store controller (05_the_leaf_store.md) -/

/-- Leaf states (5.1). -/
inductive LeafState where
  | blank | filling | ready | programming | programmed | voiding | void | erasing | retired
  deriving DecidableEq, Repr

/-- A leaf table entry (R82). -/
structure Leaf where
  state : LeafState
  owner : Option Place
  buffer : Option Nat
  deriving DecidableEq, Repr

/-- BLANK, owner and buffer absent. -/
def Leaf.blank : Leaf := ⟨.blank, none, none⟩

/-- The flash operation under way on a bank (R88). A program keeps the header assembled when it started (R87). -/
inductive BankOp where
  | none
  | program (buffer leaf : Nat) (header : List Word)
  | fetch (buffer : Nat)
  | voidMark (leaf : Nat)
  | erase (leaf : Nat)
  deriving DecidableEq, Repr

/-- A bank: blank list, erase queue and fetch queue, each front first, and the operation under way (R83, R94, R97). -/
structure Bank where
  blank : List Nat
  eraseQueue : List Nat
  fetchQueue : List Nat
  op : BankOp
  deriving DecidableEq, Repr

/-- A bank with empty lists and nothing under way. -/
def Bank.empty : Bank := ⟨[], [], [], .none⟩

/-! ### What the six storing blocks hold together -/

/-- The state of the session unit, the staging pool, the leaf store controller, the catalog, the obligation and account
unit and the retention unit. The operations of these blocks are functions of it, so that they cannot touch the tables,
the timebase, the recovery unit, the flash or the queue of commands. -/
structure Body where
  sessions : Table Session
  buffers : Table Buffer
  /-- Every READY and PROGRAMMING buffer in the order in which each became ready (4.1). -/
  ready : List Nat
  /-- Every FETCHING and WINDOW buffer, least recently used first (R74). -/
  windows : List Nat
  leaves : Table Leaf
  banks : Table Bank
  /-- The slots of PURGING documents in the order in which their purges started (R95). -/
  purges : List Nat
  catalog : Table Slot
  nextSerial : Nat
  /-- The departments' accounts (R107). -/
  accounts : Table Nat
  /-- The departments' attention (R39). -/
  attention : Table Bool
  /-- The MODEL's own: how many free choices have been taken (log 7). -/
  draws : Nat
  deriving DecidableEq, Repr

/-! ### The routing unit's tables (02_departments_and_routing.md) -/

/-- A node's role (2.1). -/
inductive Role where
  | none
  | line (index : Nat)
  | department (d : Nat)
  | records
  deriving DecidableEq, Repr

/-- What SET DEPARTMENT and SET NODE set of a department record (R29); account and attention stand in `Body`. -/
structure Dept where
  enabled : Bool
  quota : Nat
  escalation : Nat
  retention : Nat
  copyAll : Bool
  nodes : List Nat
  deriving DecidableEq, Repr

/-- Cold-start values of departments 1..15 (R29). -/
def Dept.cold : Dept := ⟨false, 65536, 0, 2555, false, []⟩

/-- Cold-start values of intake (R29). -/
def Dept.coldIntake : Dept := { Dept.cold with enabled := true }

/-- Role of a route entry (2.5). -/
inductive RouteRole where
  | primary | copy
  deriving DecidableEq, Repr

/-- A route entry in use (R33): six pattern positions, each a digit 0..9 or 14 for ANY (R180). -/
structure Route where
  pattern : List Nat
  department : Nat
  role : RouteRole
  deriving DecidableEq, Repr

/-- The node, department and route tables, the limits, and the straps as last read. -/
structure Tables where
  nodes : Table Role
  depts : Table Dept
  routes : Table (Option Route)
  /-- Admission floor in leaves (R32). -/
  floor : Nat
  /-- Idle timeout in ticks (R32). -/
  idleTimeout : Nat
  /-- Hub number strap as read at the last start (R179). -/
  hub : Nat
  /-- Records-node strap as read at the last start (R25). -/
  recordsNode : Nat
  deriving DecidableEq, Repr

/-! ### The timebase (09_the_receipt_clock.md) -/

/-- Receipt clock, trusted flag, hold-back and run counter (R154). -/
structure Timebase where
  clock : Nat
  trusted : Bool
  holdBack : Nat
  run : Nat
  deriving DecidableEq, Repr

/-! ### The recovery unit (10_power_failure_and_recovery.md) -/

/-- The part state, with main power off beside the four states (R161). -/
inductive PartState where
  | off | starting | rebuilding | running | powerFail
  deriving DecidableEq, Repr

/-- Kind of the last start (R170). -/
inductive StartKind where
  | warm | cold
  deriving DecidableEq, Repr

/-- Part state, consistency mark, supplies and the record of the last starts (R161, R162, R170). -/
structure Recovery where
  part : PartState
  /-- The consistency mark is present (R162). -/
  mark : Bool
  /-- The backup supply holds the backed-up memory (R162). -/
  backup : Bool
  /-- The PFW input is asserted (R161). -/
  pfw : Bool
  lastStart : StartKind
  /-- Leaves the header scan has read (R170). -/
  scanned : Nat
  warmClosed : Nat
  warmDiscarded : Nat
  warmRemoved : Nat
  coldRebuilt : Nat
  coldDropped : Nat
  deriving DecidableEq, Repr

/-! ### The flash array (5.9, R184) -/

/-- A leaf's spare area: twelve header words and the void-mark word (R184). -/
structure Spare where
  header : List Word
  voidWord : Word
  deriving DecidableEq, Repr

/-- Erased flash reads as all ones (R184). -/
def Spare.erased : Spare := ⟨List.replicate 12 0xFFFF#16, 0xFFFF#16⟩

/-- The data areas by byte address, leaf × 4,096 + offset. -/
abbrev Memory := List Host.Cell

/-- What a byte of the data areas that nothing has written reads as: erased flash, all ones (R184). -/
def Memory.erasedByte : Byte := 0xFF#8

/-- The canonical form of the data areas: addresses rising, no erased byte listed. -/
abbrev Memory.wf (m : Memory) : Prop := Table.wf Memory.erasedByte m

/-- The array: data areas, spare areas, and the MODEL's own count of free values taken (log 10). -/
structure Flash where
  data : Memory
  spare : Table Spare
  draws : Nat
  deriving DecidableEq, Repr

/-! ### The bus interface (11_the_backplane_bus.md, 12_packet_and_record_formats.md) -/

/-- Reasons of DEFER, with the codes of R182 in order 1..9. -/
inductive Defer where
  | ringFull | stagingFull | storeLow | storeBusy | catalogFull | fetching | windowsBusy | notYet | standby
  deriving DecidableEq, Repr

/-- Reasons of DENIED, with the codes of R182 in order 1..23. -/
inductive Denied where
  | notEnrolled | notPermitted | malformed | noSession | channelBusy | pageOpen | pageNotOpen | storeFull | pageTooLong
  | tooManyPages | serialExhausted | noDocument | staleHandle | notObliged | stillReceiving | intakeCannotDecline | range
  | alreadyObliged | departmentDisabled | alreadyAssigned | holdFull | holdAbsent | purging
  deriving DecidableEq, Repr

/-- The results a TAKEN answer reports (R182). -/
inductive Result where
  | plain
  | openCall (department : Nat) (kind : ObKind) (session slot generation serial : Nat)
  | pageBegin (page : Nat)
  | append (taken length : Nat)
  | pageEnd (page length : Nat)
  | list (entries : Nat) (more : Bool)
  | read (n : Nat)
  | release (state : DocState) (account : Nat)
  | forward (charge : Nat) (state : DocState)
  | hold (tags : Nat)
  | unhold (tags : Nat) (state : DocState)
  | setDepartment (enabled : Bool) (quota escalation retention : Nat) (copyAll : Bool)
  | setLimits (floor seconds : Nat)
  | setClock (value clock : Nat) (trusted : Bool) (holdBack : Nat)
  deriving DecidableEq, Repr

/-- TAKEN, DEFER or DENIED (R174). -/
inductive Verdict where
  | taken (r : Result)
  | defer (r : Defer)
  | denied (r : Denied)
  deriving DecidableEq, Repr

/-- An answer packet: the operation code answered, the verdict and the attention indication (R174). -/
structure Answer where
  code : Nat
  verdict : Verdict
  attention : Bool
  deriving DecidableEq, Repr

/-- A LIST entry (R129). -/
structure ListEntry where
  slot : Nat
  generation : Nat
  serial : Nat
  kind : ObKind
  obState : ObState
  docState : DocState
  receiving : Bool
  pages : Nat
  receipt : Option Stamp
  deriving DecidableEq, Repr

/-- An obligation as DESCRIBE reports it (R131). -/
structure ObReport where
  department : Nat
  kind : ObKind
  state : ObState
  escalated : Bool
  deadline : Option Nat
  charge : Nat
  deriving DecidableEq, Repr

/-- A page summary (R132). -/
structure PageSummary where
  number : Nat
  state : PageState
  density : Density
  width : PageWidth
  coding : Nat
  byteLength : Nat
  counts : Option (Nat × Nat)
  deriving DecidableEq, Repr

/-- What a DESCRIBE answer's data block reports (R131, R132, R183). -/
structure Description where
  slot : Nat
  generation : Nat
  serial : Nat
  state : DocState
  ending : Option Ending
  session : Option Nat
  extension : Option (List Nat)
  caller : Option (List Nat)
  openTime : Stamp
  receipt : Option Stamp
  retainUntil : Retain
  run : Nat
  pageCount : Nat
  leafCount : Nat
  retained : Nat
  holds : List Nat
  obligations : List ObReport
  pages : List PageSummary
  deriving DecidableEq, Repr

/-- The recovery unit's contribution to STATUS (R170). -/
structure RecoveryReading where
  part : PartState
  lastStart : StartKind
  scanned : Option Nat
  warmClosed : Nat
  warmDiscarded : Nat
  warmRemoved : Nat
  coldRebuilt : Nat
  coldDropped : Nat
  deriving DecidableEq, Repr

/-- One department as STATUS reports it (R41). -/
structure DeptReading where
  enabled : Bool
  copyAll : Bool
  quota : Nat
  account : Nat
  attention : Bool
  nodes : List Nat
  deriving DecidableEq, Repr

/-- The routing unit's contribution (R41). -/
structure RoutingReading where
  recordsNode : Nat
  hub : Nat
  roles : List Role
  departments : List DeptReading
  routesInUse : Nat
  floor : Nat
  idleSeconds : Nat
  deriving DecidableEq, Repr

/-- The catalog's contribution (R20). -/
structure CatalogReading where
  freeSlots : Nat
  receiving : Nat
  distributing : Nat
  retained : Nat
  purging : Nat
  pageRecords : Nat
  nextSerial : Nat
  deriving DecidableEq, Repr

/-- An open session as STATUS reports it (R65). -/
structure OpenSession where
  slot : Nat
  generation : Nat
  serial : Nat
  pages : Nat
  queued : Nat
  ticksLeft : Nat
  deriving DecidableEq, Repr

/-- The session unit's contribution (R65). -/
structure SessionReading where
  sessions : List (SessState × Option OpenSession)
  idle : Nat
  admitted : Nat
  inPage : Nat
  stopped : Nat
  deriving DecidableEq, Repr

/-- The staging pool's contribution (R81). -/
structure StagingReading where
  /-- Buffers FREE, FILLING, READY, PROGRAMMING, FETCHING, WINDOW. -/
  byState : List Nat
  orphans : Nat
  orphansUnplaced : Nat
  /-- READY buffers at urgency 1, 2, 3. -/
  byUrgency : List Nat
  windows : Nat
  discards : Nat
  windowAllowed : Bool
  deriving DecidableEq, Repr

/-- One bank as STATUS reports it (R102). -/
structure BankReading where
  blank : Nat
  eraseQueue : Nat
  fetchQueue : Nat
  /-- The operation under way: none 0, program 1, fetch 2, void mark 3, erase 4 (R180). -/
  op : Nat
  deriving DecidableEq, Repr

/-- The leaf store controller's contribution (R102). -/
structure LeafReading where
  /-- Leaves BLANK, FILLING, READY, PROGRAMMING, PROGRAMMED, VOIDING, VOID, ERASING, RETIRED. -/
  byState : List Nat
  banks : List BankReading
  purges : Nat
  readyUnplaced : Nat
  allocationBank : Option Nat
  deriving DecidableEq, Repr

/-- The obligation and account unit's contribution (R124). -/
structure ObligationReading where
  total : Nat
  pending : Nat
  opened : Nat
  /-- By kind, in the order of R180. -/
  byKind : List Nat
  escalated : Nat
  withDeadline : Nat
  earliest : Option Nat
  retained : Nat
  deriving DecidableEq, Repr

/-- The retention unit's contribution (R152). -/
structure RetentionReading where
  pending : Nat
  pendingRetained : Nat
  held : Nat
  tags : Nat
  dueHeld : Nat
  earliest : Option Nat
  purges : Nat
  purgeCharge : Nat
  deriving DecidableEq, Repr

/-- The reading of STATUS, one contribution from each owner in the order of R177. -/
structure Reading where
  recovery : RecoveryReading
  routing : RoutingReading
  time : Timebase
  catalog : CatalogReading
  sessions : SessionReading
  staging : StagingReading
  leaves : LeafReading
  obligations : ObligationReading
  retention : RetentionReading
  deriving DecidableEq, Repr

/-- What follows an answer on the bus (R176). -/
inductive Block where
  | none
  | bytes (data : List Byte)
  | entries (list : List ListEntry)
  | description (d : Description)
  | reading (r : Reading)
  deriving DecidableEq, Repr

/-- What the part puts on the bus: an answer packet and what follows it, sent whole, or, where a bus reset or a loss of
main power ended it, the first so many words of the two (R176, R178). -/
structure Sent where
  answer : Answer
  block : Block
  cut : Option Nat
  deriving DecidableEq, Repr

/-- An APPEND taken by the session unit, while its data block is awaited (R171): the session, the count its request
carried, the room its FILLING buffer had then, and whether a new slot was reserved (R55). -/
structure AppendInFlight where
  session : Nat
  count : Nat
  room : Nat
  rolled : Bool
  deriving DecidableEq, Repr

/-- The transaction in progress on the bus (R171): none; an APPEND whose data block is awaited; an APPEND already
answered DEFER or DENIED, whose block is received and discarded before its answer is sent; or one whose answer and data
blocks the part is sending, their contents fixed, until the bus carries the next packet (R176, log 31). -/
inductive Transaction where
  | none
  | appending (a : AppendInFlight)
  | discarding (a : Answer)
  | sending (m : Sent)
  deriving DecidableEq, Repr

/-! ### The whole part -/

/-- The state of the part. -/
structure State where
  body : Body
  tables : Tables
  time : Timebase
  recovery : Recovery
  flash : Flash
  txn : Transaction
  /-- The bus reset input is asserted (R178). -/
  resetHeld : Bool
  /-- What the last step put on the bus, if anything (R174); after a step that ended a transmission, what of it had
  gone (R176, R178). -/
  sent : Option Sent
  /-- The MODEL's counter of the transmissions ended on the bus, which picks the free value of each (log 31). -/
  cuts : Nat
  /-- Commands waiting, first in, first out. -/
  pending : List Instr
  deriving DecidableEq, Repr

/-- Why a step stops with a fault. Each names an event that the spec's own words exclude, so stopping is SAFE: no claim
about the part says anything of such an event (log 5, log 21). -/
inductive Fault where
  /-- Raised by every request command: an APPEND's data block is on the bus (11: a transaction holds the bus from its
  first word to its last; R171). SAFE. -/
  | busHeld
  /-- Raised by the bank events: no such operation is under way on the bank (R88). SAFE. -/
  | notUnderWay
  /-- Raised by IDLE_EXPIRY, ESCALATION and RETENTION_DUE: the deadline is not reached, or the part state suspends it
  (R60, R117, R118, R149). SAFE. -/
  | notDue
  /-- Raised by IDLE_EXPIRY: the session's APPEND block is on the bus; the APPEND is carried through whole before any
  expiry (R60). SAFE. -/
  | appendInFlight
  /-- Raised by WARM_START_COMPLETE, REBUILD_COMPLETE and HEADER_SCAN_LEAF_READ: no such work is under way (R161). SAFE. -/
  | noSuchStart
  /-- Raised by MAIN_POWER_RETURN: main power is present (R161). SAFE. -/
  | powerPresent
  /-- Raised by BACKUP_SUPPLY_FAILURE: main power is present, and the spec speaks of the failure only while it is off
  (R162). SAFE. -/
  | backupUnused
  deriving DecidableEq, Repr

/-- Why a step is refused: no meaning. -/
inductive Refusal where
  /-- Raised by an arm of `exec` whose command has no meaning yet; no arm is such. SAFE. -/
  | notModelled (mnemonic : String)
  deriving DecidableEq, Repr

/-! ### Reset -/

/-- The body at a cold start, before the header scan (R167): every list empty. -/
def Body.cold : Body :=
  { sessions := [], buffers := [], ready := [], windows := [], leaves := [], banks := [], purges := [], catalog := [],
    nextSerial := 1, accounts := [], attention := [], draws := 0 }

/-- The tables at a cold start, with the straps as read (R25, R29, R32, R33). -/
def Tables.cold (hub recordsNode : Nat) : Tables :=
  { nodes := [(recordsNode, .records)], depts := [(0, Dept.coldIntake)], routes := [], floor := 512,
    idleTimeout := 3840, hub := hub, recordsNode := recordsNode }

/-- The timebase at a cold start (R159). -/
def Timebase.cold : Timebase := ⟨0, false, 0, 0⟩

/-- The leaves of bank `b` in ascending number (R101). -/
def bankLeaves (b : Nat) : List Nat := (List.range 16384).map (fun i => 4 * i + b)

/-- The part after a completed cold start over an erased array, PFW and bus reset not asserted (log 1, 2, 3). -/
def State.reset : State :=
  { body := { Body.cold with
      banks := [(0, { Bank.empty with blank := bankLeaves 0 }), (1, { Bank.empty with blank := bankLeaves 1 }),
                (2, { Bank.empty with blank := bankLeaves 2 }), (3, { Bank.empty with blank := bankLeaves 3 })] },
    tables := Tables.cold 0 0,
    time := Timebase.cold,
    recovery := { part := .running, mark := true, backup := true, pfw := false, lastStart := .cold, scanned := 65536,
                  warmClosed := 0, warmDiscarded := 0, warmRemoved := 0, coldRebuilt := 0, coldDropped := 0 },
    flash := ⟨[], [], 0⟩,
    txn := .none,
    resetHeld := false,
    sent := none,
    cuts := 0,
    pending := [] }

end Sys2Proof.Machine
end

