-- ==== Sys2Proof/Machine/Operands.lean ====
section
/-! DEFINITION. The operand forms of the requests: the enumerations' values (R180) and which values of a field are in
range, for the bus check for form (R173 step 3, R180). -/

namespace Sys2Proof.Machine

/-! ### Enumerations (R180) -/

def Density.code : Density → Nat | .normal => 0 | .fine => 1 | .extraFine => 2
def PageWidth.code : PageWidth → Nat | .narrow => 0 | .standard => 1 | .wide => 2
def PageState.code : PageState → Nat | .openPage => 0 | .closed => 1 | .cut => 2
def DocState.code : DocState → Nat | .receiving => 0 | .distributing => 1 | .retained => 2 | .purging => 3
def Ending.code : Ending → Nat
  | .complete => 0 | .remoteHangup => 1 | .lineFault => 2 | .timeout => 3 | .storeFull => 4 | .forced => 5
  | .withdrawn => 6 | .busReset => 7 | .powerLoss => 8 | .rebuilt => 9
def ObKind.code : ObKind → Nat
  | .primary => 0 | .unrouted => 1 | .overflow => 2 | .copy => 3 | .rerouted => 4 | .escalated => 5 | .forwarded => 6
  | .rebuilt => 7
def ObState.code : ObState → Nat | .pending => 0 | .opened => 1
def SessState.code : SessState → Nat | .idle => 0 | .admitted => 1 | .inPage => 2 | .stopped => 3
def StartKind.code : StartKind → Nat | .warm => 0 | .cold => 1
/-- Power off has no code: no STATUS is answered then. -/
def PartState.code : PartState → Nat | .starting => 0 | .rebuilding => 1 | .running => 2 | .powerFail => 3 | .off => 0
def BankOp.code : BankOp → Nat | .none => 0 | .program .. => 1 | .fetch _ => 2 | .voidMark _ => 3 | .erase _ => 4
/-- Role and value carried, as three and five bits (log 16). NONE and RECORDS carry no value; their value bits are 0, the
model's choice (log 39). -/
def Role.code : Role → Nat × Nat | .none => (0, 0) | .line i => (1, i) | .department d => (2, d) | .records => (3, 0)
def Defer.code : Defer → Nat
  | .ringFull => 1 | .stagingFull => 2 | .storeLow => 3 | .storeBusy => 4 | .catalogFull => 5 | .fetching => 6
  | .windowsBusy => 7 | .notYet => 8 | .standby => 9
def Denied.code : Denied → Nat
  | .notEnrolled => 1 | .notPermitted => 2 | .malformed => 3 | .noSession => 4 | .channelBusy => 5 | .pageOpen => 6
  | .pageNotOpen => 7 | .storeFull => 8 | .pageTooLong => 9 | .tooManyPages => 10 | .serialExhausted => 11
  | .noDocument => 12 | .staleHandle => 13 | .notObliged => 14 | .stillReceiving => 15 | .intakeCannotDecline => 16
  | .range => 17 | .alreadyObliged => 18 | .departmentDisabled => 19 | .alreadyAssigned => 20 | .holdFull => 21
  | .holdAbsent => 22 | .purging => 23

def densityOf : Nat → Option Density | 0 => some .normal | 1 => some .fine | 2 => some .extraFine | _ => none
def widthOf : Nat → Option PageWidth | 0 => some .narrow | 1 => some .standard | 2 => some .wide | _ => none
/-- The endings CLOSE CALL may carry (R58). -/
def closeEndingOf : Nat → Option Ending
  | 0 => some .complete | 1 => some .remoteHangup | 2 => some .lineFault | _ => none
def routeRoleOf : Nat → Option RouteRole | 0 => some .primary | 1 => some .copy | _ => none
/-- Yes/no in requests, two bits (R180). -/
def yesNoOf : Nat → Option Bool | 0 => some false | 1 => some true | _ => none
/-- The role SET NODE carries with its value: a line index for LINE, a department for DEPARTMENT (R26, R181). -/
def roleOf : Nat → Nat → Option Role
  | 0, _ => some .none
  | 1, v => if v ≤ 3 then some (.line v) else none
  | 2, v => if v ≤ 15 then some (.department v) else none
  | 3, _ => some .records
  | _, _ => none

/-! ### Digits and identity (R180) -/

/-- ANY in a route pattern. -/
def anyDigit : Nat := 14
/-- An absent position of the called extension. -/
def absentDigit : Nat := 15

/-- The called extension: six digits, or absent when all six positions are 15; anything else is malformed (R180). -/
def extensionOf (v : BitVec 24) : Option (Option (List Nat)) :=
  let ds := digitsOf 6 v.toNat
  if ds.all (fun d => d ≤ 9) then some (some ds)
  else if ds.all (fun d => d = absentDigit) then some none
  else none

/-- A route pattern: each position a digit or ANY (R33, R180). -/
def patternOf (v : BitVec 24) : Option (List Nat) :=
  let ds := digitsOf 6 v.toNat
  if ds.all (fun d => d ≤ 9 || d = anyDigit) then some ds else none

/-- The caller identity: at most 20 codes, none of them 15; codes beyond the length are disregarded, and an empty
identity is absent (R5, R180). -/
def identityOf (length : BitVec 5) (v : BitVec 80) : Option (Option (List Nat)) :=
  let codes := (digitsOf 20 v.toNat).take length.toNat
  if 20 < length.toNat then none
  else if codes.any (fun c => c = 15) then none
  else if codes = [] then some none
  else some (some codes)

/-! ### Handles -/

/-- A slot number a handle may name (R2). -/
def slotInRange (slot : BitVec 13) : Bool := slot.toNat < Config.slots

/-- A department a request may name. -/
def departmentInRange (d : BitVec 5) : Bool := d.toNat < Config.departments

/-- The count of an APPEND or a READ (R51, R133; for READ log 37). -/
def countInRange (c : BitVec 9) : Bool := 1 ≤ c.toNat && c.toNat ≤ 256

/-- A page number (R130, R133). -/
def pageInRange (p : BitVec 10) : Bool := 1 ≤ p.toNat && p.toNat ≤ 999

end Sys2Proof.Machine
end

