-- ==== Sys2Proof/Machine/Ops.lean ====
section
/-! DEFINITION. The named operations over the part's records: reading and writing each numbered collection, documents
and their pages and slots, accounts, buffers, leaves and banks. Every meaning goes through these. A number that names
nothing (which no run reaches) reads as the empty record (log 25). -/

namespace Sys2Proof.Machine

/-! ### Counts that saturate -/

/-- A tick count that stops at 2^48 − 1 instead of wrapping (R154). -/
def saturate (n : Nat) : Nat := min n Config.tickMax

/-! ### Tables -/

/-- The role of a node; a number beyond 31 is treated as NONE (R24, R173). -/
def Tables.role (t : Tables) (node : Nat) : Role := if node < 32 then Table.read .none t.nodes node else .none

/-- A department's settings (R29). -/
def Tables.dept (t : Tables) (d : Nat) : Dept := Table.read Dept.cold t.depts d

/-- Stores a department's settings. -/
def Tables.setDept (t : Tables) (d : Nat) (v : Dept) : Tables := { t with depts := Table.write Dept.cold t.depts d v }

/-- A route entry, absent when not in use (R33). -/
def Tables.route (t : Tables) (i : Nat) : Option Route := Table.read none t.routes i

/-! ### Numbered records of the body -/

def Body.session (b : Body) (n : Nat) : Session := Table.read Session.idle b.sessions n
def Body.setSession (b : Body) (n : Nat) (v : Session) : Body :=
  { b with sessions := Table.write Session.idle b.sessions n v }

def Body.buffer (b : Body) (n : Nat) : Buffer := Table.read Buffer.free b.buffers n
def Body.setBuffer (b : Body) (n : Nat) (v : Buffer) : Body :=
  { b with buffers := Table.write Buffer.free b.buffers n v }

def Body.leaf (b : Body) (n : Nat) : Leaf := Table.read Leaf.blank b.leaves n
def Body.setLeaf (b : Body) (n : Nat) (v : Leaf) : Body := { b with leaves := Table.write Leaf.blank b.leaves n v }

def Body.bank (b : Body) (n : Nat) : Bank := Table.read Bank.empty b.banks n
def Body.setBank (b : Body) (n : Nat) (v : Bank) : Body := { b with banks := Table.write Bank.empty b.banks n v }

def Body.slot (b : Body) (n : Nat) : Slot := Table.read Slot.free b.catalog n
def Body.setSlot (b : Body) (n : Nat) (v : Slot) : Body := { b with catalog := Table.write Slot.free b.catalog n v }

/-- A department's account (R107). -/
def Body.account (b : Body) (d : Nat) : Nat := Table.read 0 b.accounts d
def Body.setAccount (b : Body) (d v : Nat) : Body := { b with accounts := Table.write 0 b.accounts d v }

/-- A department's attention (R39). -/
def Body.attends (b : Body) (d : Nat) : Bool := Table.read false b.attention d
def Body.setAttention (b : Body) (d : Nat) (v : Bool) : Body :=
  { b with attention := Table.write false b.attention d v }

/-- The document in a slot, if it holds one. -/
def Body.doc (b : Body) (n : Nat) : Option Document := (b.slot n).doc

/-- Replaces the document in a slot; the generation stays. -/
def Body.setDoc (b : Body) (n : Nat) (d : Document) : Body := b.setSlot n { b.slot n with doc := some d }

/-- Changes the document in a slot, if it holds one. -/
def Body.updDoc (b : Body) (n : Nat) (f : Document → Document) : Body :=
  match b.doc n with
  | some d => b.setDoc n (f d)
  | none => b

/-- The documents of the catalog with their slots, in ascending slot number. -/
def Body.documents (b : Body) : List (Nat × Document) :=
  b.catalog.filterMap (fun e => e.2.doc.map (fun d => (e.1, d)))

/-! ### Documents, pages and leaf slots -/

/-- The number of leaf slots over all pages (1.1). -/
def Document.leafCount (d : Document) : Nat := (d.pages.map (fun p => p.slots.length)).sum

/-- The sum of the charges of a document's obligations. -/
def Document.charges (d : Document) : Nat := (d.obligations.map (fun o => o.charge)).sum

/-- The obligation of a department on a document (R103: at most one). -/
def Document.obligation (d : Document) (dept : Nat) : Option Obligation :=
  d.obligations.find? (fun o => o.department == dept)

/-- Whether a department is on the obligation list. -/
def Document.obliges (d : Document) (dept : Nat) : Bool := d.obligations.any (fun o => o.department == dept)

/-- Changes page `p`, counted from 1. -/
def Document.updPage (d : Document) (p : Nat) (f : Page → Page) : Document :=
  { d with pages := updateNth f d.pages (p - 1) }

/-- Page `p`, counted from 1. -/
def Document.page (d : Document) (p : Nat) : Option Page := if p = 0 then none else d.pages[p - 1]?

/-- Changes a leaf slot. -/
def Document.updLeafSlot (d : Document) (page index : Nat) (f : LeafSlot → LeafSlot) : Document :=
  d.updPage page (fun p => { p with slots := updateNth f p.slots index })

/-- Stores a leaf slot. -/
def Document.setLeafSlot (d : Document) (page index : Nat) (v : LeafSlot) : Document :=
  d.updLeafSlot page index (fun _ => v)

/-- A placed slot whose leaf's program failed becomes unplaced (R18, R92). -/
def LeafSlot.lost : LeafSlot → LeafSlot
  | .placed _ | .unplaced => .unplaced
  | .released => .released

/-- An unplaced slot is placed on a replacement leaf (R18, R93). -/
def LeafSlot.filled (leaf : Nat) : LeafSlot → LeafSlot
  | .unplaced => .placed leaf
  | .placed l => .placed l
  | .released => .released

/-- The leaf slots with their page numbers and indexes, in page order and within a page in slot order (R95). -/
def Document.leafSlots (d : Document) : List (Nat × Nat × LeafSlot) :=
  (d.pages.zipIdx).flatMap (fun p => p.1.slots.zipIdx.map (fun s => (p.2 + 1, s.2, s.1)))

/-- The purge cursor: the first leaf slot not yet released (R95). -/
def Document.cursor (d : Document) : Option (Nat × Nat × LeafSlot) := d.leafSlots.find? (fun s => s.2.2 != .released)

/-- Cuts the last page if it is OPEN (R8, R17). -/
def Page.cut (p : Page) : Page := if p.state = .openPage then { p with state := .cut, counts := none } else p

/-- Changes the last page. -/
def Document.updLastPage (d : Document) (f : Page → Page) : Document := d.updPage d.pages.length f

/-! ### Accounts and charges -/

/-- A department's account rises. -/
def Body.charge (b : Body) (d n : Nat) : Body := b.setAccount d (b.account d + n)

/-- A department's account falls. -/
def Body.discharge (b : Body) (d n : Nat) : Body := b.setAccount d (b.account d - n)

/-- Changes the charge of the lead, the first obligation of a list (R108). -/
def chargeFirst (f : Nat → Nat) : List Obligation → List Obligation
  | [] => []
  | o :: os => { o with charge := f o.charge } :: os

/-- One slot more is charged to the lead obligation and its department's account (R108). -/
def Body.chargeLead (b : Body) (n : Nat) : Body :=
  match b.doc n with
  | some d =>
    match d.obligations with
    | o :: _ => (b.setDoc n { d with obligations := chargeFirst (fun c => c + 1) d.obligations }).charge o.department 1
    | [] => b
  | none => b

/-- The charge of a returned slot is withdrawn from the lead and its department's account (R56, R108). -/
def Body.dischargeLead (b : Body) (n : Nat) : Body :=
  match b.doc n with
  | some d =>
    match d.obligations with
    | o :: _ =>
      (b.setDoc n { d with obligations := chargeFirst (fun c => c - 1) d.obligations }).discharge o.department 1
    | [] => b
  | none => b

/-! ### Slots of the catalog -/

/-- The free slot with the lowest number (R1). -/
def Body.lowestFreeSlot (b : Body) : Option Nat := firstFrom (fun n => (b.doc n).isNone) Config.slots 0

/-- Frees a slot: record, page records and tags go, the generation advances from 255 to 0; a slot that a purge frees
leaves the purge list (R3, R14). -/
def Body.freeSlot (b : Body) (n : Nat) : Body :=
  { b.setSlot n ⟨((b.slot n).generation + 1) % 256, none⟩ with purges := b.purges.filter (fun m => m ≠ n) }

/-- Page records in use (R15). -/
def Body.pageRecords (b : Body) : Nat := (b.documents.map (fun e => e.2.pages.length)).sum

/-! ### The staging pool -/

/-- The FREE buffer with the lowest index (R67, R75). -/
def Body.lowestFreeBuffer (b : Body) : Option Nat := firstFrom (fun n => (b.buffer n).state = .free) Config.buffers 0

/-- The number of FREE buffers. -/
def Body.freeBuffers (b : Body) : Nat := Config.buffers - Table.count (fun v => v.state != .free) b.buffers

/-- Frees a buffer: leaf, place and holder absent, fill 0; it leaves the ready list, the window list and its session's
staging queue (R72, R73, R76, R78). -/
def Body.releaseBuffer (b : Body) (i : Nat) : Body :=
  let b1 : Body :=
    match (b.buffer i).holder with
    | some (.session n) => b.setSession n { b.session n with queue := (b.session n).queue.filter (fun j => j ≠ i) }
    | _ => b
  { b1.setBuffer i Buffer.free with
    ready := b1.ready.filter (fun j => j ≠ i), windows := b1.windows.filter (fun j => j ≠ i) }

/-- A FILLING buffer completes: READY with its leaf, at the back of the ready list (R68, R86). -/
def Body.makeReady (b : Body) (i : Nat) : Body :=
  let buf := b.buffer i
  let b1 : Body := match buf.leaf with | some l => b.setLeaf l { b.leaf l with state := .ready } | none => b
  { b1.setBuffer i { buf with state := .ready } with ready := b1.ready ++ [i] }

/-- The buffer at the tail of a session's staging queue. -/
def Session.tail (s : Session) : Nat := s.queue.getLast?.getD 0

/-- The READY buffer that waits behind an unplaced slot (R73). -/
def Body.waitingBuffer (b : Body) (p : Place) : Option Nat :=
  b.ready.find? (fun i => (b.buffer i).place == some p && (b.buffer i).leaf == none)

/-! ### The leaf store -/

/-- A leaf's bank (5). -/
def leafBank (leaf : Nat) : Nat := leaf % Config.banks

/-- A bank's BLANK count (R83). -/
def Body.blankCount (b : Body) (k : Nat) : Nat := (b.bank k).blank.length

/-- The device BLANK count (R83). -/
def Body.deviceBlank (b : Body) : Nat := b.blankCount 0 + b.blankCount 1 + b.blankCount 2 + b.blankCount 3

/-- The bank the allocation rule names: the most BLANK leaves, the lowest-numbered of several; none when the device
has no BLANK leaf (R84). -/
def Body.allocationBank (b : Body) : Option Nat :=
  if b.deviceBlank = 0 then none
  else some ([1, 2, 3].foldl (fun best k => if b.blankCount best < b.blankCount k then k else best) 0)

/-- The leaf the allocation rule gives: the front of the named bank's blank list (R84). -/
def Body.nextLeaf (b : Body) : Option Nat := b.allocationBank.bind (fun k => (b.bank k).blank.head?)

/-- Takes the front leaf off a bank's blank list. -/
def Body.popBlank (b : Body) (k : Nat) : Body := b.setBank k { b.bank k with blank := (b.bank k).blank.tail }

/-- A leaf joins the back of its bank's blank list. -/
def Body.pushBlank (b : Body) (l : Nat) : Body :=
  b.setBank (leafBank l) { b.bank (leafBank l) with blank := (b.bank (leafBank l)).blank ++ [l] }

/-- A returned leaf goes to the front of its bank's blank list (R85). -/
def Body.returnBlank (b : Body) (l : Nat) : Body :=
  b.setBank (leafBank l) { b.bank (leafBank l) with blank := l :: (b.bank (leafBank l)).blank }

/-- A leaf becomes VOID at the back of its bank's erase queue (R96, R97). -/
def Body.voidLeaf (b : Body) (l : Nat) : Body :=
  let b1 := b.setLeaf l ⟨.void, none, none⟩
  b1.setBank (leafBank l) { b1.bank (leafBank l) with eraseQueue := (b1.bank (leafBank l)).eraseQueue ++ [l] }

/-- Some leaf is VOID, VOIDING or ERASING: on its way back (R49). -/
def Body.leafOnItsWay (b : Body) : Bool :=
  b.leaves.any (fun e => e.2.state == .void || e.2.state == .voiding || e.2.state == .erasing)

/-- Sets the operation under way on a bank. -/
def Body.setOp (b : Body) (k : Nat) (op : BankOp) : Body := b.setBank k { b.bank k with op := op }

/-- The window of a leaf that lookup finds: in the window list, naming the leaf and not marked for discard (R74). -/
def Body.windowOf (b : Body) (l : Nat) : Option Nat :=
  b.windows.find? (fun i => (b.buffer i).leaf == some l && !(b.buffer i).discard)

/-- Starts an allocation for a leaf slot of a session's document: the leaf becomes FILLING, the FREE buffer becomes
FILLING for it and joins the end of the session's staging queue (R67, R84). -/
def Body.allocate (b : Body) (k : Nat) (place : Place) (leaf buffer : Nat) : Body :=
  let b1 := (b.popBlank (leafBank leaf)).setLeaf leaf ⟨.filling, some place, some buffer⟩
  let b2 := b1.setBuffer buffer ⟨.filling, some leaf, some place, some (.session k), [], false⟩
  b2.setSession k { b2.session k with queue := (b2.session k).queue ++ [buffer] }

end Sys2Proof.Machine
end

