-- ==== Sys2Proof/Machine/Header.lean ====
section
/-! DEFINITION. The leaf header: what it records, how a program assembles it (R87), its words (R184), and how the header
scan reads a spare area (R184, R167). -/

namespace Sys2Proof.Machine

/-- The contents of a leaf header (R87, R184). -/
structure LeafHeader where
  serial : Nat
  slot : Nat
  generation : Nat
  page : Nat
  index : Nat
  byteCount : Nat
  /-- Final-leaf mark: none 0, CLOSED 1, CUT 2. -/
  final : Nat
  openTime : Nat
  extension : Option (List Nat)
  density : Density
  width : PageWidth
  coding : Nat
  deriving DecidableEq, Repr

/-- The number that digits of four bits each spell, the first most significant. -/
def digitsNumber (ds : List Nat) : Nat := ds.foldl (fun acc d => 16 * acc + d) 0

/-- The fields before the CRC: 162 bits (R184). -/
def LeafHeader.fields (h : LeafHeader) : List Field :=
  [(32, h.serial), (12, h.slot), (8, h.generation), (10, h.page), (6, h.index), (13, h.byteCount), (2, h.final),
   (48, h.openTime)] ++ optField 24 (h.extension.map digitsNumber) ++
  [(2, h.density.code), (2, h.width.code), (2, h.coding)]

/-- The widths of the fields before the CRC. -/
def headerWidths : List Nat := [32, 12, 8, 10, 6, 13, 2, 48, 1, 24, 2, 2, 2]

/-- The header's words: the fields and the CRC over them (R184). -/
def LeafHeader.words (h : LeafHeader) : List Word := packFields (h.fields ++ [(16, (crc16 (fieldBits h.fields)).toNat)])

/-- Reads a header: the CRC agrees and every field is within range, or none (R184). -/
def readHeader (words : List Word) : Option LeafHeader :=
  let bits := wordBits words
  if words.length ≠ 12 then none
  else if (crc16 (bits.take 162)).toNat ≠ numberOf ((bits.drop 162).take 16) then none
  else
    match readFields headerWidths bits with
    | [serial, slot, generation, page, index, byteCount, final, openTime, present, ext, dens, wid, coding] =>
      match densityOf dens, widthOf wid with
      | some density, some width =>
        let digits := digitsOf 6 ext
        if 1 ≤ serial ∧ 1 ≤ page ∧ page ≤ 999 ∧ byteCount ≤ 4096 ∧ final ≤ 2 ∧
            (present = 0 ∨ digits.all (fun d => d ≤ 9)) then
          some ⟨serial, slot, generation, page, index, byteCount, final, openTime,
                if present = 0 then none else some digits, density, width, coding⟩
        else none
      | _, _ => none
    | _ => none

/-- The classes of the header scan (R167, R184). -/
inductive LeafClass where
  | erased
  | voidMarked
  | valid (h : LeafHeader)
  | unreadable
  deriving DecidableEq, Repr

/-- The void-mark word reads as programmed when more than 8 of its 16 bits are zero (R184). -/
def voidProgrammed (w : Word) : Bool := 8 < (bitsOf 16 w.toNat).countP (fun b => !b)

/-- How the scan classes a spare area (R184). -/
def Spare.classOf (s : Spare) : LeafClass :=
  if s = Spare.erased then .erased
  else
    match readHeader s.header with
    | some h => if voidProgrammed s.voidWord then .voidMarked else .valid h
    | none => .unreadable

/-- Whether a class is erased or unreadable. -/
def LeafClass.blankOrUnreadable : LeafClass → Bool
  | .erased | .unreadable => true
  | .voidMarked | .valid _ => false

/-- The header a program of a buffer writes, from the catalog and the buffer as they stand (R87): the owner document
`d` in slot `n` of generation `g`, the place, and the buffer's fill. -/
def assembleHeader (d : Document) (generation : Nat) (p : Place) (fill : Nat) : LeafHeader :=
  let page := d.page p.page
  { serial := d.serial, slot := p.slot, generation := generation, page := p.page, index := p.index, byteCount := fill,
    final :=
      match page with
      | some pg =>
        if p.index + 1 = pg.slots.length then
          match pg.state with | .openPage => 0 | .closed => 1 | .cut => 2
        else 0
      | none => 0,
    openTime := d.openTime.ticks, extension := d.extension,
    density := (page.map (fun pg => pg.density)).getD .normal,
    width := (page.map (fun pg => pg.width)).getD .narrow,
    coding := (page.map (fun pg => pg.coding)).getD 0 }

/-- The header words a program of buffer `i` writes (R87). -/
def Body.headerFor (b : Body) (i : Nat) : List Word :=
  let buf := b.buffer i
  match buf.place with
  | some p =>
    match b.doc p.slot with
    | some d => (assembleHeader d (b.slot p.slot).generation p buf.data.length).words
    | none => Spare.erased.header
  | none => Spare.erased.header

end Sys2Proof.Machine
end

