-- ==== Sys2Proof/Machine/Answers.lean ====
section
/-! DEFINITION. The words the part sends on the bus: the answer packet (R182) and the data blocks that follow it
(R183, R180). State keeps what is sent as records; these are their layouts. -/

namespace Sys2Proof.Machine

/-! ### Answer packet (R182) -/

/-- The lead of the open-call form: the department for PRIMARY, 16 for UNROUTED, 17 for OVERFLOW; no other kind leads. -/
def leadCode (department : Nat) : ObKind → Nat
  | .unrouted => 16
  | .overflow => 17
  | .primary | .copy | .rerouted | .escalated | .forwarded | .rebuilt => department

/-- The hold-back form, from the value requested and the clock reported (R182). -/
def holdBackForm (value clock : Nat) : Nat :=
  if clock ≤ value then 0 else if clock - value ≤ Config.holdBackCap then 1 else 2

/-- The fields of a result after the attention bit (R182); OPEN CALL has a form of its own. -/
def Result.fields : Result → List Field
  | .plain => []
  | .openCall .. => []
  | .pageBegin page => [(10, page)]
  | .append taken length => [(9, taken), (19, length)]
  | .pageEnd page length => [(10, page), (19, length)]
  | .list entries more => [(4, entries), flagField more]
  | .read n => [(9, n)]
  | .release state account => [(2, state.code), (17, account)]
  | .forward charge state => [(16, charge), (2, state.code)]
  | .hold tags => [(3, tags)]
  | .unhold tags state => [(3, tags), (2, state.code)]
  | .setDepartment enabled quota escalation retention copyAll =>
    [flagField enabled, (17, quota), (14, escalation), (12, retention), flagField copyAll]
  | .setLimits floor seconds => [(14, floor), (10, seconds)]
  | .setClock value clock trusted _ => [flagField trusted, (2, holdBackForm value clock), (48, clock)]

/-- The common form: kind, operation, attention, then a reason or the results (R182). -/
def commonForm (kind code : Nat) (attention : Bool) (rest : List Field) : List Field :=
  [(2, kind), (5, code), flagField attention] ++ rest

/-- The fields of an answer packet (R182). -/
def Answer.fields (a : Answer) : List Field :=
  match a.verdict with
  | .taken (.openCall department kind session slot generation serial) =>
    [(2, 3), (5, leadCode department kind), (5, session), (12, slot), (8, generation), (32, serial)]
  | .taken r => commonForm 0 a.code a.attention r.fields
  | .defer r => commonForm 1 a.code a.attention [(5, r.code)]
  | .denied r => commonForm 2 a.code a.attention [(5, r.code)]

/-- The 4 words of an answer packet (R174, R182). -/
def Answer.words (a : Answer) : List Word := wordsFrom 4 (fieldBits a.fields)

/-! ### LIST (R183) -/

/-- A stamped time with its presence and trusted bits (R155, R183). -/
def stampFields : Option Stamp → List Field
  | none => [(1, 0), (1, 0), (48, 0)]
  | some s => [(1, 1), flagField s.trusted, (48, s.ticks)]

/-- A LIST entry: 119 bits in 8 words. -/
def ListEntry.words (e : ListEntry) : List Word :=
  wordsFrom 8 (fieldBits ([(12, e.slot), (8, e.generation), (32, e.serial), (3, e.kind.code), (1, e.obState.code),
    (2, e.docState.code), flagField e.receiving, (10, e.pages)] ++ stampFields e.receipt))

/-! ### DESCRIBE (R183) -/

/-- Caller identity: length and twenty codes. What the codes beyond the length carry the manual leaves open (R180 has them
disregarded); they are sent as 0, the model's choice (log 38). -/
def callerFields (caller : Option (List Nat)) : List Field :=
  let codes := caller.getD []
  (5, codes.length) :: (List.range 20).map (fun i => (4, codes.getD i 0))

/-- Retain-until with its form. Under the forms absent and pending the manual leaves the 48 bits open (R180's zeros speak of
a presence bit, and a form is none); they are sent as 0, the model's choice (log 33). -/
def Retain.fields : Retain → List Field
  | .absent => [(2, 0), (48, 0)]
  | .pending => [(2, 1), (48, 0)]
  | .known t => [(2, 2), (48, t)]

/-- An obligation: 52 bits, its deadline as ticks remaining from the run counter of the header. -/
def ObReport.fields (run : Nat) (o : ObReport) : List Field :=
  [(4, o.department), (3, o.kind.code), (1, o.state.code), flagField o.escalated] ++
    optField 26 (o.deadline.map (fun t => t - run)) ++ [(16, o.charge)]

/-- A page summary: 60 bits. -/
def PageSummary.fields (p : PageSummary) : List Field :=
  [(2, p.state.code), (2, p.density.code), (2, p.width.code), (2, p.coding), (19, p.byteLength),
   flagField p.counts.isSome, (16, (p.counts.map (fun c => c.1)).getD 0), (16, (p.counts.map (fun c => c.2)).getD 0)]

/-- The DESCRIBE header: 486 bits. -/
def Description.headerFields (d : Description) : List Field :=
  [(12, d.slot), (8, d.generation), (32, d.serial), (2, d.state.code)] ++ optField 4 (d.ending.map Ending.code) ++
  optField 5 d.session ++ optField 24 (d.extension.map digitsNumber) ++ callerFields d.caller ++
  [flagField d.openTime.trusted, (48, d.openTime.ticks)] ++ stampFields d.receipt ++ d.retainUntil.fields ++
  [(48, d.run), (10, d.pageCount), (16, d.leafCount), (16, d.retained), (3, d.holds.length)] ++
  (List.range 4).map (fun i => (16, d.holds.getD i 0)) ++ [(5, d.obligations.length)]

/-- The DESCRIBE sequence. -/
def Description.words (d : Description) : List Word :=
  packFields (d.headerFields ++ d.obligations.flatMap (ObReport.fields d.run) ++ d.pages.flatMap PageSummary.fields)

/-! ### STATUS (R183, log 16) -/

/-- A count. -/
def countField (n : Nat) : Field := (17, n)

def RecoveryReading.fields (r : RecoveryReading) : List Field :=
  [(2, r.part.code), (1, r.lastStart.code)] ++ optField 17 r.scanned ++
    [r.warmClosed, r.warmDiscarded, r.warmRemoved, r.coldRebuilt, r.coldDropped].map countField

/-- A department's node list: its count, then two node numbers. -/
def nodeListFields (nodes : List Nat) : List Field := [(2, nodes.length), (5, nodes.getD 0 0), (5, nodes.getD 1 0)]

def DeptReading.fields (d : DeptReading) : List Field :=
  [flagField d.enabled, flagField d.copyAll, countField d.quota, countField d.account, flagField d.attention] ++
    nodeListFields d.nodes

def RoutingReading.fields (r : RoutingReading) : List Field :=
  [(5, r.recordsNode), (2, r.hub)] ++ r.roles.flatMap (fun x => [(3, x.code.1), (5, x.code.2)]) ++
    r.departments.flatMap DeptReading.fields ++ [countField r.routesInUse, (14, r.floor), (10, r.idleSeconds)]

def Timebase.fields (t : Timebase) : List Field :=
  [(48, t.clock), flagField t.trusted, (16, t.holdBack), (48, t.run)]

def CatalogReading.fields (c : CatalogReading) : List Field :=
  [c.freeSlots, c.receiving, c.distributing, c.retained, c.purging, c.pageRecords].map countField ++ [(33, c.nextSerial)]

/-- One session: its state and, when not IDLE, handle, serial, pages, queued buffers and ticks left. -/
def sessionFields (e : SessState × Option OpenSession) : List Field :=
  (2, e.1.code) :: optField 20 (e.2.map (fun o => 256 * o.slot + o.generation)) ++
    optField 32 (e.2.map (fun o => o.serial)) ++ optField 17 (e.2.map (fun o => o.pages)) ++
    optField 17 (e.2.map (fun o => o.queued)) ++ optField 16 (e.2.map (fun o => o.ticksLeft))

/-- The session unit's two blocks: sessions 0..15, then 16..31 with the counts by state. R183 cuts a reading into blocks of
128 words and puts these sessions in the first; they need only 109 words at its widths, and the words after them up to
128 are zeros, the model's choice (log 32). -/
def SessionReading.blocks (r : SessionReading) : List (List Word) :=
  [wordsFrom 128 (fieldBits ((r.sessions.take 16).flatMap sessionFields)),
   packFields ((r.sessions.drop 16).flatMap sessionFields ++
     [r.idle, r.admitted, r.inPage, r.stopped].map countField)]

def StagingReading.fields (r : StagingReading) : List Field :=
  (r.byState ++ [r.orphans, r.orphansUnplaced] ++ r.byUrgency ++ [r.windows, r.discards]).map countField ++
    [flagField r.windowAllowed]

def BankReading.fields (k : BankReading) : List Field :=
  [countField k.blank, countField k.eraseQueue, countField k.fetchQueue, (3, k.op)]

def LeafReading.fields (r : LeafReading) : List Field :=
  r.byState.map countField ++ r.banks.flatMap BankReading.fields ++ [countField r.purges, countField r.readyUnplaced] ++
    optField 2 r.allocationBank

def ObligationReading.fields (r : ObligationReading) : List Field :=
  ([r.total, r.pending, r.opened] ++ r.byKind ++ [r.escalated, r.withDeadline]).map countField ++
    optField 48 r.earliest ++ [countField r.retained]

def RetentionReading.fields (r : RetentionReading) : List Field :=
  [r.pending, r.pendingRetained, r.held, r.tags, r.dueHeld].map countField ++ optField 48 r.earliest ++
    [r.purges, r.purgeCharge].map countField

/-- The 10 blocks of a STATUS reading, in the order of R177. -/
def Reading.blocks (r : Reading) : List (List Word) :=
  [packFields r.recovery.fields, packFields r.routing.fields, packFields r.time.fields, packFields r.catalog.fields] ++
    r.sessions.blocks ++
    [packFields r.staging.fields, packFields r.leaves.fields, packFields r.obligations.fields,
     packFields r.retention.fields]

/-! ### What the bus carries -/

/-- The data blocks that follow an answer (R176, R183). -/
def Block.blocks : Block → List (List Word)
  | .none => []
  | .bytes data => [wordsOfBytes data]
  | .entries list => [list.flatMap ListEntry.words]
  | .description d => [d.words]
  | .reading r => r.blocks

/-- The answer packet, then the data blocks, as they go when they go whole. -/
def Sent.blocks (m : Sent) : List (List Word) := m.answer.words :: m.block.blocks

/-- The number of words of an answer and its data blocks. -/
def Sent.length (m : Sent) : Nat := (m.blocks.map List.length).sum

/-- The first `n` words of a series of blocks. -/
def firstWords : Nat → List (List Word) → List (List Word)
  | _, [] => []
  | n, b :: bs => if n ≤ b.length then [b.take n] else b :: firstWords (n - b.length) bs

/-- What went over the bus: all of it, or the words before a bus reset or a loss of main power (R176, R178). -/
def Sent.words (m : Sent) : List (List Word) :=
  match m.cut with
  | none => m.blocks
  | some n => firstWords n m.blocks

/-- What the last step put on the bus. -/
def State.sentWords (s : State) : List (List Word) :=
  match s.sent with
  | some m => m.words
  | none => []

end Sys2Proof.Machine
end

