-- ==== Sys2Proof/Machine/Flags.lean ====
section
/-! DEFINITION. The part's computed indications: attention (R39, R126), urgency (R71), the intake reserve (R75), due for
purge (R149), and whether the arbiters, escalations and purge starts run in a part state (R88, R118, R149). -/

namespace Sys2Proof.Machine

/-- A department's attention becomes yes, whether it was already or not (R39). -/
def Body.callAttention (b : Body) (d : Nat) : Body := b.setAttention d true

/-- The attention an answer carries to a sender of this role (R126). -/
def Body.attentionFor (b : Body) : Role → Bool
  | .department d => b.attends d
  | .none | .line _ | .records => false

/-- A bus reset sets attention for every department that holds an obligation on any document (R39). -/
def Body.callObliged (b : Body) : Body :=
  (b.documents.flatMap (fun e => e.2.obligations.map (fun o => o.department))).foldl Body.callAttention b

/-- The number of a session's buffers that are READY. -/
def Body.readyOf (b : Body) (k : Nat) : Nat := (b.session k).queue.countP (fun i => (b.buffer i).state = .ready)

/-- The urgency of a READY buffer: its session's READY buffers capped at 3, or 2 for an orphan (R71). -/
def Body.urgency (b : Body) (i : Nat) : Nat :=
  match (b.buffer i).holder with
  | some (.session k) => min 3 (b.readyOf k)
  | _ => 2

/-- Whether the intake reserve and the window limit allow a new window (R75). -/
def Body.windowAllowed (b : Body) : Bool :=
  b.windows.length < Config.windowLimit && Config.intakeReserve < b.freeBuffers

/-- Due for purge: RETAINED, retain-until known and reached, hold list empty (R149). -/
def Document.due (d : Document) (clock : Nat) : Bool :=
  d.state == .retained && d.holds.isEmpty &&
    match d.retainUntil with
    | .known t => t ≤ clock
    | .absent | .pending => false

/-- The slots of documents due for purge. -/
def Body.dueSlots (b : Body) (clock : Nat) : List Nat :=
  (b.documents.filter (fun e => e.2.due clock)).map (fun e => e.1)

/-- RUNNING or POWER_FAIL: operations start, escalations fire and purges start (R88, R89, R118, R149). -/
def PartState.works : PartState → Bool
  | .running | .powerFail => true
  | .off | .starting | .rebuilding => false

end Sys2Proof.Machine
end

