-- ==== Sys2Proof/Machine/Charges.lean ====
section
/-! DEFINITION. The shared operations of the obligation and account unit and of the retention unit: adding an
obligation, escalation deadlines, apportionment, retain-until, and the close of a document
(06_obligations_and_charges.md, 08_retention_holds_and_purge.md, 1.6). -/

namespace Sys2Proof.Machine

/-! ### Deadlines and periods -/

/-- The escalation deadline of an obligation counted from `start`: absent for intake, for a period of 0 and for a
REBUILT obligation (R116). -/
def Tables.deadline (t : Tables) (dept : Nat) (kind : ObKind) (start : Nat) : Option Nat :=
  if dept = 0 ∨ (t.dept dept).escalation = 0 ∨ kind = .rebuilt then none
  else some (saturate (start + (t.dept dept).escalation * Config.minute))

/-- The largest retention period in days among departments (8.2). -/
def Tables.longestRetention (t : Tables) (depts : List Nat) : Nat :=
  (depts.map (fun d => (t.dept d).retention)).foldl max 0

/-- A retention base and a period in days give retain-until (8.2). -/
def retainTicks (base days : Nat) : Nat := saturate (base + days * Config.day)

/-- Retention fields at close (R144). -/
def Document.retainAtClose (t : Tables) (d : Document) (receipt : Stamp) : Document :=
  let depts := (d.obligations.map (fun o => o.department)).foldl (fun acc n => insertRising n acc) []
  if receipt.trusted then
    { d with departments := depts, base := .known receipt.ticks,
             retainUntil := .known (retainTicks receipt.ticks (t.longestRetention depts)) }
  else { d with departments := depts, base := .pending, retainUntil := .pending }

/-- The retention unit is told of an obligation added to a document that is not RECEIVING (R145). -/
def Document.retainRaise (t : Tables) (d : Document) (dept : Nat) : Document :=
  let raised : Retain :=
    match d.retainUntil, d.base with
    | .known r, .known base => .known (max r (retainTicks base (t.dept dept).retention))
    | r, _ => r
  { d with departments := insertRising dept d.departments, retainUntil := raised }

/-- A pending retention base becomes known at the SET CLOCK that makes the clock trusted (R146). -/
def Document.retainResolve (t : Tables) (v : Nat) (d : Document) : Document :=
  if d.retainUntil = .pending then
    { d with base := .known v, retainUntil := .known (retainTicks v (t.longestRetention d.departments)) }
  else d

/-- Every pending retain-until is resolved (R146). -/
def Body.retainResolve (t : Tables) (v : Nat) (b : Body) : Body :=
  b.documents.foldl (fun acc e => acc.updDoc e.1 (Document.retainResolve t v)) b

/-! ### Obligations -/

/-- A new obligation: PENDING, not escalated (R105, R38). -/
def Obligation.fresh (dept : Nat) (kind : ObKind) (created : Nat) (deadline : Option Nat) (charge : Nat) : Obligation :=
  ⟨dept, kind, .pending, created, deadline, false, charge⟩

/-- Adds an obligation at the end of the list of a document that is not RECEIVING: its account takes its charge, its
department's attention becomes yes, and the retention unit is told (R39, R116, R145). -/
def Body.addObligation (t : Tables) (run : Nat) (b : Body) (n dept : Nat) (kind : ObKind) (charge : Nat) : Body :=
  match b.doc n with
  | some d =>
    let o := Obligation.fresh dept kind run (t.deadline dept kind run) charge
    let d1 := Document.retainRaise t { d with obligations := d.obligations ++ [o] } dept
    ((b.setDoc n d1).charge dept charge).callAttention dept
  | none => b

/-- Removes a department's obligation, with its deadline (R111, R112). -/
def Document.removeObligation (d : Document) (dept : Nat) : Document :=
  { d with obligations := d.obligations.filter (fun o => o.department != dept) }

/-- Changes a department's obligation in its place. -/
def Document.updObligation (d : Document) (dept : Nat) (f : Obligation → Obligation) : Document :=
  { d with obligations := d.obligations.map (fun o => if o.department = dept then f o else o) }

/-! ### Apportionment (R109) -/

/-- Shares `count` leaves: `share` to each, one more to each of the first `extra` obligations. -/
def apportion (share : Nat) : Nat → List Obligation → List Obligation
  | _, [] => []
  | 0, o :: os => { o with charge := share } :: apportion share 0 os
  | extra + 1, o :: os => { o with charge := share + 1 } :: apportion share extra os

/-- A document's leaf count shared among its obligations (R109). -/
def Document.apportioned (d : Document) : List Obligation :=
  apportion (d.leafCount / d.obligations.length) (d.leafCount % d.obligations.length) d.obligations

/-- Each department's account moves from the old charge of its obligation to the new one, in list order. -/
def Body.moveAccounts (b : Body) (old new : List Obligation) : Body :=
  (old.zip new).foldl (fun acc p => (acc.charge p.2.department p.2.charge).discharge p.1.department p.1.charge) b

/-- Escalation deadlines of the obligations that exist at the close, counted from it (R116). -/
def Tables.setDeadlines (t : Tables) (run : Nat) (os : List Obligation) : List Obligation :=
  os.map (fun o => { o with deadline := t.deadline o.department o.kind run })

/-! ### The close of a document -/

/-- The record of a document at its close, before it is apportioned or discarded: the OPEN page CUT, the ending
recorded, the session absent, the receipt time stamped (R8 steps 1 to 3). -/
def Document.stampClose (d : Document) (ending : Ending) (receipt : Stamp) : Document :=
  { d.updLastPage Page.cut with ending := some ending, session := none, receipt := some receipt }

/-- The close of a document that keeps leaves: DISTRIBUTING, apportioned, deadlines and retention set (R8 step 5). -/
def Document.distribute (t : Tables) (run : Nat) (receipt : Stamp) (d : Document) : Document :=
  Document.retainAtClose t
    { d with state := .distributing, obligations := t.setDeadlines run d.apportioned } receipt

/-- The catalog's part of a close, as one change: discarded with its slot freed when it holds no leaf, DISTRIBUTING
otherwise (R8, R9, R109, R116, R144). -/
def Body.closeDocument (t : Tables) (tb : Timebase) (b : Body) (n : Nat) (ending : Ending) : Body :=
  match b.doc n with
  | some d =>
    let receipt : Stamp := ⟨tb.clock, tb.trusted⟩
    let d1 := d.stampClose ending receipt
    if d1.leafCount = 0 then b.freeSlot n
    else (b.setDoc n (d1.distribute t tb.run receipt)).moveAccounts d1.obligations d1.apportioned
  | none => b

/-! ### The close of a session (R59) -/

/-- A buffer of a closing session's queue becomes an orphan; leaf, place, fill and state are kept (R70). -/
def Body.orphan (b : Body) (i : Nat) : Body := b.setBuffer i { b.buffer i with holder := some .orphan }

/-- The close procedure of an open session: the FILLING buffer READY, the document closed, the queue orphaned, the
session IDLE (R59). -/
def Body.closeSession (t : Tables) (tb : Timebase) (b : Body) (k : Nat) (ending : Ending) : Body :=
  let s := b.session k
  if s.state = .idle then b
  else
    let b1 := if s.state = .inPage then b.makeReady s.tail else b
    let b2 := match s.doc with | some n => b1.closeDocument t tb n ending | none => b1
    (s.queue.foldl Body.orphan b2).setSession k Session.idle

/-- Closes several sessions, in ascending session number (R68, R27, R62). -/
def Body.closeSessions (t : Tables) (tb : Timebase) (b : Body) (ks : List Nat) (ending : Ending) : Body :=
  ks.foldl (fun acc k => acc.closeSession t tb k ending) b

/-- The page of an APPEND refused with PAGE_TOO_LONG or STORE_FULL is CUT, its FILLING buffer READY, and the session
goes to ADMITTED or STOPPED (R53, R54). -/
def Body.cutPage (b : Body) (k : Nat) (next : SessState) : Body :=
  let s := b.session k
  let b1 := (match s.doc with | some n => b.updDoc n (fun d => d.updLastPage Page.cut) | none => b).makeReady s.tail
  b1.setSession k { b1.session k with state := next }

end Sys2Proof.Machine
end

