-- ==== Sys2Proof/Machine/Arbiter.lean ====
section
/-! DEFINITION. The shared operations of the leaf store controller: releasing slots of a purge, starting purges, and the
bank arbiters' choice and the start of each operation (05_the_leaf_store.md, 08_retention_holds_and_purge.md). -/

namespace Sys2Proof.Machine

/-! ### Purge (R95, R150, R151) -/

/-- Releases one leaf slot of a PURGING document: it ceases to name a leaf, the retained charge falls by one, and a
buffer that waited behind it, unplaced, is freed (R13, R73, R119). -/
def Body.releaseSlot (b : Body) (n page index : Nat) : Body :=
  let b1 := b.updDoc n (fun d => { d.setLeafSlot page index .released with retained := d.retained - 1 })
  match b.waitingBuffer ⟨n, page, index⟩ with
  | some i => b1.releaseBuffer i
  | none => b1

/-- The unplaced slots that stand at the cursor, up to the first placed one (R95). -/
def Document.unplacedAtCursor (d : Document) : List (Nat × Nat × LeafSlot) :=
  (d.leafSlots.filter (fun s => s.2.2 != .released)).takeWhile (fun s => s.2.2 == .unplaced)

/-- The cursor moves on: unplaced slots it stands on are released at once, and past the last slot the document's
catalog slot is freed and it leaves the purge list (R14, R95). -/
def Body.advancePurge (b : Body) (n : Nat) : Body :=
  match b.doc n with
  | some d =>
    let b1 := d.unplacedAtCursor.foldl (fun acc s => acc.releaseSlot n s.1 s.2.1) b
    match b1.doc n with
    | some d1 => if d1.cursor.isNone then b1.freeSlot n else b1
    | none => b1
  | none => b

/-- The start of a purge, as one change: PURGING, at the back of the purge list, unplaced slots at the cursor released
(R150). -/
def Body.startPurge (b : Body) (n : Nat) : Body :=
  let b1 := b.updDoc n (fun d => { d with state := .purging })
  { b1 with purges := b1.purges ++ [n] }.advancePurge n

/-! ### Work of a bank (R88) -/

/-- What an arbiter can choose. -/
inductive Work where
  /-- The program of a READY buffer whose leaf is placed. -/
  | program (buffer leaf : Nat)
  /-- The program of a READY buffer behind an unplaced slot, into a replacement leaf. -/
  | replace (buffer : Nat)
  /-- The fetch at the front of the fetch queue. -/
  | fetch (buffer : Nat)
  /-- The void mark of the leaf at a purging document's cursor. -/
  | voidMark (slot page index leaf : Nat)
  /-- The erase at the front of the erase queue. -/
  | erase (leaf : Nat)
  deriving DecidableEq, Repr

/-- A READY buffer as work of bank `k`: its leaf is in the bank, or it stands behind an unplaced slot and the
allocation rule names the bank (R88, R93). -/
def Body.bufferWork (b : Body) (k i : Nat) : Option Work :=
  if (b.buffer i).state = .ready then
    match (b.buffer i).leaf with
    | some l => if leafBank l = k then some (.program i l) else none
    | none => if b.allocationBank = some k then some (.replace i) else none
  else none

/-- The READY buffer of one urgency that stands earliest in the ready list, as work of bank `k` (R88). -/
def Body.programWork (b : Body) (k urgency : Nat) : Option Work :=
  (b.ready.filter (fun i => b.urgency i = urgency)).findSome? (fun i => b.bufferWork k i)

/-- The fetch at the front of the bank's fetch queue (R94). -/
def Body.fetchWork (b : Body) (k : Nat) : Option Work := (b.bank k).fetchQueue.head?.map .fetch

/-- The erase at the front of the bank's erase queue (R97). -/
def Body.eraseWork (b : Body) (k : Nat) : Option Work := (b.bank k).eraseQueue.head?.map .erase

/-- The void mark a purging document yields to bank `k`: its cursor slot is placed on a PROGRAMMED leaf of it (R95). -/
def Body.voidWorkOf (b : Body) (k n : Nat) : Option Work :=
  match (b.doc n).bind Document.cursor with
  | some (page, index, .placed l) =>
    if (b.leaf l).state = .programmed ∧ leafBank l = k then some (.voidMark n page index l) else none
  | _ => none

/-- The first void mark eligible in the bank, in purge-list order (R88 step 5). -/
def Body.voidWork (b : Body) (k : Nat) : Option Work := b.purges.findSome? (fun n => b.voidWorkOf k n)

/-- The arbiter's order of choice (R88); in POWER_FAIL programs alone (R89); none where operations do not start. -/
def Body.choose (b : Body) (part : PartState) (floor k : Nat) : Option Work :=
  match part with
  | .running =>
    b.programWork k 3 <|> (if b.deviceBlank < floor then b.eraseWork k else none) <|> b.fetchWork k <|>
      b.programWork k 2 <|> b.voidWork k <|> b.programWork k 1 <|> b.eraseWork k
  | .powerFail => b.programWork k 3 <|> b.programWork k 2 <|> b.programWork k 1
  | .off | .starting | .rebuilding => none

/-! ### Starting an operation -/

/-- The program of a placed leaf starts: leaf and buffer PROGRAMMING, the header assembled (R72, R87, R90). -/
def Body.startProgram (b : Body) (k i l : Nat) : Body :=
  let b1 := b.setLeaf l { b.leaf l with state := .programming }
  let b2 := b1.setBuffer i { b1.buffer i with state := .programming }
  b2.setOp k (.program i l (b2.headerFor i))

/-- A replacement: the front BLANK leaf is placed in the unplaced slot and its program starts (R93). -/
def Body.startReplace (b : Body) (k i : Nat) : Body :=
  match (b.bank k).blank.head?, (b.buffer i).place with
  | some l, some p =>
    let b1 := (b.popBlank k).setLeaf l ⟨.blank, some p, some i⟩
    let b2 := b1.updDoc p.slot (fun d => d.updLeafSlot p.page p.index (LeafSlot.filled l))
    (b2.setBuffer i { b2.buffer i with leaf := some l }).startProgram k i l
  | _, _ => b

/-- The fetch at the front of the fetch queue starts (R94). -/
def Body.startFetch (b : Body) (k i : Nat) : Body :=
  b.setBank k { b.bank k with fetchQueue := (b.bank k).fetchQueue.tail, op := .fetch i }

/-- The window naming a leaf whose void mark starts: a WINDOW buffer is freed, a FETCHING one marked for discard (R78). -/
def Body.dropWindow (b : Body) (l : Nat) : Body :=
  match b.windowOf l with
  | some i =>
    if (b.buffer i).state = .window then b.releaseBuffer i else b.setBuffer i { b.buffer i with discard := true }
  | none => b

/-- A void mark starts: leaf VOIDING without owner, slot released, its window released, the cursor moves on (R95). -/
def Body.startVoidMark (b : Body) (k n page index l : Nat) : Body :=
  let b1 := (b.setLeaf l ⟨.voiding, none, none⟩).setOp k (.voidMark l)
  ((b1.releaseSlot n page index).dropWindow l).advancePurge n

/-- The erase at the front of the erase queue starts (R97). -/
def Body.startErase (b : Body) (k l : Nat) : Body :=
  let b1 := b.setLeaf l ⟨.erasing, none, none⟩
  b1.setBank k { b1.bank k with eraseQueue := (b1.bank k).eraseQueue.tail, op := .erase l }

/-- Starts the chosen operation on bank `k`. -/
def Body.startWork (b : Body) (k : Nat) : Work → Body
  | .program i l => b.startProgram k i l
  | .replace i => b.startReplace k i
  | .fetch i => b.startFetch k i
  | .voidMark n page index l => b.startVoidMark k n page index l
  | .erase l => b.startErase k l

/-- An idle bank with work chooses and starts (R88). -/
def Body.startChosen (b : Body) (part : PartState) (floor k : Nat) : Body :=
  match b.choose part floor k with
  | some w => b.startWork k w
  | none => b

/-- The idle banks with work. -/
def Body.waitingBanks (b : Body) (part : PartState) (floor : Nat) : List Nat :=
  [0, 1, 2, 3].filter (fun k => decide ((b.bank k).op = .none) && (b.choose part floor k).isSome)

/-- One of several alternatives, by a free choice (log 7, 8). -/
def Body.pick (b : Body) (alternatives : List Nat) : Nat :=
  alternatives.getD (Config.freeChoice b.draws % alternatives.length) 0

/-- Every idle bank with work chooses, one after another; which of several goes first is a free choice (R88, log 7).
Each choice makes one bank busy, so four rounds are enough. -/
def Body.arbitrateFor (part : PartState) (floor : Nat) : Nat → Body → Body
  | 0, b => b
  | fuel + 1, b =>
    match b.waitingBanks part floor with
    | [] => b
    | [k] => Body.arbitrateFor part floor fuel (b.startChosen part floor k)
    | k :: j :: ks =>
      let chosen := b.pick (k :: j :: ks)
      Body.arbitrateFor part floor fuel ({ b with draws := b.draws + 1 }.startChosen part floor chosen)

/-- The arbiters' choices in a change that may give idle banks work (R88). -/
def Body.arbitrate (b : Body) (part : PartState) (floor : Nat) : Body := Body.arbitrateFor part floor 4 b

/-! ### Purges due -/

/-- Starts the purges of a list of due documents, each a change of its own after which idle banks choose; which of
several goes first is a free choice (R149, log 8). -/
def Body.startPurges (part : PartState) (floor : Nat) : Nat → List Nat → Body → Body
  | 0, _, b => b
  | _ + 1, [], b => b
  | fuel + 1, [n], b => Body.startPurges part floor fuel [] ((b.startPurge n).arbitrate part floor)
  | fuel + 1, n :: m :: ns, b =>
    let chosen := b.pick (n :: m :: ns)
    Body.startPurges part floor fuel ((n :: m :: ns).erase chosen)
      (({ b with draws := b.draws + 1 }.startPurge chosen).arbitrate part floor)

/-- Every document due for purge starts its purge, where the part state allows it (R149). -/
def Body.startDuePurges (b : Body) (part : PartState) (floor clock : Nat) : Body :=
  if part.works then Body.startPurges part floor (b.dueSlots clock).length (b.dueSlots clock) b else b

/-- A document's purge starts if it is due, in the change that made it so (R149). -/
def Body.purgeIfDue (b : Body) (part : PartState) (clock n : Nat) : Body :=
  match b.doc n with
  | some d => if part.works && d.due clock then b.startPurge n else b
  | none => b

end Sys2Proof.Machine
end

