-- ==== Sys2Proof/Machine/Bus.lean ====
section
/-! DEFINITION. The bus interface: the target match (R172), the four checks of a request (R173), the answer (R174), and
the handle check that the owners of documents make first (R2). -/

namespace Sys2Proof.Machine

/-- The outcome of a command. -/
abbrev Outcome := Host.Outcome State Fault Refusal

/-- Operation codes (R181). -/
inductive Op where
  | openCall | pageBegin | append | pageEnd | closeCall | endSession | list | describe | read | release | forward | hold
  | unhold | setNode | setRoute | clearRoute | setDepartment | setLimits | setClock | status
  | unknown (code : Nat)
  deriving DecidableEq, Repr

/-- The code an answer names (R181). -/
def Op.code : Op → Nat
  | .openCall => 1 | .pageBegin => 2 | .append => 3 | .pageEnd => 4 | .closeCall => 5 | .endSession => 6 | .list => 7
  | .describe => 8 | .read => 9 | .release => 10 | .forward => 11 | .hold => 12 | .unhold => 13 | .setNode => 14
  | .setRoute => 15 | .clearRoute => 16 | .setDepartment => 17 | .setLimits => 18 | .setClock => 19 | .status => 20
  | .unknown c => c

/-- From which roles the part takes a request (11.1). An operation that names no request passes this check (R173). -/
def Op.permits : Op → Role → Bool
  | .openCall, .line _ | .pageBegin, .line _ | .append, .line _ | .pageEnd, .line _ | .closeCall, .line _ => true
  | .list, .department _ | .describe, .department _ | .read, .department _ | .release, .department _ => true
  | .list, .records | .describe, .records | .read, .records => true
  | .endSession, .records | .forward, .records | .hold, .records | .unhold, .records => true
  | .setNode, .records | .setRoute, .records | .clearRoute, .records | .setDepartment, .records => true
  | .setLimits, .records | .setClock, .records => true
  | .status, .line _ | .status, .department _ | .status, .records => true
  | .unknown _, .line _ | .unknown _, .department _ | .unknown _, .records => true
  | _, _ => false

/-- The first check of R173 that fails, with its answer. -/
def busCheck (part : PartState) (role : Role) (op : Op) (formed : Bool) : Option Verdict :=
  if role = .none then some (.denied .notEnrolled)
  else if !op.permits role then some (.denied .notPermitted)
  else if !formed then some (.denied .malformed)
  else if part ≠ .running ∧ op ≠ .status then some (.defer .standby)
  else none

/-- A step that sends nothing. -/
def State.quiet (s : State) : State := { s with sent := none }

/-- An APPEND's data block is awaited, so the bus can carry no request packet (R171). -/
def Transaction.held : Transaction → Bool
  | .appending _ | .discarding _ => true
  | .none | .sending _ => false

/-- The bus carries the next packet: what the part was sending has gone whole (R171, log 31). -/
def State.nextPacket (s : State) : State := { s with txn := .none, sent := none }

/-- Puts an answer and what follows it on the bus (R171, R176). -/
def State.send (s : State) (a : Answer) (block : Block) : State :=
  { s with sent := some ⟨a, block, none⟩, txn := .sending ⟨a, block, none⟩ }

/-- Sends an answer and what follows it. The attention carried is the sender's department's, once the request has had
its effect (R126). -/
def State.reply (s : State) (role : Role) (op : Op) (v : Verdict) (block : Block) : State :=
  s.send ⟨op.code, v, s.body.attentionFor role⟩ block

/-- The part hears a packet: main power is present and the bus reset input is not asserted (R178, R163). -/
def State.hears (s : State) : Bool := s.recovery.part != .off && !s.resetHeld

/-- What an owner makes of a request that is taken: the state after, the verdict and what follows the answer. -/
structure Taken where
  state : State
  verdict : Verdict
  block : Block := .none

/-- A request other than APPEND, from its packet to its answer. Another hub's packet, or one at the broadcast target, is
not taken and not answered (R172). -/
def request (s : State) (h : Head) (op : Op) (formed : Role → Bool) (owner : Role → State → Taken) : Outcome :=
  if s.txn.held then .fault .busHeld
  else if !s.hears || h.target.toNat != s.tables.hub then .next s.nextPacket
  else
    let role := s.tables.role h.sender.toNat
    match busCheck s.recovery.part role op (formed role) with
    | some v => .next (s.nextPacket.reply role op v .none)
    | none =>
      let t := owner role s.nextPacket
      .next (t.state.reply role op t.verdict t.block)

/-- An owner that refuses or defers without any effect. -/
def Taken.turnedAway (s : State) (v : Verdict) : Taken := ⟨s, v, .none⟩

/-! ### Changes of the body, seen from a state -/

/-- Changes the body. -/
def State.withBody (s : State) (f : Body → Body) : State := { s with body := f s.body }

/-- The arbiters' choices after a change (R88). -/
def State.arbitrate (s : State) : State :=
  { s with body := s.body.arbitrate s.recovery.part s.tables.floor }

/-! ### Handles -/

/-- The handle check: NO_DOCUMENT, STALE_HANDLE, or the document (R2). -/
def Body.handle (b : Body) (slot generation : Nat) : Except Denied Document :=
  match b.doc slot with
  | none => .error .noDocument
  | some d => if (b.slot slot).generation = generation then .ok d else .error .staleHandle

/-- A request that names a document: the handle check, then the owner's own (R2). -/
def onDocument (s : State) (slot : BitVec 13) (generation : BitVec 8) (owner : Document → Taken) : Taken :=
  match s.body.handle slot.toNat generation.toNat with
  | .error e => Taken.turnedAway s (.denied e)
  | .ok d => owner d

/-- Who may describe or read a document: a department that holds an obligation, or the records node while it is not
PURGING (R125). -/
def mayRead (role : Role) (d : Document) : Option Denied :=
  match role with
  | .department n => if d.obliges n then none else some .notObliged
  | .none | .line _ | .records => if d.state = .purging then some .purging else none

end Sys2Proof.Machine
end

