-- ==== Sys2Proof/Machine/Routing.lean ====
section
/-! DEFINITION. The first obligation list of a call: route matching, the lead, the displaced primary and the copies
(R34 to R38). -/

namespace Sys2Proof.Machine

/-- A pattern position matches a digit (2.5). -/
def digitMatches (p d : Nat) : Bool := p == anyDigit || p == d

/-- The number of positions that are not ANY (2.5). -/
def Route.specificity (r : Route) : Nat := r.pattern.countP (fun p => p != anyDigit)

/-- A route entry matches a call: its department enabled and each position ANY or the digit of the extension; an absent
extension matches nothing (R34). -/
def Tables.matches (t : Tables) (ext : Option (List Nat)) (r : Route) : Bool :=
  match ext with
  | none => false
  | some ds => (t.dept r.department).enabled && (r.pattern.zip ds).all (fun p => digitMatches p.1 p.2)

/-- The matching entries of a role, in ascending index order. -/
def Tables.matching (t : Tables) (ext : Option (List Nat)) (role : RouteRole) : List Route :=
  (List.range Config.routes).filterMap
    (fun i => (t.route i).filter (fun r => r.role == role && t.matches ext r))

/-- The primary department: highest specificity, lowest index among equals (R35). -/
def Tables.primary (t : Tables) (ext : Option (List Nat)) : Option Nat :=
  ((t.matching ext .primary).foldl
    (fun best r => match best with
      | some b => if b.specificity < r.specificity then some r else best
      | none => some r) (none : Option Route)).map (fun r => r.department)

/-- The lead, and the displaced primary when it overflows (R35, R36). -/
def leads (t : Tables) (b : Body) (ext : Option (List Nat)) : List (Nat × ObKind) :=
  match t.primary ext with
  | none => [(0, .unrouted)]
  | some 0 => [(0, .primary)]
  | some d => if b.account d < (t.dept d).quota then [(d, .primary)] else [(0, .overflow), (d, .copy)]

/-- Appends departments as copies, passing over those already listed (R37). -/
def addCopies (listed : List (Nat × ObKind)) (depts : List Nat) : List (Nat × ObKind) :=
  depts.foldl (fun acc d => if acc.any (fun e => e.1 == d) then acc else acc ++ [(d, .copy)]) listed

/-- The departments whose copies are added: matching COPY entries in index order, then enabled copy-all departments in
ascending number (R37). -/
def Tables.copies (t : Tables) (ext : Option (List Nat)) : List Nat :=
  (t.matching ext .copy).map (fun r => r.department) ++
    (List.range Config.departments).filter (fun d => (t.dept d).enabled && (t.dept d).copyAll)

/-- The call's first obligation list (R38). -/
def firstList (t : Tables) (b : Body) (run : Nat) (ext : Option (List Nat)) : List Obligation :=
  (addCopies (leads t b ext) (t.copies ext)).map (fun e => Obligation.fresh e.1 e.2 run none 0)

end Sys2Proof.Machine
end

