-- ==== Sys2Proof/Machine/Intake.lean ====
section
/-! DEFINITION. The line requests and the ends of sessions (03_intake_sessions.md): OPEN_CALL, PAGE_BEGIN, APPEND,
APPEND_DATA_BLOCK_END, PAGE_END, CLOSE_CALL, END_SESSION, IDLE_EXPIRY. -/

namespace Sys2Proof.Machine

/-! ### Shared -/

/-- The session a line request reaches: the sender's line index × 8 + channel (R44). -/
def sessionOf (role : Role) (channel : BitVec 3) : Nat :=
  match role with
  | .line i => i * 8 + channel.toNat
  | .none | .department _ | .records => channel.toNat

/-- The idle deadline counted from now (R45). -/
def State.idleDeadline (s : State) : Nat := saturate (s.time.run + s.tables.idleTimeout)

/-- The deadline of a session that is not IDLE moves, whatever answer its request receives (R45). -/
def State.moveDeadline (s : State) (k : Nat) : State :=
  if (s.body.session k).state = .idle then s
  else s.withBody (fun b => b.setSession k { b.session k with deadline := some s.idleDeadline })

/-- A line request's owner: the deadline moves first, then the owner decides (R45). -/
def lineOwner (channel : BitVec 3) (owner : Nat → Session → State → Taken) : Role → State → Taken :=
  fun role s =>
    let k := sessionOf role channel
    let s1 := s.moveDeadline k
    owner k (s1.body.session k) s1

/-- What a new leaf slot finds, or why it cannot be had: the queue limit, a FREE buffer, a BLANK leaf (R49, R54). -/
inductive Room where
  | ringFull | stagingFull | storeBusy | storeFull
  | found (buffer leaf : Nat)
  deriving DecidableEq, Repr

/-- The checks for a buffer and a leaf, in order (R49 steps 1 to 4, R54). -/
def Body.room (b : Body) (k : Nat) : Room :=
  if Config.queueLimit ≤ (b.session k).queue.length then .ringFull
  else
    match b.lowestFreeBuffer with
    | none => .stagingFull
    | some i =>
      match b.nextLeaf with
      | some l => .found i l
      | none => if b.leafOnItsWay then .storeBusy else .storeFull

/-! ### OPEN CALL -/

/-- The record a call begins with (R5). -/
def newDocument (s : State) (k : Nat) (ext caller : Option (List Nat)) : Document :=
  { serial := s.body.nextSerial, state := .receiving, ending := none, session := some k, extension := ext,
    caller := caller, openTime := ⟨s.time.clock, s.time.trusted⟩, receipt := none, pages := [],
    obligations := firstList s.tables s.body s.time.run ext, retained := 0, base := .absent, departments := [],
    retainUntil := .absent, holds := [] }

/-- Admission, as one change: slot and serial taken, list built with attention for its departments, session ADMITTED
(R47). -/
def Body.admitCall (b : Body) (n k : Nat) (d : Document) (deadline : Nat) : Body :=
  let b1 := { b.setDoc n d with nextSerial := b.nextSerial + 1 }
  let b2 := (d.obligations.map (fun o => o.department)).foldl Body.callAttention b1
  b2.setSession k ⟨.admitted, some n, some deadline, []⟩

/-- The answer to an OPEN CALL admitted: lead department and kind, session, handle and serial (R47, R182). -/
def admission (s : State) (n k : Nat) (d : Document) : Result :=
  let lead := d.obligations.head?
  .openCall ((lead.map (fun o => o.department)).getD 0) ((lead.map (fun o => o.kind)).getD .unrouted) k n
    (s.body.slot n).generation d.serial

/-- The checks of R46 and the admission. -/
def ownOpenCall (ext caller : Option (List Nat)) (k : Nat) (c : Session) (s : State) : Taken :=
  if c.state ≠ .idle then Taken.turnedAway s (.denied .channelBusy)
  else if Config.serialEnd ≤ s.body.nextSerial then Taken.turnedAway s (.denied .serialExhausted)
  else
    match s.body.lowestFreeSlot with
    | none => Taken.turnedAway s (.defer .catalogFull)
    | some n =>
      if s.body.deviceBlank < s.tables.floor then Taken.turnedAway s (.defer .storeLow)
      else
        let d := newDocument s k ext caller
        ⟨s.withBody (fun b => b.admitCall n k d s.idleDeadline), .taken (admission s n k d), .none⟩

/-- OPEN CALL (R46, R47). -/
def execOpenCall (h : Head) (channel : BitVec 3) (extension : BitVec 24) (identityLength : BitVec 5)
    (identity : BitVec 80) (s : State) : Outcome :=
  request s h .openCall (fun _ => (extensionOf extension).isSome && (identityOf identityLength identity).isSome)
    (lineOwner channel
      (ownOpenCall ((extensionOf extension).getD none) ((identityOf identityLength identity).getD none)))

/-! ### PAGE BEGIN -/

/-- The page record a PAGE BEGIN appends (R16). -/
def newPage (density : Density) (width : PageWidth) (coding leaf : Nat) : Page :=
  ⟨.openPage, density, width, coding, 0, none, [.placed leaf]⟩

/-- A page begins, as one change: leaf, buffer, page, charge, session IN_PAGE (R50). -/
def Body.beginPage (b : Body) (k n : Nat) (d : Document) (page : Page) (buffer leaf : Nat) : Body :=
  let b1 := b.allocate k ⟨n, d.pages.length + 1, 0⟩ leaf buffer
  let b2 := (b1.setDoc n { d with pages := d.pages ++ [page] }).chargeLead n
  b2.setSession k { b2.session k with state := .inPage }

/-- The checks of R48 and R49 and the beginning of the page. -/
def ownPageBegin (density : Density) (width : PageWidth) (coding : Nat) (k : Nat) (c : Session) (s : State) : Taken :=
  match c.state with
  | .idle => Taken.turnedAway s (.denied .noSession)
  | .inPage => Taken.turnedAway s (.denied .pageOpen)
  | .stopped => Taken.turnedAway s (.denied .storeFull)
  | .admitted =>
    let n := c.doc.getD 0
    match s.body.doc n with
    | none => Taken.turnedAway s (.denied .noSession)
    | some d =>
      if Config.pageLimit ≤ d.pages.length then Taken.turnedAway s (.denied .tooManyPages)
      else
        match s.body.room k with
        | .ringFull => Taken.turnedAway s (.defer .ringFull)
        | .stagingFull => Taken.turnedAway s (.defer .stagingFull)
        | .storeBusy => Taken.turnedAway s (.defer .storeBusy)
        | .storeFull =>
          Taken.turnedAway (s.withBody (fun b => b.setSession k { b.session k with state := .stopped }))
            (.denied .storeFull)
        | .found i l =>
          if Config.pageRecords ≤ s.body.pageRecords then Taken.turnedAway s (.defer .storeBusy)
          else
            ⟨(s.withBody (fun b => b.beginPage k n d (newPage density width coding l) i l)).arbitrate,
              .taken (.pageBegin (d.pages.length + 1)), .none⟩

/-- PAGE BEGIN (R48, R49, R50). -/
def execPageBegin (h : Head) (channel : BitVec 3) (density width coding : BitVec 2) (s : State) : Outcome :=
  request s h .pageBegin (fun _ => (densityOf density.toNat).isSome && (widthOf width.toNat).isSome)
    (lineOwner channel
      (ownPageBegin ((densityOf density.toNat).getD .normal) ((widthOf width.toNat).getD .narrow) coding.toNat))

/-! ### APPEND -/

/-- A new slot at rollover, as one change: leaf, buffer, slot at the end of the open page, charge (R55). -/
def Body.rollOver (b : Body) (k n : Nat) (d : Document) (buffer leaf : Nat) : Body :=
  let slots := ((d.page d.pages.length).map (fun p => p.slots.length)).getD 0
  let b1 := b.allocate k ⟨n, d.pages.length, slots⟩ leaf buffer
  (b1.setDoc n (d.updLastPage (fun p => { p with slots := p.slots ++ [.placed leaf] }))).chargeLead n

/-- What the session unit decides when an APPEND's request is taken: refused, deferred, or its block awaited. -/
inductive AppendChoice where
  | away (s : State) (v : Verdict)
  | await (s : State) (a : AppendInFlight)

/-- The checks of R51 to R55. -/
def ownAppend (count k : Nat) (c : Session) (s : State) : AppendChoice :=
  match c.state with
  | .idle => .away s (.denied .noSession)
  | .admitted => .away s (.denied .pageNotOpen)
  | .stopped => .away s (.denied .storeFull)
  | .inPage =>
    let n := c.doc.getD 0
    let left := Config.leafBytes - (s.body.buffer c.tail).data.length
    match s.body.doc n with
    | none => .away s (.denied .noSession)
    | some d =>
      if count ≤ left then .await s ⟨k, count, left, false⟩
      else if Config.pageSlots ≤ ((d.page d.pages.length).map (fun p => p.slots.length)).getD 0 then
        .away (s.withBody (fun b => b.cutPage k .admitted)).arbitrate (.denied .pageTooLong)
      else
        match s.body.room k with
        | .ringFull => .away s (.defer .ringFull)
        | .stagingFull => .away s (.defer .stagingFull)
        | .storeBusy => .away s (.defer .storeBusy)
        | .storeFull => .away (s.withBody (fun b => b.cutPage k .stopped)).arbitrate (.denied .storeFull)
        | .found i l => .await (s.withBody (fun b => b.rollOver k n d i l)).arbitrate ⟨k, count, left, true⟩

/-- The transaction stays on the bus until the data block ends; an answer already decided waits for it (R171). The attention
it carries is that of the moment of the checks: R126 has 'the moment the bus gives it', which can be read as the moment the
answer goes, after the block, and the earlier one is the model's choice (log 35). -/
def State.discard (s : State) (role : Role) (v : Verdict) : State :=
  { s with txn := .discarding ⟨Op.append.code, v, s.body.attentionFor role⟩ }

/-- APPEND's request packet (R51 to R55, R171): the answer follows the data block. -/
def execAppend (h : Head) (channel : BitVec 3) (count : BitVec 9) (s : State) : Outcome :=
  if s.txn.held then .fault .busHeld
  else if !s.hears || h.target.toNat != s.tables.hub then .next s.nextPacket
  else
    let role := s.tables.role h.sender.toNat
    match busCheck s.recovery.part role .append (countInRange count) with
    | some v => .next (s.nextPacket.discard role v)
    | none =>
      let k := sessionOf role channel
      let s1 := s.nextPacket.moveDeadline k
      match ownAppend count.toNat k (s1.body.session k) s1 with
      | .away t v => .next (t.discard role v)
      | .await t a => .next { t with txn := .appending a }

/-! ### The end of an APPEND's data block -/

/-- The bytes that arrived: all of the count when every expected word arrived, two for each word otherwise (R175). -/
def arrived (count : Nat) (words : List Word) : List Byte := (bytesOfWords words).take count

/-- Bytes written into a session's FILLING buffer. -/
def Body.fill (b : Body) (i : Nat) (bytes : List Byte) : Body :=
  b.setBuffer i { b.buffer i with data := (b.buffer i).data ++ bytes }

/-- The page grows by the bytes taken (R19). -/
def Body.growPage (b : Body) (n count : Nat) : Body :=
  b.updDoc n (fun d => d.updLastPage (fun p => { p with byteLength := p.byteLength + count }))

/-- Returns a slot reserved for bytes that never came: slot, charge, leaf to the front of its blank list, buffer
(R56, R69, R85). -/
def Body.returnReserved (b : Body) (n i : Nat) : Body :=
  let leaf := (b.buffer i).leaf
  let b1 := b.updDoc n (fun d => d.updLastPage (fun p => { p with slots := p.slots.dropLast }))
  let b2 := (b1.dischargeLead n).releaseBuffer i
  match leaf with
  | some l => (b2.setLeaf l Leaf.blank).returnBlank l
  | none => b2

/-- Settles the bytes of an APPEND's data block (R52, R55, R56). -/
def Body.settleAppend (b : Body) (a : AppendInFlight) (bytes : List Byte) : Body :=
  let c := b.session a.session
  let n := c.doc.getD 0
  if a.rolled then
    let new := c.tail
    let old := c.queue.dropLast.getLast?.getD 0
    if bytes.length ≤ a.room then ((b.fill old bytes).growPage n bytes.length).returnReserved n new
    else
      (((b.fill old (bytes.take a.room)).makeReady old).fill new (bytes.drop a.room)).growPage n bytes.length
  else (b.fill c.tail bytes).growPage n bytes.length

/-- The byte length of a session's last page. -/
def Body.lastLength (b : Body) (k : Nat) : Nat :=
  (((b.doc ((b.session k).doc.getD 0)).bind (fun d => d.page d.pages.length)).map (fun p => p.byteLength)).getD 0

/-- The end of an APPEND's data block: complete, by an end mark, or by a dropped framing line (R175). With no APPEND of
this part in progress the block is another hub's, and nothing is received (R172); an end mark raised while the part
sends is disregarded (R176). -/
def execAppendDataBlockEnd (words : List Word) (s : State) : Outcome :=
  match s.txn with
  | .none | .sending _ => .next s.quiet
  | .discarding answer => .next (s.send answer .none)
  | .appending a =>
    let bytes := arrived a.count words
    let s1 : State := { s with body := s.body.settleAppend a bytes, txn := .none }
    .next (s1.arbitrate.send ⟨Op.append.code, .taken (.append bytes.length (s1.body.lastLength a.session)), false⟩ .none)

/-! ### PAGE END -/

/-- The open page is CLOSED with its counts, its buffer READY, the session ADMITTED (R57). -/
def Body.endPage (b : Body) (k n scanlines badLines : Nat) : Body :=
  let b1 := b.updDoc n
    (fun d => d.updLastPage (fun p => { p with state := .closed, counts := some (scanlines, badLines) }))
  let b2 := b1.makeReady (b1.session k).tail
  b2.setSession k { b2.session k with state := .admitted }

/-- The checks of R57 and the end of the page. -/
def ownPageEnd (scanlines badLines k : Nat) (c : Session) (s : State) : Taken :=
  match c.state with
  | .idle => Taken.turnedAway s (.denied .noSession)
  | .admitted => Taken.turnedAway s (.denied .pageNotOpen)
  | .stopped => Taken.turnedAway s (.denied .storeFull)
  | .inPage =>
    let n := c.doc.getD 0
    let pages := ((s.body.doc n).map (fun d => d.pages.length)).getD 0
    ⟨(s.withBody (fun b => b.endPage k n scanlines badLines)).arbitrate,
      .taken (.pageEnd pages (s.body.lastLength k)), .none⟩

/-- PAGE END (R57). -/
def execPageEnd (h : Head) (channel : BitVec 3) (scanlines badLines : BitVec 16) (s : State) : Outcome :=
  request s h .pageEnd (fun _ => true) (lineOwner channel (ownPageEnd scanlines.toNat badLines.toNat))

/-! ### Closes -/

/-- A session is closed and idle banks choose (R59). -/
def State.close (s : State) (k : Nat) (ending : Ending) : State :=
  (s.withBody (fun b => b.closeSession s.tables s.time k ending)).arbitrate

/-- CLOSE CALL's check and close; a STOPPED session records STORE_FULL (R58, R7). -/
def ownCloseCall (ending : Ending) (k : Nat) (c : Session) (s : State) : Taken :=
  match c.state with
  | .idle => Taken.turnedAway s (.denied .noSession)
  | .admitted | .inPage => ⟨s.close k ending, .taken .plain, .none⟩
  | .stopped => ⟨s.close k .storeFull, .taken .plain, .none⟩

/-- CLOSE CALL (R58, R59). -/
def execCloseCall (h : Head) (channel : BitVec 3) (ending : BitVec 2) (s : State) : Outcome :=
  request s h .closeCall (fun _ => (closeEndingOf ending.toNat).isSome)
    (lineOwner channel (ownCloseCall ((closeEndingOf ending.toNat).getD .complete)))

/-- END SESSION from the records node (R61). -/
def execEndSession (h : Head) (session : BitVec 6) (s : State) : Outcome :=
  request s h .endSession (fun _ => session.toNat < Config.sessions)
    (fun _ s1 =>
      if (s1.body.session session.toNat).state = .idle then Taken.turnedAway s1 (.denied .noSession)
      else ⟨s1.close session.toNat .forced, .taken .plain, .none⟩)

/-- Whether an APPEND of this session awaits its data block. -/
def Transaction.appendsTo (k : Nat) : Transaction → Bool
  | .appending a => a.session == k
  | .none | .discarding _ | .sending _ => false

/-- The run counter has reached the idle deadline of a session that is not IDLE (R60). -/
def State.idleDue (s : State) (k : Nat) : Bool :=
  s.recovery.part.works && (s.body.session k).state != .idle &&
    match (s.body.session k).deadline with
    | some t => t ≤ s.time.run
    | none => false

/-- An idle expiry closes the session with ending TIMEOUT (R60). -/
def execIdleExpiry (session : BitVec 5) (s : State) : Outcome :=
  if s.txn.appendsTo session.toNat then .fault .appendInFlight
  else if s.idleDue session.toNat then .next (s.quiet.close session.toNat .timeout)
  else .fault .notDue

end Sys2Proof.Machine
end

