-- ==== Sys2Proof/Machine/Administration.lean ====
section
/-! DEFINITION. The records node's table requests: SET_NODE, SET_ROUTE, CLEAR_ROUTE, SET_DEPARTMENT, SET_LIMITS
(02_departments_and_routing.md), and UNKNOWN_OPERATION (R173). -/

namespace Sys2Proof.Machine

/-! ### SET NODE -/

/-- Some other node holds LINE with this index (R26 step 3). -/
def Tables.lineTaken (t : Tables) (node index : Nat) : Bool :=
  (List.range 32).any (fun m => m != node && t.role m == .line index)

/-- The first check of R26 that refuses a role for a node. -/
def setNodeRefusal (t : Tables) (node : Nat) (role : Role) : Option Denied :=
  if node = t.recordsNode then some .notPermitted
  else
    match role with
    | .records => some .notPermitted
    | .line i => if t.lineTaken node i then some .alreadyAssigned else none
    | .department d =>
      if t.role node ≠ .department d ∧ Config.departmentNodes ≤ (t.dept d).nodes.length then some .alreadyAssigned
      else none
    | .none => none

/-- A node leaves its department's node list, if it is in one (R28). -/
def Tables.leaveDepartment (t : Tables) (node : Nat) : Tables :=
  match t.role node with
  | .department d => t.setDept d { t.dept d with nodes := (t.dept d).nodes.filter (fun m => m ≠ node) }
  | .none | .line _ | .records => t

/-- A node joins the end of a department's node list (R28). -/
def Tables.joinDepartment (t : Tables) (node : Nat) (role : Role) : Tables :=
  match role with
  | .department d => t.setDept d { t.dept d with nodes := (t.dept d).nodes ++ [node] }
  | .none | .line _ | .records => t

/-- The entry takes a role; giving the role and value already held changes nothing (R26, R28). -/
def Tables.enrol (t : Tables) (node : Nat) (role : Role) : Tables :=
  if t.role node = role then t
  else
    let t1 := (t.leaveDepartment node).joinDepartment node role
    { t1 with nodes := Table.write .none t1.nodes node role }

/-- The sessions of a line index that a node loses (R27). -/
def lostSessions (old new : Role) : List Nat :=
  match old with
  | .line i => if new = .line i then [] else (List.range 8).map (fun c => i * 8 + c)
  | .none | .department _ | .records => []

/-- SET NODE taken: the entry and, in the same change, the close of the lost line index's open sessions with ending
WITHDRAWN (R27). -/
def State.setNode (s : State) (node : Nat) (role : Role) : State :=
  let lost := lostSessions (s.tables.role node) role
  let s1 := { s with tables := s.tables.enrol node role }
  if lost = [] then s1
  else (s1.withBody (fun b => b.closeSessions s.tables s.time lost .withdrawn)).arbitrate

/-- The checks of R26 and the change. -/
def ownSetNode (node : Nat) (role : Role) (s : State) : Taken :=
  match setNodeRefusal s.tables node role with
  | some e => Taken.turnedAway s (.denied e)
  | none => ⟨s.setNode node role, .taken .plain, .none⟩

/-- SET NODE (R26, R27, R28). -/
def execSetNode (h : Head) (node : BitVec 6) (role : BitVec 3) (value : BitVec 5) (s : State) : Outcome :=
  request s h .setNode (fun _ => decide (node.toNat < 32) && (roleOf role.toNat value.toNat).isSome)
    (fun _ s1 => ownSetNode node.toNat ((roleOf role.toNat value.toNat).getD .none) s1)

/-! ### Routes -/

/-- SET ROUTE (R33). -/
def execSetRoute (h : Head) (index : BitVec 7) (pattern : BitVec 24) (department : BitVec 5) (role : BitVec 2)
    (s : State) : Outcome :=
  request s h .setRoute
    (fun _ => decide (index.toNat < Config.routes) && (patternOf pattern).isSome && departmentInRange department &&
      (routeRoleOf role.toNat).isSome)
    (fun _ s1 =>
      let entry : Route := ⟨(patternOf pattern).getD [], department.toNat, (routeRoleOf role.toNat).getD .primary⟩
      ⟨{ s1 with tables := { s1.tables with routes := Table.write none s1.tables.routes index.toNat (some entry) } },
        .taken .plain, .none⟩)

/-- CLEAR ROUTE (R33). -/
def execClearRoute (h : Head) (index : BitVec 7) (s : State) : Outcome :=
  request s h .clearRoute (fun _ => decide (index.toNat < Config.routes))
    (fun _ s1 =>
      ⟨{ s1 with tables := { s1.tables with routes := Table.write none s1.tables.routes index.toNat none } },
        .taken .plain, .none⟩)

/-! ### SET DEPARTMENT and SET LIMITS -/

/-- A value clamped to a range (R30, R32). -/
def clampTo (low high v : Nat) : Nat := max low (min high v)

/-- What SET DEPARTMENT stores: the numeric fields clamped; for intake enabled, quota and escalation period are held
(R30). -/
def storedDept (t : Tables) (d : Nat) (enabled : Bool) (quota escalation retention : Nat) (copyAll : Bool) : Dept :=
  if d = 0 then
    { t.dept d with enabled := true, quota := 65536, escalation := 0, retention := clampTo 1 3650 retention,
                    copyAll := copyAll }
  else
    { t.dept d with enabled := enabled, quota := clampTo 1 65536 quota, escalation := min 10080 escalation,
                    retention := clampTo 1 3650 retention, copyAll := copyAll }

/-- SET DEPARTMENT (R30). -/
def execSetDepartment (h : Head) (department : BitVec 5) (enabled : BitVec 2) (quota : BitVec 17)
    (escalation : BitVec 14) (retention : BitVec 12) (copyAll : BitVec 2) (s : State) : Outcome :=
  request s h .setDepartment
    (fun _ => departmentInRange department && (yesNoOf enabled.toNat).isSome && (yesNoOf copyAll.toNat).isSome)
    (fun _ s1 =>
      let v := storedDept s1.tables department.toNat ((yesNoOf enabled.toNat).getD false) quota.toNat escalation.toNat
        retention.toNat ((yesNoOf copyAll.toNat).getD false)
      ⟨{ s1 with tables := s1.tables.setDept department.toNat v },
        .taken (.setDepartment v.enabled v.quota v.escalation v.retention v.copyAll), .none⟩)

/-- SET LIMITS: floor clamped to 8,192, idle timeout to 5..600 seconds and held in ticks (R32). -/
def execSetLimits (h : Head) (floor : BitVec 14) (idleTimeout : BitVec 10) (s : State) : Outcome :=
  request s h .setLimits (fun _ => true)
    (fun _ s1 =>
      let leaves := min 8192 floor.toNat
      let seconds := clampTo 5 600 idleTimeout.toNat
      ⟨{ s1 with tables := { s1.tables with floor := leaves, idleTimeout := seconds * 64 } },
        .taken (.setLimits leaves seconds), .none⟩)

/-! ### UNKNOWN OPERATION -/

/-- A request whose operation names no request: DENIED(MALFORMED) once the sender is enrolled (R173). -/
def execUnknownOperation (h : Head) (code : BitVec 5) (s : State) : Outcome :=
  request s h (.unknown code.toNat) (fun _ => false) (fun _ s1 => Taken.turnedAway s1 (.denied .malformed))

end Sys2Proof.Machine
end

