-- ==== Sys2Proof/Machine/FlashArray.lean ====
section
/-! DEFINITION. What each flash operation leaves in the array (5.9, R87, R96, R98, R184): data areas by byte address,
spare areas by leaf. What a failed or cut-off operation leaves is a free value within the limits of R98 (log 10). -/

namespace Sys2Proof.Machine

/-! ### Data areas -/

/-- The address of a byte of a leaf's data area. -/
def dataAddress (leaf offset : Nat) : Nat := leaf * Config.leafBytes + offset

/-- One byte of the data areas. -/
def Memory.read (m : Memory) (a : Nat) : Byte := Table.read Memory.erasedByte m a

/-- Writes one byte; an erased byte is not listed. -/
def Memory.write (m : Memory) (a : Nat) (v : Byte) : Memory := Table.write Memory.erasedByte m a v

/-- Writes bytes from an address on. -/
def Memory.writeBytes (m : Memory) (a : Nat) : List Byte → Memory
  | [] => m
  | v :: vs => Memory.writeBytes (Memory.write m a v) (a + 1) vs

/-- Reads `n` bytes from an address on. -/
def Memory.readBytes (m : Memory) (a : Nat) : Nat → List Byte
  | 0 => []
  | n + 1 => Memory.read m a :: Memory.readBytes m (a + 1) n

/-- Erases a leaf's data area. -/
def Memory.eraseLeaf (m : Memory) (leaf : Nat) : Memory := m.filter (fun c => c.1 / Config.leafBytes ≠ leaf)

/-! ### Spare areas -/

/-- A leaf's spare area. -/
def Flash.spareOf (f : Flash) (leaf : Nat) : Spare := Table.read Spare.erased f.spare leaf
def Flash.setSpare (f : Flash) (leaf : Nat) (v : Spare) : Flash :=
  { f with spare := Table.write Spare.erased f.spare leaf v }

/-! ### Operations that end as intended -/

/-- A completed program: the header, void mark unwritten, and the buffer's bytes (R87). -/
def Flash.programmed (f : Flash) (leaf : Nat) (header : List Word) (data : List Byte) : Flash :=
  { f.setSpare leaf ⟨header, 0xFFFF#16⟩ with data := Memory.writeBytes f.data (dataAddress leaf 0) data }

/-- A completed void mark programs the void-mark word to all zeros (R184). -/
def Flash.voidMarked (f : Flash) (leaf : Nat) : Flash :=
  f.setSpare leaf { f.spareOf leaf with voidWord := 0#16 }

/-- A completed erase: all ones (R184). -/
def Flash.erased (f : Flash) (leaf : Nat) : Flash :=
  { f.setSpare leaf Spare.erased with data := Memory.eraseLeaf f.data leaf }

/-- What a fetch reads: the first byte-count bytes of the data area, the byte count read from the header (R94, R184). -/
def Flash.fetched (f : Flash) (leaf : Nat) : List Byte :=
  let count := numberOf (((wordBits (f.spareOf leaf).header).drop 68).take 13)
  Memory.readBytes f.data (dataAddress leaf 0) (min count Config.leafBytes)

/-! ### Operations that fail or are cut off -/

/-- Free words for a spare area (log 10). -/
def freeSpare (draw : Nat) : Spare := ⟨(List.range 12).map (Config.freeWord draw), Config.freeWord draw 12⟩

/-- Free bytes for a whole data area (log 10). -/
def freeData (draw : Nat) : List Byte := (List.range Config.leafBytes).map (Config.freeByte draw)

/-- A free spare area where it reads as one of the classes allowed, and `otherwise` where it does not. -/
def limitedSpare (allowed : LeafClass → Bool) (free otherwise : Spare) : Spare :=
  if allowed free.classOf then free else otherwise

/-- A leaf whose spare area and data area the array leaves as it will; one free draw is spent. -/
def Flash.leaves (f : Flash) (leaf : Nat) (spare : Spare) : Flash :=
  { f.setSpare leaf spare with
    data := Memory.writeBytes f.data (dataAddress leaf 0) (freeData f.draws), draws := f.draws + 1 }

/-- A leaf whose spare area alone is left as it will. -/
def Flash.leavesSpare (f : Flash) (leaf : Nat) (spare : Spare) : Flash :=
  { f.setSpare leaf spare with draws := f.draws + 1 }

/-- A failed program: unreadable, or a valid header of the slot it was given to (R98, R92). -/
def Flash.programFailed (f : Flash) (leaf : Nat) (header : List Word) : Flash :=
  f.leaves leaf (limitedSpare (fun c => c == .unreadable) (freeSpare f.draws) ⟨header, 0xFFFF#16⟩)

/-- A program cut off by a loss of power: valid, unreadable or erased (R98). -/
def Flash.programCut (f : Flash) (leaf : Nat) (header : List Word) : Flash :=
  f.leaves leaf (limitedSpare LeafClass.blankOrUnreadable (freeSpare f.draws) ⟨header, 0xFFFF#16⟩)

/-- A void mark that failed: valid, void-marked or unreadable (R98). -/
def Flash.voidFailed (f : Flash) (leaf : Nat) : Flash :=
  f.leavesSpare leaf (limitedSpare (fun c => c == .unreadable) (freeSpare f.draws)
    { f.spareOf leaf with voidWord := Config.freeWord f.draws 13 })

/-- A void mark cut off by a loss of power: header as programmed, void mark partly programmed (R98). -/
def Flash.voidCut (f : Flash) (leaf : Nat) : Flash :=
  f.leavesSpare leaf { f.spareOf leaf with voidWord := Config.freeWord f.draws 13 }

/-- A failed erase: unreadable, erased, void-marked, or as the valid header it carried (R98). -/
def Flash.eraseFailed (f : Flash) (leaf : Nat) : Flash :=
  f.leaves leaf (limitedSpare LeafClass.blankOrUnreadable (freeSpare f.draws)
    { f.spareOf leaf with voidWord := Config.freeWord f.draws 13 })

/-- An erase cut off by a loss of power: erased, unreadable, or as it was before (R98). -/
def Flash.eraseCut (f : Flash) (leaf : Nat) : Flash :=
  f.leaves leaf (limitedSpare LeafClass.blankOrUnreadable (freeSpare f.draws) (f.spareOf leaf))

end Sys2Proof.Machine
end

