-- ==== Sys2Proof/Machine/Banks.lean ====
section
/-! DEFINITION. The events of the banks: PROGRAM_COMPLETE, PROGRAM_FAIL, FETCH_COMPLETE, VOID_MARK_END, ERASE_END
(05_the_leaf_store.md, 04_staging_buffers.md). Each event's own effects are made, and then the idle banks choose (R88).
An event of an operation that is not under way on the bank is a fault (log 5). -/

namespace Sys2Proof.Machine

/-- A bank event settles the body and the flash, and idle banks choose (R88). -/
def State.bankEvent (s : State) (body : Body) (flash : Flash) : State :=
  { s.quiet with body := body, flash := flash }.arbitrate

/-! ### Programs -/

/-- A program completes: the leaf PROGRAMMED, its buffer FREE out of its queue and the ready list (R72, R91). -/
def Body.programDone (b : Body) (k i l : Nat) : Body :=
  let b1 := b.setOp k .none
  (b1.setLeaf l { b1.leaf l with state := .programmed, buffer := none }).releaseBuffer i

/-- PROGRAM_COMPLETE (R91). -/
def execProgramComplete (bank : BitVec 2) (s : State) : Outcome :=
  match (s.body.bank bank.toNat).op with
  | .program i l header =>
    .next (s.bankEvent (s.body.programDone bank.toNat i l) (s.flash.programmed l header (s.body.buffer i).data))
  | .none | .fetch _ | .voidMark _ | .erase _ => .fault .notUnderWay

/-- The slot a failed program leaves becomes unplaced; a purge whose cursor stands on it releases it at once (R18, R92,
R151). -/
def Body.unplace (b : Body) (p : Place) : Body :=
  let b1 := b.updDoc p.slot (fun d => d.updLeafSlot p.page p.index LeafSlot.lost)
  if ((b1.doc p.slot).map (fun d => d.state)) = some .purging then b1.advancePurge p.slot else b1

/-- A program fails: the leaf RETIRED, the buffer READY again without a leaf, its slot unplaced (R73, R92). -/
def Body.programLost (b : Body) (k i l : Nat) : Body :=
  let b1 := (b.setOp k .none).setLeaf l ⟨.retired, none, none⟩
  let b2 := b1.setBuffer i { b1.buffer i with state := .ready, leaf := none }
  match (b2.buffer i).place with
  | some p => b2.unplace p
  | none => b2

/-- PROGRAM_FAIL (R92). -/
def execProgramFail (bank : BitVec 2) (s : State) : Outcome :=
  match (s.body.bank bank.toNat).op with
  | .program i l header =>
    .next (s.bankEvent (s.body.programLost bank.toNat i l) (s.flash.programFailed l header))
  | .none | .fetch _ | .voidMark _ | .erase _ => .fault .notUnderWay

/-! ### Fetches -/

/-- A fetch completes: into a WINDOW with the leaf's data, or into nothing when marked for discard (R76, R94). -/
def Body.fetchDone (b : Body) (f : Flash) (k i : Nat) : Body :=
  let b1 := b.setOp k .none
  let buf := b1.buffer i
  if buf.discard then b1.releaseBuffer i
  else b1.setBuffer i { buf with state := .window, data := (buf.leaf.map f.fetched).getD [] }

/-- FETCH_COMPLETE (R76). -/
def execFetchComplete (bank : BitVec 2) (s : State) : Outcome :=
  match (s.body.bank bank.toNat).op with
  | .fetch i => .next (s.bankEvent (s.body.fetchDone s.flash bank.toNat i) s.flash)
  | .none | .program _ _ _ | .voidMark _ | .erase _ => .fault .notUnderWay

/-! ### Void marks -/

/-- VOID_MARK_END: completed or failed, the leaf is VOID at the back of its bank's erase queue; only the flash differs
(R96). -/
def execVoidMarkEnd (bank : BitVec 2) (completed : Bool) (s : State) : Outcome :=
  match (s.body.bank bank.toNat).op with
  | .voidMark l =>
    .next (s.bankEvent ((s.body.setOp bank.toNat .none).voidLeaf l)
      (if completed then s.flash.voidMarked l else s.flash.voidFailed l))
  | .none | .program _ _ _ | .fetch _ | .erase _ => .fault .notUnderWay

/-! ### Erases -/

/-- An erase completes: the leaf BLANK at the back of its bank's blank list (R97). -/
def Body.eraseDone (b : Body) (k l : Nat) : Body := ((b.setOp k .none).setLeaf l Leaf.blank).pushBlank l

/-- An erase fails: the leaf RETIRED, on no list (R97). -/
def Body.eraseLost (b : Body) (k l : Nat) : Body := (b.setOp k .none).setLeaf l ⟨.retired, none, none⟩

/-- ERASE_END (R97). -/
def execEraseEnd (bank : BitVec 2) (completed : Bool) (s : State) : Outcome :=
  match (s.body.bank bank.toNat).op with
  | .erase l =>
    .next
      (if completed then s.bankEvent (s.body.eraseDone bank.toNat l) (s.flash.erased l)
       else s.bankEvent (s.body.eraseLost bank.toNat l) (s.flash.eraseFailed l))
  | .none | .program _ _ _ | .fetch _ | .voidMark _ => .fault .notUnderWay

end Sys2Proof.Machine
end

