-- ==== Sys2Proof/Machine/Clock.lean ====
section
/-! DEFINITION. The timebase: TICK, SET_CLOCK, BROADCAST_SET_CLOCK (09_the_receipt_clock.md). -/

namespace Sys2Proof.Machine

/-! ### TICK -/

/-- One tick: the run counter rises; the clock stands still while untrusted or under hold-back, and rises otherwise
(R154). -/
def Timebase.tick (t : Timebase) : Timebase :=
  let run := saturate (t.run + 1)
  if !t.trusted then { t with run := run }
  else if 0 < t.holdBack then { t with run := run, holdBack := t.holdBack - 1 }
  else { t with run := run, clock := saturate (t.clock + 1) }

/-- Ticks count except while REBUILDING, and, with main power off, except when the backup supply has failed (R154).
So ticks count with power off after a loss during REBUILDING too, by R154 and R162; R159 can be read as letting none count
before REBUILDING is left for RUNNING or POWER_FAIL, and this reading is the model's choice (log 36). -/
def Recovery.counts (r : Recovery) : Bool :=
  match r.part with
  | .running | .powerFail | .starting => true
  | .rebuilding => false
  | .off => r.backup

/-- A tick that counts, as one change: the counts, and, where the clock rises, the purges that are due at the risen value
(R149, R154). A tick in which the clock stands still makes no document due. -/
def State.tick (s : State) : State :=
  let s1 := { s with time := s.time.tick }
  if s.time.clock < s1.time.clock then
    s1.withBody (fun b => b.startDuePurges s.recovery.part s.tables.floor s1.time.clock)
  else s1

/-- TICK (R149, R154). -/
def execTick (s : State) : Outcome := if s.recovery.counts then .next s.quiet.tick else .next s.quiet

/-! ### SET CLOCK -/

/-- The clock after a SET CLOCK of value `v`: an untrusted clock is set and trusted; a trusted one steps forward, or
keeps its value and holds back for a capped while (R156, R157). -/
def Timebase.set (t : Timebase) (v : Nat) : Timebase :=
  if !t.trusted then { t with clock := v, trusted := true, holdBack := 0 }
  else if t.clock ≤ v then { t with clock := v, holdBack := 0 }
  else { t with holdBack := min (t.clock - v) Config.holdBackCap }

/-- A SET CLOCK taken, as one change: the clock, the resolution of pending retain-untils when it makes the clock
trusted, and the purges that are due then; a backward setting makes no document due (R146, R149, R156, R157). -/
def State.setClock (s : State) (v : Nat) : State :=
  let s1 := { s with time := s.time.set v }
  if !s.time.trusted then
    s1.withBody (fun b => (b.retainResolve s.tables v).startDuePurges s.recovery.part s.tables.floor v)
  else if s.time.clock ≤ v then
    s1.withBody (fun b => b.startDuePurges s.recovery.part s.tables.floor v)
  else s1

/-- An addressed SET CLOCK (R156, R157). -/
def execSetClock (h : Head) (value : BitVec 48) (s : State) : Outcome :=
  request s h .setClock (fun _ => true)
    (fun _ s1 =>
      let s2 := s1.setClock value.toNat
      ⟨s2, .taken (.setClock value.toNat s2.time.clock s2.time.trusted s2.time.holdBack), .none⟩)

/-- A SET CLOCK at the broadcast target: taken from the records node while RUNNING, and never answered (R172). -/
def execBroadcastSetClock (sender : BitVec 6) (value : BitVec 48) (s : State) : Outcome :=
  if s.txn.held then .fault .busHeld
  else if s.hears && decide (s.tables.role sender.toNat = .records) && decide (s.recovery.part = .running) then
    .next (s.nextPacket.setClock value.toNat)
  else .next s.nextPacket

end Sys2Proof.Machine
end

