-- ==== Sys2Proof/Machine/Delivery.lean ====
section
/-! DEFINITION. LIST, DESCRIBE and READ (07_delivery_to_departments.md). -/

namespace Sys2Proof.Machine

/-! ### LIST -/

/-- Inserts a document into a list kept in ascending serial order. -/
def insertSerial (e : Nat × Document) : List (Nat × Document) → List (Nat × Document)
  | [] => [e]
  | f :: t => if e.2.serial ≤ f.2.serial then e :: f :: t else f :: insertSerial e t

/-- Documents in ascending serial order. -/
def bySerial (l : List (Nat × Document)) : List (Nat × Document) := l.foldr insertSerial []

/-- The documents a LIST reports from: an obligation of the department, a serial above the after-serial, in ascending
serial order (R128). -/
def Body.qualifying (b : Body) (dept after : Nat) : List (Nat × Document) :=
  bySerial (b.documents.filter (fun e => e.2.obliges dept && after < e.2.serial))

/-- The entries an answer carries at most (R128). -/
def listLimit : Nat := 8

/-- One LIST entry (R129). -/
def listEntry (b : Body) (dept : Nat) (e : Nat × Document) : ListEntry :=
  let o := e.2.obligation dept
  { slot := e.1, generation := (b.slot e.1).generation, serial := e.2.serial,
    kind := (o.map (fun o => o.kind)).getD .copy, obState := (o.map (fun o => o.state)).getD .pending,
    docState := e.2.state, receiving := e.2.state == .receiving, pages := e.2.pages.length, receipt := e.2.receipt }

/-- The department a LIST is about: the sender's own, or the one the records node names (R127). -/
def listDepartment (role : Role) (department : BitVec 5) : Nat :=
  match role with
  | .department d => d
  | .none | .line _ | .records => department.toNat

/-- A LIST from a department node with after-serial 0 clears the department's attention (R39, R127). -/
def clearsAttention (role : Role) (after : Nat) : Option Nat :=
  match role with
  | .department d => if after = 0 then some d else none
  | .none | .line _ | .records => none

/-- LIST (R127, R128, R129). -/
def execList (h : Head) (afterSerial : BitVec 32) (department : BitVec 5) (s : State) : Outcome :=
  request s h .list
    (fun role => match role with
      | .department _ => true
      | .none | .line _ | .records => departmentInRange department)
    (fun role s1 =>
      let found := s1.body.qualifying (listDepartment role department) afterSerial.toNat
      let entries := (found.take listLimit).map (listEntry s1.body (listDepartment role department))
      let s2 := match clearsAttention role afterSerial.toNat with
        | some d => s1.withBody (fun b => b.setAttention d false)
        | none => s1
      ⟨s2, .taken (.list entries.length (listLimit < found.length)),
        if entries = [] then .none else .entries entries⟩)

/-! ### DESCRIBE -/

/-- The page summaries from a first page on: at most 12 (R132). -/
def summaries (d : Document) (first : Nat) : List PageSummary :=
  (((d.pages.zipIdx.drop (first - 1)).take 12)).map
    (fun p => ⟨p.2 + 1, p.1.state, p.1.density, p.1.width, p.1.coding, p.1.byteLength, p.1.counts⟩)

/-- What a DESCRIBE answer reports of a document (R131, R132). -/
def describeDocument (run slot generation : Nat) (d : Document) (first : Nat) : Description :=
  { slot := slot, generation := generation, serial := d.serial, state := d.state, ending := d.ending,
    session := d.session, extension := d.extension, caller := d.caller, openTime := d.openTime, receipt := d.receipt,
    retainUntil := d.retainUntil, run := run, pageCount := d.pages.length, leafCount := d.leafCount,
    retained := d.retained, holds := d.holds,
    obligations := d.obligations.map
      (fun o => ⟨o.department, o.kind, o.state, o.escalated, o.deadline, o.charge⟩),
    pages := summaries d first }

/-- DESCRIBE (R130, R131, R132). -/
def execDescribe (h : Head) (slot : BitVec 13) (generation : BitVec 8) (firstPage : BitVec 10) (s : State) : Outcome :=
  request s h .describe (fun _ => slotInRange slot && pageInRange firstPage)
    (fun role s1 => onDocument s1 slot generation
      (fun d => match mayRead role d with
        | some e => Taken.turnedAway s1 (.denied e)
        | none => ⟨s1, .taken .plain,
            .description (describeDocument s1.time.run slot.toNat generation.toNat d firstPage.toNat)⟩))

/-! ### READ -/

/-- Where a READ's bytes are (R135). -/
inductive Source where
  /-- A staging buffer that stands behind the slot (R136). -/
  | live (buffer : Nat)
  /-- A window (R137). -/
  | hit (buffer : Nat)
  /-- A window of the leaf is being fetched (R138). -/
  | fetching
  /-- A PROGRAMMED leaf no window names (R138). -/
  | miss (leaf : Nat)
  deriving DecidableEq, Repr

/-- The source of a READ from a leaf slot (R135). -/
def Body.source (b : Body) (p : Place) (slot : LeafSlot) : Source :=
  match slot with
  | .placed l =>
    match (b.leaf l).buffer with
    | some i => .live i
    | none =>
      match b.windowOf l with
      | some i => if (b.buffer i).state = .window then .hit i else .fetching
      | none => .miss l
  | .unplaced | .released => .live ((b.waitingBuffer p).getD 0)

/-- A buffer becomes FETCHING for a leaf, at the most-recent end of the window list, its fetch at the back of the
leaf's bank's fetch queue (R75, R94). -/
def Body.fetchInto (b : Body) (i l : Nat) : Body :=
  let b1 := b.setBuffer i ⟨.fetching, some l, none, some .delivery, [], false⟩
  let b2 := { b1 with windows := b1.windows.filter (fun j => j ≠ i) ++ [i] }
  b2.setBank (leafBank l) { b2.bank (leafBank l) with fetchQueue := (b2.bank (leafBank l)).fetchQueue ++ [i] }

/-- The least recently used WINDOW buffer (R75). -/
def Body.oldestWindow (b : Body) : Option Nat := b.windows.find? (fun i => (b.buffer i).state = .window)

/-- The buffer a miss obtains: a FREE one within the limits, else the least recently used WINDOW, else none (R75). -/
def Body.windowBuffer (b : Body) : Option Nat :=
  if b.windowAllowed then b.lowestFreeBuffer else b.oldestWindow

/-- A hit moves its window to the most-recent end of the window list (R77). -/
def Body.touchWindow (b : Body) (i : Nat) : Body := { b with windows := b.windows.filter (fun j => j ≠ i) ++ [i] }

/-- A READ that is TAKEN opens the sender's department's obligation (R105, R140). -/
def Body.openObligation (b : Body) (role : Role) (n : Nat) : Body :=
  match role with
  | .department d => b.updDoc n (fun doc => doc.updObligation d (fun o => { o with state := .opened }))
  | .none | .line _ | .records => b

/-- The bytes of a READ: `n` of them from offset `o` of the buffer (R136, R137). -/
def Body.readBytes (b : Body) (i o n : Nat) : List Byte := ((b.buffer i).data.drop o).take n

/-- The number of bytes a READ transfers (R134). -/
def clamp (count o length offset : Nat) : Nat := min (min count (Config.leafBytes - o)) (length - offset)

/-- A READ of a page that holds the offset (R134 to R138, R140). -/
def readPage (role : Role) (n : Nat) (page : Nat) (pg : Page) (offset count : Nat) (s : State) : Taken :=
  let i := offset / Config.leafBytes
  let o := offset % Config.leafBytes
  let size := clamp count o pg.byteLength offset
  match s.body.source ⟨n, page, i⟩ ((pg.slots[i]?).getD .unplaced) with
  | .live buf =>
    ⟨s.withBody (fun b => b.openObligation role n), .taken (.read size), .bytes (s.body.readBytes buf o size)⟩
  | .hit buf =>
    ⟨s.withBody (fun b => (b.openObligation role n).touchWindow buf), .taken (.read size),
      .bytes (s.body.readBytes buf o size)⟩
  | .fetching => Taken.turnedAway s (.defer .fetching)
  | .miss l =>
    match s.body.windowBuffer with
    | some buf => Taken.turnedAway (s.withBody (fun b => b.fetchInto buf l)).arbitrate (.defer .fetching)
    | none => Taken.turnedAway s (.defer .windowsBusy)

/-- The checks of R133 steps 3 and 4, then the read. -/
def readDocument (role : Role) (n : Nat) (d : Document) (page offset count : Nat) (s : State) : Taken :=
  match d.page page with
  | none => Taken.turnedAway s (if d.state = .receiving then .defer .notYet else .denied .range)
  | some pg =>
    if pg.byteLength ≤ offset then
      Taken.turnedAway s (if pg.state = .openPage then .defer .notYet else .denied .range)
    else readPage role n page pg offset count s

/-- READ (R133 to R140). A count outside 1..256 is malformed, as R133 says; R180's last sentence can be read as taking the
count's whole encodable range, and following R133 is the model's choice (log 37). -/
def execRead (h : Head) (slot : BitVec 13) (generation : BitVec 8) (page : BitVec 10) (offset : BitVec 18)
    (count : BitVec 9) (s : State) : Outcome :=
  request s h .read (fun _ => slotInRange slot && pageInRange page && countInRange count)
    (fun role s1 => onDocument s1 slot generation
      (fun d => match mayRead role d with
        | some e => Taken.turnedAway s1 (.denied e)
        | none => readDocument role slot.toNat d page.toNat offset.toNat count.toNat s1))

end Sys2Proof.Machine
end

