-- ==== Sys2Proof/Machine/Duty.lean ====
section
/-! DEFINITION. Obligations, holds and retention: RELEASE, FORWARD, HOLD, UNHOLD, ESCALATION, RETENTION_DUE
(06_obligations_and_charges.md, 08_retention_holds_and_purge.md). -/

namespace Sys2Proof.Machine

/-! ### RELEASE -/

/-- ACCEPT: the obligation's charge moves to the retained charge, the obligation goes, and an emptied list makes the
document RETAINED (R111). -/
def Body.accept (b : Body) (n : Nat) (d : Document) (o : Obligation) : Body :=
  let d1 := { d.removeObligation o.department with retained := d.retained + o.charge }
  let d2 := if d1.obligations = [] then { d1 with state := .retained } else d1
  (b.setDoc n d2).discharge o.department o.charge

/-- DECLINE: the charge moves to intake's obligation, created at the end of the list where intake has none, and the
declining obligation goes; intake's attention becomes yes (R112). -/
def Body.decline (t : Tables) (run : Nat) (b : Body) (n : Nat) (d : Document) (o : Obligation) : Body :=
  let b1 :=
    if d.obliges 0 then
      ((b.setDoc n (d.updObligation 0 (fun i => { i with charge := i.charge + o.charge }))).charge 0 o.charge).callAttention 0
    else b.addObligation t run n 0 .rerouted o.charge
  (b1.updDoc n (fun e => e.removeObligation o.department)).discharge o.department o.charge

/-- The checks of R110 and the release. -/
def ownRelease (accepts : Bool) (role : Role) (n : Nat) (d : Document) (s : State) : Taken :=
  let dept := match role with | .department k => k | .none | .line _ | .records => 0
  if d.state = .receiving then Taken.turnedAway s (.denied .stillReceiving)
  else
    match d.obligation dept with
    | none => Taken.turnedAway s (.denied .notObliged)
    | some o =>
      if accepts then
        let b1 := s.body.accept n d o
        let state := ((b1.doc n).map (fun e => e.state)).getD .retained
        ⟨(s.withBody (fun _ => b1.purgeIfDue s.recovery.part s.time.clock n)).arbitrate,
          .taken (.release state (b1.account dept)), .none⟩
      else if dept = 0 then Taken.turnedAway s (.denied .intakeCannotDecline)
      else
        let b1 := s.body.decline s.tables s.time.run n d o
        ⟨s.withBody (fun _ => b1), .taken (.release d.state (b1.account dept)), .none⟩

/-- RELEASE (R110 to R113). -/
def execRelease (h : Head) (slot : BitVec 13) (generation : BitVec 8) (choice : BitVec 2) (s : State) : Outcome :=
  request s h .release (fun _ => slotInRange slot && decide (choice.toNat ≤ 1))
    (fun role s1 => onDocument s1 slot generation
      (fun d => ownRelease (choice.toNat == 0) role slot.toNat d s1))

/-! ### FORWARD -/

/-- A FORWARD that is TAKEN: a FORWARDED obligation at the end of the list; a RETAINED document gives it the whole
retained charge and returns to DISTRIBUTING (R11, R115). -/
def Body.forwardTo (t : Tables) (run : Nat) (b : Body) (n : Nat) (d : Document) (dept : Nat) : Body :=
  match d.state with
  | .receiving =>
    (b.setDoc n { d with obligations := d.obligations ++ [Obligation.fresh dept .forwarded run none 0] }).callAttention dept
  | .distributing | .purging => b.addObligation t run n dept .forwarded 0
  | .retained =>
    (b.setDoc n { d with state := .distributing, retained := 0 }).addObligation t run n dept .forwarded d.retained

/-- The checks of R114 and the forward. -/
def ownForward (dept n : Nat) (d : Document) (s : State) : Taken :=
  if d.state = .purging then Taken.turnedAway s (.denied .purging)
  else if !(s.tables.dept dept).enabled then Taken.turnedAway s (.denied .departmentDisabled)
  else if d.obliges dept then Taken.turnedAway s (.denied .alreadyObliged)
  else
    let charge := if d.state = .retained then d.retained else 0
    let after := if d.state = .receiving then DocState.receiving else .distributing
    ⟨s.withBody (fun b => b.forwardTo s.tables s.time.run n d dept), .taken (.forward charge after), .none⟩

/-- FORWARD (R114, R115). -/
def execForward (h : Head) (slot : BitVec 13) (generation : BitVec 8) (department : BitVec 5) (s : State) : Outcome :=
  request s h .forward (fun _ => slotInRange slot && departmentInRange department)
    (fun _ s1 => onDocument s1 slot generation (fun d => ownForward department.toNat slot.toNat d s1))

/-! ### HOLD and UNHOLD -/

/-- The checks of R147 and the hold. -/
def ownHold (tag n : Nat) (d : Document) (s : State) : Taken :=
  if d.state = .purging then Taken.turnedAway s (.denied .purging)
  else if tag ∈ d.holds then ⟨s, .taken (.hold d.holds.length), .none⟩
  else if Config.holdLimit ≤ d.holds.length then Taken.turnedAway s (.denied .holdFull)
  else
    ⟨s.withBody (fun b => b.setDoc n { d with holds := insertRising tag d.holds }),
      .taken (.hold (d.holds.length + 1)), .none⟩

/-- HOLD (R147). -/
def execHold (h : Head) (slot : BitVec 13) (generation : BitVec 8) (tag : BitVec 16) (s : State) : Outcome :=
  request s h .hold (fun _ => slotInRange slot && decide (tag.toNat ≠ 0))
    (fun _ s1 => onDocument s1 slot generation (fun d => ownHold tag.toNat slot.toNat d s1))

/-- The checks of R148 and the removal of the tag; the purge starts in the same change when it is due. -/
def ownUnhold (tag n : Nat) (d : Document) (s : State) : Taken :=
  if d.state = .purging then Taken.turnedAway s (.denied .purging)
  else if tag ∉ d.holds then Taken.turnedAway s (.denied .holdAbsent)
  else
    let d1 := { d with holds := d.holds.filter (fun t => t ≠ tag) }
    let starts := s.recovery.part.works && d1.due s.time.clock
    ⟨(s.withBody (fun b => (b.setDoc n d1).purgeIfDue s.recovery.part s.time.clock n)).arbitrate,
      .taken (.unhold d1.holds.length (if starts then .purging else d.state)), .none⟩

/-- UNHOLD (R148). -/
def execUnhold (h : Head) (slot : BitVec 13) (generation : BitVec 8) (tag : BitVec 16) (s : State) : Outcome :=
  request s h .unhold (fun _ => slotInRange slot && decide (tag.toNat ≠ 0))
    (fun _ s1 => onDocument s1 slot generation (fun d => ownUnhold tag.toNat slot.toNat d s1))

/-! ### ESCALATION -/

/-- An escalation fires: the obligation is marked and its deadline goes, and intake gains an ESCALATED obligation where
it has none (R117). -/
def Body.escalate (t : Tables) (run : Nat) (b : Body) (n dept : Nat) : Body :=
  let b1 := b.updDoc n (fun d => d.updObligation dept (fun o => { o with escalated := true, deadline := none }))
  match b1.doc n with
  | some d => if d.obliges 0 then b1 else b1.addObligation t run n 0 .escalated 0
  | none => b1

/-- The run counter has reached an obligation's escalation deadline. -/
def Obligation.overdue (o : Obligation) (run : Nat) : Bool :=
  match o.deadline with
  | some t => t ≤ run
  | none => false

/-- A department's obligation on a document is due to escalate (R117, R118). -/
def State.escalationDue (s : State) (n dept : Nat) : Bool :=
  s.recovery.part.works &&
    match (s.body.doc n).bind (fun d => d.obligation dept) with
    | some o => o.overdue s.time.run
    | none => false

/-- An escalation (R117). -/
def execEscalation (slot : BitVec 12) (department : BitVec 4) (s : State) : Outcome :=
  if s.escalationDue slot.toNat department.toNat then
    .next (s.quiet.withBody (fun b => b.escalate s.tables s.time.run slot.toNat department.toNat))
  else .fault .notDue

/-- The escalations due when the part becomes RUNNING, each by itself (R118). -/
def Body.escalateDue (t : Tables) (run : Nat) (b : Body) : Body :=
  (b.documents.flatMap (fun e => (e.2.obligations.filter (fun o => o.overdue run)).map (fun o => (e.1, o.department)))).foldl
    (fun acc p => acc.escalate t run p.1 p.2) b

/-! ### RETENTION_DUE -/

/-- A document is due for purge and the part state lets purges start (R149). -/
def State.retentionDue (s : State) (n : Nat) : Bool :=
  s.recovery.part.works && ((s.body.doc n).map (fun d => d.due s.time.clock)).getD false

/-- The purge of a document has started, and the part state lets purges start. -/
def State.purgeStarted (s : State) (n : Nat) : Bool :=
  s.recovery.part.works && ((s.body.doc n).map (fun d => d.state == .purging)).getD false

/-- The receipt clock reaches a retain-until: the purge starts (R149, R150). Where the tick or the SET CLOCK that brought
the clock there has started it in its own change and it goes on, nothing more happens. Where that change has finished the
purge too, the slot is free, no deadline is left, and the event stops as one that is not due: the model's choice (log 4). -/
def execRetentionDue (slot : BitVec 12) (s : State) : Outcome :=
  if s.retentionDue slot.toNat then .next (s.quiet.withBody (fun b => b.startPurge slot.toNat)).arbitrate
  else if s.purgeStarted slot.toNat then .next s.quiet
  else .fault .notDue

end Sys2Proof.Machine
end

