-- ==== Sys2Proof/Machine/Power.lean ====
section
/-! DEFINITION. Pins and supplies: BUS_RESET, BUS_RESET_WITHDRAWN, POWER_FAIL_WARNING, POWER_FAIL_WITHDRAWN,
MAIN_POWER_LOSS, MAIN_POWER_RETURN, BACKUP_SUPPLY_FAILURE (10_power_failure_and_recovery.md, R178, R179). -/

namespace Sys2Proof.Machine

/-! ### Entering RUNNING -/

/-- What waits for the part to become RUNNING, or POWER_FAIL directly from a start: due escalations fire, idle banks
with work choose, due purges start; whether the idle banks choose before or after the first purge starts is a free
choice (R161, R118, R149, log 9). -/
def State.resume (s : State) : State :=
  let s1 := s.withBody (fun b => b.escalateDue s.tables s.time.run)
  let starts := fun b : Body => b.startDuePurges s.recovery.part s.tables.floor s.time.clock
  if s1.body.dueSlots s.time.clock = [] then s1.arbitrate
  else
    let s2 := s1.withBody (fun b => { b with draws := b.draws + 1 })
    if Config.freeChoice s1.body.draws % 2 = 0 then s2.arbitrate.withBody starts else (s2.withBody starts).arbitrate

/-- The part state a start leaves for, by the PFW input (R161). -/
def Recovery.afterStart (r : Recovery) : PartState := if r.pfw then .powerFail else .running

/-! ### The bus reset input -/

/-- An APPEND whose data block a bus reset cuts off is settled as an early end (R62, R178). R178 says so of a block that
had begun; one taken whose block had not begun is settled in the same way, as an early end of no bytes: the model's choice
(log 34). -/
def Body.settleCut (b : Body) (txn : Transaction) (words : List Word) : Body :=
  match txn with
  | .appending a => b.settleAppend a (arrived a.count words)
  | .none | .discarding _ | .sending _ => b

/-- What of the part's own answer and data blocks had gone when they were ended before their last word (R176, R178). -/
def Sent.cutShort (m : Sent) (gone : Nat) : Option Sent :=
  if gone < m.length then some { m with cut := some gone } else none

/-- The transaction in progress ends: what the part was sending is not sent, or not sent in full, and how much of it had
gone is a free value; an APPEND's answer is not sent (R176, R178, R179, log 31). -/
def State.endTransaction (s : State) : State :=
  match s.txn with
  | .sending m =>
    { s with txn := .none, sent := m.cutShort (Config.freeWordsGone s.cuts), cuts := s.cuts + 1 }
  | .none | .appending _ | .discarding _ => { s with txn := .none, sent := none }

/-- A window at a bus reset: a WINDOW buffer is freed, a FETCHING one marked for discard (R79). -/
def Body.resetWindow (b : Body) (i : Nat) : Body :=
  if (b.buffer i).state = .window then b.releaseBuffer i else b.setBuffer i { b.buffer i with discard := true }

/-- Every owner's own reset, while RUNNING or in POWER_FAIL: the sessions closed in ascending number, the windows
released, attention set for every department that then holds an obligation (R39, R62, R79, R178). -/
def Body.busReset (t : Tables) (tb : Timebase) (b : Body) : Body :=
  let b1 := b.closeSessions t tb (List.range Config.sessions) .busReset
  (b1.windows.foldl Body.resetWindow b1).callObliged

/-- BUS_RESET: its effects once, at its start; with main power off only the level is kept; during a start only the
transaction ends (R170, R178, log 23). -/
def execBusReset (words : List Word) (s : State) : Outcome :=
  let held := { s.endTransaction with resetHeld := true }
  if s.resetHeld then .next s.quiet
  else
    match s.recovery.part with
    | .off => .next { s.quiet with resetHeld := true }
    | .starting | .rebuilding => .next held
    | .running | .powerFail =>
      .next (held.withBody (fun b => (b.settleCut s.txn words).busReset s.tables s.time)).arbitrate

/-- BUS_RESET_WITHDRAWN: the next request packet begins a new transaction (R178). -/
def execBusResetWithdrawn (s : State) : Outcome := .next { s.quiet with resetHeld := false }

/-! ### The power-fail warning -/

/-- POWER_FAIL_WARNING: RUNNING becomes POWER_FAIL, and nothing is undone; elsewhere only the input's level changes
(R161, R163). -/
def execPowerFailWarning (s : State) : Outcome :=
  .next { s.quiet with recovery :=
    { s.recovery with pfw := true, part := if s.recovery.part = .running then .powerFail else s.recovery.part } }

/-- POWER_FAIL_WITHDRAWN: POWER_FAIL becomes RUNNING, with what waits for it; elsewhere only the input's level changes
(R161, R163). -/
def execPowerFailWithdrawn (s : State) : Outcome :=
  let s1 := { s.quiet with recovery := { s.recovery with pfw := false } }
  if s.recovery.part = .powerFail then
    .next { s1 with recovery := { s1.recovery with part := .running } }.resume
  else .next s1

/-! ### Loss of main power -/

/-- A flash operation cut off by a loss of power (R98, R163). -/
def Flash.cutOff (f : Flash) : BankOp → Flash
  | .program _ l header => f.programCut l header
  | .voidMark l => f.voidCut l
  | .erase l => f.eraseCut l
  | .none | .fetch _ => f

/-- A bank at a loss of main power: its fetch queue is lost and its operation cut off (R163). -/
def Bank.cutOff (k : Bank) : Bank := { k with fetchQueue := [], op := .none }

/-- The ordinary memory is lost: the staging pool, the windows, the fetch queues and the staging queues (R66, R163,
log 12). -/
def Body.loseVolatile (b : Body) : Body :=
  let b1 := { b with buffers := [], ready := [], windows := [] }
  let b2 := (List.range Config.banks).foldl (fun acc k => acc.setBank k (acc.bank k).cutOff) b1
  (List.range Config.sessions).foldl (fun acc k => acc.setSession k { acc.session k with queue := [] }) b2

/-- MAIN_POWER_LOSS: the operations under way are cut off in the array, the ordinary memory is lost, the transaction in
flight ends, with what the part was sending (R176, R179); a change cut off leaves the mark withdrawn (R161, R162, R163,
log 20). -/
def execMainPowerLoss (cutsChange : Bool) (s : State) : Outcome :=
  if s.recovery.part = .off then .next s.quiet
  else
    .next { s.endTransaction with
      body := s.body.loseVolatile,
      flash := (List.range Config.banks).foldl (fun f k => f.cutOff (s.body.bank k).op) s.flash,
      recovery := { s.recovery with part := .off, mark := s.recovery.mark && !cutsChange } }

/-! ### Return of main power -/

/-- The straps as read at a warm start: where they name another records node, it leaves its department's list and
becomes RECORDS, and the old one becomes NONE (R25, R28). -/
def Tables.strap (t : Tables) (hub recordsNode : Nat) : Tables :=
  if recordsNode = t.recordsNode then { t with hub := hub }
  else
    let t1 := t.leaveDepartment recordsNode
    let nodes := Table.write .none (Table.write .none t1.nodes t.recordsNode .none) recordsNode .records
    { t1 with nodes := nodes, hub := hub, recordsNode := recordsNode }

/-- The backed-up memory at the start of a cold start (R167); the MODEL's counter of free choices goes on. -/
def Body.coldStart (b : Body) : Body := { Body.cold with draws := b.draws }

/-- A warm start begins: straps read, every session IDLE, the mark withdrawn (R161, R162, R164, log 12, 15). -/
def State.warmBegin (s : State) (hub recordsNode : Nat) : State :=
  { s with
    tables := s.tables.strap hub recordsNode,
    body := { s.body with sessions := [] },
    recovery := { s.recovery with part := .starting, mark := false, lastStart := .warm } }

/-- A cold start begins: the backed-up memory at its cold-start values, the counts 0, the scan at leaf 0 (R161, R162,
R167, R170). -/
def State.coldBegin (s : State) (hub recordsNode : Nat) : State :=
  { s with
    tables := Tables.cold hub recordsNode,
    body := s.body.coldStart,
    time := Timebase.cold,
    recovery := { part := .rebuilding, mark := false, backup := true, pfw := s.recovery.pfw, lastStart := .cold,
                  scanned := 0, warmClosed := 0, warmDiscarded := 0, warmRemoved := 0, coldRebuilt := 0,
                  coldDropped := 0 } }

/-- MAIN_POWER_RETURN: the straps are read, and the consistency mark decides between a warm and a cold start
(R161, R162, R179). -/
def execMainPowerReturn (hub : BitVec 2) (recordsNode : BitVec 5) (s : State) : Outcome :=
  if s.recovery.part ≠ .off then .fault .powerPresent
  else if s.recovery.mark then .next (s.quiet.warmBegin hub.toNat recordsNode.toNat)
  else .next (s.quiet.coldBegin hub.toNat recordsNode.toNat)

/-! ### The backup supply -/

/-- BACKUP_SUPPLY_FAILURE: with main power off, the backed-up memory is lost, the mark and the record of the last start
with its counts included (R162, log 13). -/
def execBackupSupplyFailure (s : State) : Outcome :=
  if s.recovery.part = .off then
    .next { s.quiet with
      body := s.body.coldStart,
      tables := Tables.cold s.tables.hub s.tables.recordsNode,
      time := Timebase.cold,
      recovery := { s.recovery with mark := false, backup := false, lastStart := .cold, scanned := 0, warmClosed := 0,
                                    warmDiscarded := 0, warmRemoved := 0, coldRebuilt := 0, coldDropped := 0 } }
  else .fault .backupUnused

end Sys2Proof.Machine
end

