-- ==== Sys2Proof/Machine/Restart.lean ====
section
/-! DEFINITION. The work of the two starts: WARM_START_COMPLETE (R164 to R166), HEADER_SCAN_LEAF_READ and
REBUILD_COMPLETE (R167 to R169). -/

namespace Sys2Proof.Machine

/-! ### Warm start: leaf states (R164, R100) -/

/-- The leaves whose state in the table meets `p`, in ascending leaf number. -/
def Body.leavesWhere (b : Body) (p : LeafState → Bool) : List Nat :=
  (b.leaves.filter (fun e => p e.2.state)).map (fun e => e.1)

/-- A leaf never written returns to BLANK at the back of its bank's blank list. -/
def Body.blankLeaf (b : Body) (l : Nat) : Body := (b.setLeaf l Leaf.blank).pushBlank l

/-- An interrupted erase goes to the front of its bank's erase queue. -/
def Body.voidFront (b : Body) (l : Nat) : Body :=
  let b1 := b.setLeaf l ⟨.void, none, none⟩
  b1.setBank (leafBank l) { b1.bank (leafBank l) with eraseQueue := l :: (b1.bank (leafBank l)).eraseQueue }

/-- The reconciliation of leaf states with a pool that is all FREE (R100). -/
def Body.reconcileLeaves (b : Body) : Body :=
  let b1 := (b.leavesWhere (fun st => st == .filling || st == .ready)).foldl Body.blankLeaf b
  let b2 := (b.leavesWhere (fun st => st == .programming)).foldl Body.voidLeaf b1
  let b3 := (b.leavesWhere (fun st => st == .voiding)).foldl Body.voidLeaf b2
  (b.leavesWhere (fun st => st == .erasing)).reverse.foldl Body.voidFront b3

/-! ### Warm start: truncation (R165) -/

/-- A safe slot: placed on a PROGRAMMED leaf, or released (R165). -/
def Body.safeSlot (b : Body) : LeafSlot → Bool
  | .placed l => (b.leaf l).state == .programmed
  | .released => true
  | .unplaced => false

/-- A page keeps its slots up to the first that is not safe; one that lost a slot is CUT without counts (R165). -/
def Page.truncate (b : Body) (p : Page) : Page :=
  let kept := p.slots.takeWhile b.safeSlot
  if kept.length = p.slots.length then p
  else { p with state := .cut, counts := none, byteLength := Config.leafBytes * kept.length, slots := kept }

/-- The pages up to the first that keeps no slot (R165). -/
def truncatePages (b : Body) (pages : List Page) : List Page :=
  (pages.map (Page.truncate b)).takeWhile (fun p => !p.slots.isEmpty)

/-- The slots of a list of pages. -/
def slotsOf (pages : List Page) : List LeafSlot := pages.flatMap (fun p => p.slots)

/-- The slots that truncation removes from each page: those from the first unsafe one on, and every slot of the pages
that go (R165). -/
def removedSlots (b : Body) (pages : List Page) : List LeafSlot :=
  let kept := (truncatePages b pages).length
  (pages.take kept).flatMap (fun p => p.slots.dropWhile b.safeSlot) ++ slotsOf (pages.drop kept)

/-- The leaf of a removed slot that was safely in flash. -/
def Body.droppedLeaf (b : Body) : LeafSlot → Option Nat
  | .placed l => if (b.leaf l).state = .programmed then some l else none
  | .unplaced | .released => none

/-! ### Warm start: the loss (R166, R120) -/

/-- Takes a loss from obligations in list order, each down to 0 (R120 step 1). -/
def deductCharges : Nat → List Obligation → List Obligation
  | _, [] => []
  | d, o :: os => { o with charge := o.charge - d } :: deductCharges (d - o.charge) os

/-- What remains of a loss after the obligations have been taken (R120 step 2). -/
def deductRest : Nat → List Obligation → Nat
  | d, [] => d
  | d, o :: os => deductRest (d - o.charge) os

/-- A document truncated, with its loss deducted: from the retained charge alone where it is PURGING (R165, R166). -/
def Document.reconcile (b : Body) (d : Document) : Document :=
  let removed := removedSlots b d.pages
  let lost := removed.countP (fun s => s != .released)
  if d.state = .purging then { d with pages := truncatePages b d.pages, retained := d.retained - lost }
  else
    { d with pages := truncatePages b d.pages, obligations := deductCharges lost d.obligations,
             retained := d.retained - deductRest lost d.obligations }

/-- The document in a slot is reconciled, with the accounts of its departments. -/
def Body.reconcileDocument (b : Body) (n : Nat) : Body :=
  match b.doc n with
  | some d => (b.setDoc n (d.reconcile b)).moveAccounts d.obligations (d.reconcile b).obligations
  | none => b

/-- The leaves that truncation drops, in ascending leaf number (R165). -/
def Body.droppedLeaves (b : Body) : List Nat :=
  (b.documents.flatMap (fun e => (removedSlots b e.2.pages).filterMap b.droppedLeaf)).foldl
    (fun acc l => insertRising l acc) []

/-- Truncation and the deduction of the loss, over the whole catalog; the dropped leaves go VOID (R165, R166). -/
def Body.truncate (b : Body) : Body :=
  b.droppedLeaves.foldl Body.voidLeaf ((b.documents.map (fun e => e.1)).foldl Body.reconcileDocument b)

/-- The number of leaf slots that truncation removes (R170). -/
def Body.removedCount (b : Body) : Nat := (b.documents.map (fun e => (removedSlots b e.2.pages).length)).sum

/-! ### Warm start: closes and discards (R166) -/

/-- The slots of the documents that meet `p`, ascending. -/
def Body.slotsWhere (b : Body) (p : Document → Bool) : List Nat :=
  (b.documents.filter (fun e => p e.2)).map (fun e => e.1)

/-- Steps 1 to 3 of R166: RECEIVING documents are closed with ending POWER_LOSS, documents without a leaf discarded,
and PURGING documents whose cursor has passed their last slot freed. -/
def Body.closeReconciled (t : Tables) (tb : Timebase) (b : Body) : Body :=
  let b1 := (b.slotsWhere (fun d => d.state == .receiving)).foldl (fun acc n => acc.closeDocument t tb n .powerLoss) b
  let b2 := (b1.slotsWhere (fun d => d.leafCount == 0)).foldl Body.freeSlot b1
  (b2.slotsWhere (fun d => d.state == .purging && d.cursor.isNone)).foldl Body.freeSlot b2

/-- The volatile state at a warm start, and the leaf states (R164). -/
def Body.warmLeaves (b : Body) : Body := { b.loseVolatile with sessions := [] }.reconcileLeaves

/-- Reconciliation as a whole, with its counts (R164, R165, R166, R170). -/
def State.reconcile (s : State) : State :=
  let b1 := s.body.warmLeaves
  let b2 := b1.truncate
  { s with
    body := b2.closeReconciled s.tables s.time,
    recovery := { s.recovery with
      part := s.recovery.afterStart, mark := true,
      warmClosed := (b2.slotsWhere (fun d => d.state == .receiving)).length,
      warmDiscarded := (b2.slotsWhere (fun d => d.leafCount == 0)).length,
      warmRemoved := b1.removedCount } }

/-- WARM_START_COMPLETE (R164 to R166). -/
def execWarmStartComplete (s : State) : Outcome :=
  if s.recovery.part = .starting then .next s.quiet.reconcile.resume else .fault .noSuchStart

/-! ### Cold start: the header scan (R167, R101) -/

/-- One leaf's spare area is read and the leaf set; a valid leaf waits for the rebuild (R101). -/
def Body.scanLeaf (f : Flash) (b : Body) (l : Nat) : Body :=
  match (f.spareOf l).classOf with
  | .erased => b.blankLeaf l
  | .voidMarked => b.voidLeaf l
  | .unreadable => b.setLeaf l ⟨.retired, none, none⟩
  | .valid _ => b

/-- HEADER_SCAN_LEAF_READ (R167, R170). -/
def execHeaderScanLeafRead (s : State) : Outcome :=
  if s.recovery.part = .rebuilding ∧ s.recovery.scanned < Config.leaves then
    .next { s.quiet with
      body := s.body.scanLeaf s.flash s.recovery.scanned,
      recovery := { s.recovery with scanned := s.recovery.scanned + 1 } }
  else .fault .noSuchStart

/-- The leaves the scan has not read yet. -/
def unscanned (scanned : Nat) : List Nat := (List.range (Config.leaves - scanned)).map (fun i => scanned + i)

/-! ### Cold start: grouping (R168) -/

/-- A valid leaf with its header. -/
abbrev Found := Nat × LeafHeader

/-- The valid leaves in ascending leaf number. -/
def Flash.valid (f : Flash) : List Found :=
  f.spare.filterMap (fun e => match e.2.classOf with
    | .valid h => some (e.1, h)
    | .erased | .voidMarked | .unreadable => none)

/-- The serials found, ascending. -/
def serialsOf (found : List Found) : List Nat := (found.map (fun e => e.2.serial)).foldl (fun acc n => insertRising n acc) []

/-- One call per serial: the latest open time, then the slot and generation of its lowest leaf (R168 step 1). -/
def oneCall (group : List Found) : List Found :=
  let latest := (group.map (fun e => e.2.openTime)).foldl max 0
  let timed := group.filter (fun e => e.2.openTime == latest)
  match timed with
  | [] => []
  | e :: _ => timed.filter (fun m => m.2.slot == e.2.slot && m.2.generation == e.2.generation)

/-- The leaf of a place: the lowest-numbered one that names it (R168 step 2). -/
def leafAt (group : List Found) (page index : Nat) : Option Found :=
  group.find? (fun e => e.2.page == page && e.2.index == index)

/-- The leaves of a page from an index on, up to a missing index or a final-leaf mark (R168 step 3). -/
def pageLeaves (group : List Found) (page : Nat) : Nat → Nat → List Found
  | 0, _ => []
  | fuel + 1, index =>
    match leafAt group page index with
    | none => []
    | some e => if e.2.final = 0 then e :: pageLeaves group page fuel (index + 1) else [e]

/-- The pages from a number on, up to one that keeps no leaf (R168 step 4). -/
def groupPages (group : List Found) : Nat → Nat → List (List Found)
  | 0, _ => []
  | fuel + 1, page =>
    match pageLeaves group page Config.pageSlots 0 with
    | [] => []
    | l => l :: groupPages group fuel (page + 1)

/-- What the rebuild keeps of one serial (R168). -/
def rebuildGroup (found : List Found) (serial : Nat) : List (List Found) :=
  groupPages (oneCall (found.filter (fun e => e.2.serial == serial))) Config.pageLimit 1

/-- A rebuilt document's serial and pages. -/
abbrev Group := Nat × List (List Found)

/-- The groups that keep a page, ascending; of more than 4,096 the highest serials (R168, R169). -/
def groupsOf (found : List Found) : List Group :=
  let groups := ((serialsOf found).map (fun n => (n, rebuildGroup found n))).filter (fun g => !g.2.isEmpty)
  groups.drop (groups.length - Config.slots)

/-! ### Cold start: the rebuilt documents (R23, R122, R153, R169) -/

/-- A rebuilt page; the first leaf's header gives density, width and coding (R23, R168, log 17). -/
def rebuiltPage (leaves : List Found) : Page :=
  let first := leaves.head?.map (fun e => e.2)
  { state := if (leaves.getLast?.map (fun e => e.2.final)) = some 1 then .closed else .cut,
    density := (first.map (fun h => h.density)).getD .normal, width := (first.map (fun h => h.width)).getD .narrow,
    coding := (first.map (fun h => h.coding)).getD 0, byteLength := (leaves.map (fun e => e.2.byteCount)).sum,
    counts := none, slots := leaves.map (fun e => .placed e.1) }

/-- A rebuilt document; the first leaf of page 1 gives open time and called extension (R23, R122, R153, log 17). -/
def rebuiltDocument (g : Group) : Document :=
  let first := (g.2.head?.bind List.head?).map (fun e => e.2)
  let time : Stamp := ⟨(first.map (fun h => h.openTime)).getD 0, false⟩
  { serial := g.1, state := .distributing, ending := some .rebuilt, session := none,
    extension := first.bind (fun h => h.extension), caller := none, openTime := time, receipt := some time,
    pages := g.2.map rebuiltPage,
    obligations := [Obligation.fresh 0 .rebuilt 0 none (g.2.map List.length).sum],
    retained := 0, base := .pending, departments := [0], retainUntil := .pending, holds := [] }

/-- A rebuilt document enters a slot with generation 0, its leaves PROGRAMMED with their places as owners (R169). -/
def Body.enterRebuilt (b : Body) (e : Group × Nat) : Body :=
  let b1 := b.setSlot e.2 ⟨0, some (rebuiltDocument e.1)⟩
  (e.1.2.zipIdx.flatMap (fun p => p.1.zipIdx.map (fun l => (l.1.1, Place.mk e.2 (p.2 + 1) l.2)))).foldl
    (fun acc l => acc.setLeaf l.1 ⟨.programmed, some l.2, none⟩) b1

/-- The leaves a list of groups keeps. -/
def keptLeaves (groups : List Group) : List Nat := groups.flatMap (fun g => g.2.flatMap (fun p => p.map (fun e => e.1)))

/-- The valid leaves the rebuild drops, in ascending leaf number (R168, R169). -/
def droppedFound (found : List Found) (groups : List Group) : List Nat :=
  (found.map (fun e => e.1)).filter (fun l => !(keptLeaves groups).contains l)

/-- The rebuild as a whole: the documents entered, the dropped leaves VOID, intake's account and attention, the next
serial (R169, R122, R39). -/
def Body.rebuild (b : Body) (found : List Found) : Body :=
  let groups := groupsOf found
  let b1 := (droppedFound found groups).foldl Body.voidLeaf (groups.zipIdx.foldl Body.enterRebuilt b)
  let total := (keptLeaves groups).length
  let b2 := b1.setAccount 0 total
  let b3 := if groups.isEmpty then b2 else b2.callAttention 0
  { b3 with nextSerial := (groups.getLast?.map (fun g => g.1 + 1)).getD 1 }

/-- REBUILD_COMPLETE: the rest of the scan, the rebuild, the counts of the cold start (R167 to R170, log 17). -/
def State.rebuild (s : State) : State :=
  let found := s.flash.valid
  let scanned := (unscanned s.recovery.scanned).foldl (Body.scanLeaf s.flash) s.body
  { s with
    body := scanned.rebuild found,
    recovery := { s.recovery with
      part := s.recovery.afterStart, mark := true, scanned := Config.leaves,
      coldRebuilt := (groupsOf found).length, coldDropped := (droppedFound found (groupsOf found)).length } }

/-- REBUILD_COMPLETE (R167 to R169). -/
def execRebuildComplete (s : State) : Outcome :=
  if s.recovery.part = .rebuilding then .next s.quiet.rebuild.resume else .fault .noSuchStart

end Sys2Proof.Machine
end

