-- ==== Sys2Proof/Machine/Status.lean ====
section
/-! DEFINITION. STATUS: one reading from every owner, gathered in the change in which the request is taken (R177). -/

namespace Sys2Proof.Machine

/-! ### The owners' contributions -/

/-- The recovery unit's contribution; the scan's progress only while REBUILDING (R170). -/
def readRecovery (r : Recovery) : RecoveryReading :=
  { part := r.part, lastStart := r.lastStart, scanned := if r.part = .rebuilding then some r.scanned else none,
    warmClosed := r.warmClosed, warmDiscarded := r.warmDiscarded, warmRemoved := r.warmRemoved,
    coldRebuilt := r.coldRebuilt, coldDropped := r.coldDropped }

/-- One department's part of the routing unit's contribution (R41). -/
def readDept (t : Tables) (b : Body) (d : Nat) : DeptReading :=
  { enabled := (t.dept d).enabled, copyAll := (t.dept d).copyAll, quota := (t.dept d).quota, account := b.account d,
    attention := b.attends d, nodes := (t.dept d).nodes }

/-- The routing unit's contribution; the idle timeout in seconds (R41). -/
def readRouting (t : Tables) (b : Body) : RoutingReading :=
  { recordsNode := t.recordsNode, hub := t.hub, roles := (List.range 32).map t.role,
    departments := (List.range Config.departments).map (readDept t b),
    routesInUse := (List.range Config.routes).countP (fun i => (t.route i).isSome),
    floor := t.floor, idleSeconds := t.idleTimeout / 64 }

/-- The number of documents in a state. -/
def Body.documentsIn (b : Body) (st : DocState) : Nat := b.documents.countP (fun e => e.2.state == st)

/-- The catalog's contribution (R20). -/
def readCatalog (b : Body) : CatalogReading :=
  { freeSlots := Config.slots - b.documents.length, receiving := b.documentsIn .receiving,
    distributing := b.documentsIn .distributing, retained := b.documentsIn .retained,
    purging := b.documentsIn .purging, pageRecords := b.pageRecords, nextSerial := b.nextSerial }

/-- One session's part of the session unit's contribution (R65). -/
def readSession (b : Body) (run k : Nat) : SessState × Option OpenSession :=
  let c := b.session k
  (c.state,
    if c.state = .idle then none
    else
      let n := c.doc.getD 0
      some { slot := n, generation := (b.slot n).generation, serial := ((b.doc n).map (fun d => d.serial)).getD 0,
             pages := ((b.doc n).map (fun d => d.pages.length)).getD 0, queued := c.queue.length,
             ticksLeft := c.deadline.getD 0 - run })

/-- The number of sessions in a state. -/
def Body.sessionsIn (b : Body) (st : SessState) : Nat :=
  (List.range Config.sessions).countP (fun k => (b.session k).state == st)

/-- The session unit's contribution (R65). -/
def readSessions (b : Body) (run : Nat) : SessionReading :=
  { sessions := (List.range Config.sessions).map (readSession b run), idle := b.sessionsIn .idle,
    admitted := b.sessionsIn .admitted, inPage := b.sessionsIn .inPage, stopped := b.sessionsIn .stopped }

/-- The number of buffers in a state other than FREE. -/
def Body.buffersIn (b : Body) (st : BufState) : Nat := Table.count (fun v => v.state == st) b.buffers

/-- The staging pool's contribution (R81). -/
def readStaging (b : Body) : StagingReading :=
  { byState := [b.freeBuffers, b.buffersIn .filling, b.buffersIn .ready, b.buffersIn .programming,
      b.buffersIn .fetching, b.buffersIn .window],
    orphans := Table.count (fun v => v.holder == some .orphan) b.buffers,
    orphansUnplaced := Table.count (fun v => v.holder == some .orphan && v.leaf == none) b.buffers,
    byUrgency := [1, 2, 3].map
      (fun u => b.ready.countP (fun i => (b.buffer i).state == .ready && b.urgency i == u)),
    windows := b.windows.length, discards := b.windows.countP (fun i => (b.buffer i).discard),
    windowAllowed := b.windowAllowed }

/-- The leaf states in the order of R82. -/
def leafStates : List LeafState :=
  [.blank, .filling, .ready, .programming, .programmed, .voiding, .void, .erasing, .retired]

/-- The number of leaves in a state by the leaf table. -/
def Body.leavesIn (b : Body) (st : LeafState) : Nat :=
  if st = .blank then Config.leaves - Table.count (fun v => v.state != .blank) b.leaves
  else Table.count (fun v => v.state == st) b.leaves

/-- The state a leaf shows while REBUILDING: by the table once the scan has settled it; a free value for a leaf not yet
read, and for a valid leaf, which the rebuild settles at its end (R101, R170, log 11). -/
def rebuildingLeaf (b : Body) (f : Flash) (scanned n : Nat) : LeafState :=
  let unsettled := leafStates.getD (Config.unsettledLeaf n % 9) .blank
  if n < scanned then
    match (f.spareOf n).classOf with
    | .valid _ => unsettled
    | .erased | .voidMarked | .unreadable => (b.leaf n).state
  else unsettled

/-- The leaves in each of the nine states (R102). -/
def leafCounts (b : Body) (f : Flash) (r : Recovery) : List Nat :=
  if r.part = .rebuilding then
    let shown := (List.range Config.leaves).map (rebuildingLeaf b f r.scanned)
    leafStates.map (fun st => shown.countP (fun v => v == st))
  else leafStates.map b.leavesIn

/-- One bank's part of the leaf store controller's contribution (R102). -/
def readBank (b : Body) (k : Nat) : BankReading :=
  { blank := b.blankCount k, eraseQueue := (b.bank k).eraseQueue.length, fetchQueue := (b.bank k).fetchQueue.length,
    op := (b.bank k).op.code }

/-- The leaf store controller's contribution (R102). -/
def readLeaves (b : Body) (f : Flash) (r : Recovery) : LeafReading :=
  { byState := leafCounts b f r, banks := (List.range Config.banks).map (readBank b), purges := b.purges.length,
    readyUnplaced := Table.count (fun v => v.state == .ready && v.leaf == none) b.buffers,
    allocationBank := b.allocationBank }

/-- The obligation kinds in the order of R180. -/
def obligationKinds : List ObKind :=
  [.primary, .unrouted, .overflow, .copy, .rerouted, .escalated, .forwarded, .rebuilt]

/-- Every obligation of the catalog. -/
def Body.obligations (b : Body) : List Obligation := b.documents.flatMap (fun e => e.2.obligations)

/-- The obligation and account unit's contribution (R124). -/
def readObligations (b : Body) : ObligationReading :=
  let os := b.obligations
  { total := os.length, pending := os.countP (fun o => o.state == .pending),
    opened := os.countP (fun o => o.state == .opened),
    byKind := obligationKinds.map (fun k => os.countP (fun o => o.kind == k)),
    escalated := os.countP (fun o => o.escalated), withDeadline := os.countP (fun o => o.deadline.isSome),
    earliest := (os.filterMap (fun o => o.deadline)).min?,
    retained := (b.documents.map (fun e => e.2.retained)).sum }

/-- A known retain-until that the receipt clock has reached. -/
def Retain.reached (clock : Nat) : Retain → Bool
  | .known t => t ≤ clock
  | .absent | .pending => false

/-- A known retain-until. -/
def Retain.ticks? : Retain → Option Nat
  | .known t => some t
  | .absent | .pending => none

/-- The retention unit's contribution (R152). -/
def readRetention (b : Body) (clock : Nat) : RetentionReading :=
  let docs := b.documents.map (fun e => e.2)
  { pending := docs.countP (fun d => d.retainUntil == .pending),
    pendingRetained := docs.countP (fun d => d.retainUntil == .pending && d.state == .retained),
    held := docs.countP (fun d => !d.holds.isEmpty), tags := (docs.map (fun d => d.holds.length)).sum,
    dueHeld := docs.countP (fun d => d.state == .retained && d.retainUntil.reached clock && !d.holds.isEmpty),
    earliest :=
      ((docs.filter (fun d => d.state == .retained && d.holds.isEmpty)).filterMap (fun d => d.retainUntil.ticks?)).min?,
    purges := b.purges.length,
    purgeCharge := (b.purges.map (fun n => ((b.doc n).map (fun d => d.retained)).getD 0)).sum }

/-! ### The request -/

/-- The reading of STATUS (R177). -/
def State.reading (s : State) : Reading :=
  { recovery := readRecovery s.recovery, routing := readRouting s.tables s.body, time := s.time,
    catalog := readCatalog s.body, sessions := readSessions s.body s.time.run, staging := readStaging s.body,
    leaves := readLeaves s.body s.flash s.recovery, obligations := readObligations s.body,
    retention := readRetention s.body s.time.clock }

/-- STATUS: taken from every enrolled role whatever the part state, and changes no state (R177). -/
def execStatus (h : Head) (s : State) : Outcome :=
  request s h .status (fun _ => true) (fun _ s1 => ⟨s1, .taken .plain, .reading s1.reading⟩)

end Sys2Proof.Machine
end

