-- ==== Sys2Proof/Machine/Dispatch.lean ====
section
/-! DEFINITION. The meaning of each command: its effect on everything but the queue. -/

namespace Sys2Proof.Machine

/-- One arm per command. -/
def exec (i : Instr) (s : State) : Host.Outcome State Fault Refusal :=
  match i with
  | .openCall h channel extension identityLength identity => Sys2Proof.Machine.execOpenCall h channel extension identityLength identity s
  | .pageBegin h channel density width coding => Sys2Proof.Machine.execPageBegin h channel density width coding s
  | .append h channel count => Sys2Proof.Machine.execAppend h channel count s
  | .appendDataBlockEnd words => Sys2Proof.Machine.execAppendDataBlockEnd words s
  | .pageEnd h channel scanlines badLines => Sys2Proof.Machine.execPageEnd h channel scanlines badLines s
  | .closeCall h channel ending => Sys2Proof.Machine.execCloseCall h channel ending s
  | .endSession h session => Sys2Proof.Machine.execEndSession h session s
  | .idleExpiry session => Sys2Proof.Machine.execIdleExpiry session s
  | .list h afterSerial department => Sys2Proof.Machine.execList h afterSerial department s
  | .describe h slot generation firstPage => Sys2Proof.Machine.execDescribe h slot generation firstPage s
  | .read h slot generation page offset count => Sys2Proof.Machine.execRead h slot generation page offset count s
  | .release h slot generation choice => Sys2Proof.Machine.execRelease h slot generation choice s
  | .forward h slot generation department => Sys2Proof.Machine.execForward h slot generation department s
  | .hold h slot generation tag => Sys2Proof.Machine.execHold h slot generation tag s
  | .unhold h slot generation tag => Sys2Proof.Machine.execUnhold h slot generation tag s
  | .setNode h node role value => Sys2Proof.Machine.execSetNode h node role value s
  | .setRoute h index pattern department role => Sys2Proof.Machine.execSetRoute h index pattern department role s
  | .clearRoute h index => Sys2Proof.Machine.execClearRoute h index s
  | .setDepartment h department enabled quota escalation retention copyAll => Sys2Proof.Machine.execSetDepartment h department enabled quota escalation retention copyAll s
  | .setLimits h floor idleTimeout => Sys2Proof.Machine.execSetLimits h floor idleTimeout s
  | .setClock h value => Sys2Proof.Machine.execSetClock h value s
  | .broadcastSetClock sender value => Sys2Proof.Machine.execBroadcastSetClock sender value s
  | .status h => Sys2Proof.Machine.execStatus h s
  | .unknownOperation h code => Sys2Proof.Machine.execUnknownOperation h code s
  | .tick => Sys2Proof.Machine.execTick s
  | .escalation slot department => Sys2Proof.Machine.execEscalation slot department s
  | .retentionDue slot => Sys2Proof.Machine.execRetentionDue slot s
  | .programComplete bank => Sys2Proof.Machine.execProgramComplete bank s
  | .programFail bank => Sys2Proof.Machine.execProgramFail bank s
  | .fetchComplete bank => Sys2Proof.Machine.execFetchComplete bank s
  | .voidMarkEnd bank completed => Sys2Proof.Machine.execVoidMarkEnd bank completed s
  | .eraseEnd bank completed => Sys2Proof.Machine.execEraseEnd bank completed s
  | .busReset words => Sys2Proof.Machine.execBusReset words s
  | .powerFailWarning => Sys2Proof.Machine.execPowerFailWarning s
  | .powerFailWithdrawn => Sys2Proof.Machine.execPowerFailWithdrawn s
  | .mainPowerLoss cutsChange => Sys2Proof.Machine.execMainPowerLoss cutsChange s
  | .mainPowerReturn hub recordsNode => Sys2Proof.Machine.execMainPowerReturn hub recordsNode s
  | .warmStartComplete => Sys2Proof.Machine.execWarmStartComplete s
  | .rebuildComplete => Sys2Proof.Machine.execRebuildComplete s
  | .busResetWithdrawn => Sys2Proof.Machine.execBusResetWithdrawn s
  | .backupSupplyFailure => Sys2Proof.Machine.execBackupSupplyFailure s
  | .headerScanLeafRead => Sys2Proof.Machine.execHeaderScanLeafRead s

end Sys2Proof.Machine
end

