-- ==== Sys2Proof/Safety.lean ====
section
/-! DEFINITION. The words in which statements about the part are made: when a request is heard and reaches its owner,
and the laws that every step keeps. -/

namespace Sys2Proof.Machine

/-! ### When a request reaches its owner -/

/-- A request with this head is addressed to the part while the bus is free and the part RUNNING, from a node of this
role: the target match of R172 and the enrolment and part-state checks of R173. -/
structure Heard (s : State) (h : Head) (role : Role) : Prop where
  free : s.txn.held = false
  listens : s.resetHeld = false
  target : h.target.toNat = s.tables.hub
  role : s.tables.role h.sender.toNat = role
  running : s.recovery.part = .running

/-- A handle names the document `d` in slot `slot` (R2). -/
structure Names (b : Body) (slot : BitVec 13) (generation : BitVec 8) (d : Document) : Prop where
  inRange : slot.toNat < Config.slots
  doc : b.doc slot.toNat = some d
  generation : (b.slot slot.toNat).generation = generation.toNat

/-- The state after a request whose owner left `u`: the answer is sent, nothing else changes. -/
def answered (u : State) (role : Role) (op : Op) (r : Result) (block : Block := .none) : State :=
  u.reply role op (.taken r) block

/-- The head and operation of a request addressed to a hub number; the other commands are no such requests. -/
def requestOf : Instr → Option (Head × Op)
  | .openCall h _ _ _ _ => some (h, .openCall)
  | .pageBegin h _ _ _ _ => some (h, .pageBegin)
  | .append h _ _ => some (h, .append)
  | .pageEnd h _ _ _ => some (h, .pageEnd)
  | .closeCall h _ _ => some (h, .closeCall)
  | .endSession h _ => some (h, .endSession)
  | .list h _ _ => some (h, .list)
  | .describe h _ _ _ => some (h, .describe)
  | .read h _ _ _ _ _ => some (h, .read)
  | .release h _ _ _ => some (h, .release)
  | .forward h _ _ _ => some (h, .forward)
  | .hold h _ _ _ => some (h, .hold)
  | .unhold h _ _ _ => some (h, .unhold)
  | .setNode h _ _ _ => some (h, .setNode)
  | .setRoute h _ _ _ _ => some (h, .setRoute)
  | .clearRoute h _ => some (h, .clearRoute)
  | .setDepartment h _ _ _ _ _ _ => some (h, .setDepartment)
  | .setLimits h _ _ => some (h, .setLimits)
  | .setClock h _ => some (h, .setClock)
  | .status h => some (h, .status)
  | .unknownOperation h code => some (h, .unknown code.toNat)
  | .appendDataBlockEnd _ | .idleExpiry _ | .broadcastSetClock _ _ | .tick | .escalation _ _ | .retentionDue _ => none
  | .programComplete _ | .programFail _ | .fetchComplete _ | .voidMarkEnd _ _ | .eraseEnd _ _ => none
  | .busReset _ | .powerFailWarning | .powerFailWithdrawn | .mainPowerLoss _ | .mainPowerReturn _ _ => none
  | .warmStartComplete | .rebuildComplete | .busResetWithdrawn | .backupSupplyFailure | .headerScanLeafRead => none

/-- Every field of a request is in the range its owner chapter gives, the clamped fields apart (R173 step 3, R180). An
operation that names no request has no such form. -/
def fieldsInRange (role : Role) : Instr → Prop
  | .openCall _ _ extension length identity =>
    ((∀ d ∈ digitsOf 6 extension.toNat, d ≤ 9) ∨ ∀ d ∈ digitsOf 6 extension.toNat, d = 15) ∧
      length.toNat ≤ 20 ∧ 15 ∉ (digitsOf 20 identity.toNat).take length.toNat
  | .pageBegin _ _ density width _ => density.toNat ≤ 2 ∧ width.toNat ≤ 2
  | .append _ _ count => 1 ≤ count.toNat ∧ count.toNat ≤ 256
  | .closeCall _ _ ending => ending.toNat ≤ 2
  | .endSession _ session => session.toNat ≤ 31
  | .list _ _ department => (∃ d, role = .department d) ∨ department.toNat ≤ 15
  | .describe _ slot _ page => slot.toNat ≤ 4095 ∧ 1 ≤ page.toNat ∧ page.toNat ≤ 999
  | .read _ slot _ page _ count =>
    slot.toNat ≤ 4095 ∧ 1 ≤ page.toNat ∧ page.toNat ≤ 999 ∧ 1 ≤ count.toNat ∧ count.toNat ≤ 256
  | .release _ slot _ choice => slot.toNat ≤ 4095 ∧ choice.toNat ≤ 1
  | .forward _ slot _ department => slot.toNat ≤ 4095 ∧ department.toNat ≤ 15
  | .hold _ slot _ tag | .unhold _ slot _ tag => slot.toNat ≤ 4095 ∧ 1 ≤ tag.toNat
  | .setNode _ node role value =>
    node.toNat ≤ 31 ∧ role.toNat ≤ 3 ∧ (role.toNat = 1 → value.toNat ≤ 3) ∧ (role.toNat = 2 → value.toNat ≤ 15)
  | .setRoute _ index pattern department role =>
    index.toNat ≤ 63 ∧ (∀ p ∈ digitsOf 6 pattern.toNat, p ≤ 9 ∨ p = 14) ∧ department.toNat ≤ 15 ∧ role.toNat ≤ 1
  | .clearRoute _ index => index.toNat ≤ 63
  | .setDepartment _ department enabled _ _ _ copyAll =>
    department.toNat ≤ 15 ∧ enabled.toNat ≤ 1 ∧ copyAll.toNat ≤ 1
  | .unknownOperation _ _ => False
  | .pageEnd .. | .setLimits .. | .setClock .. | .status .. => True
  | .appendDataBlockEnd _ | .idleExpiry _ | .broadcastSetClock _ _ | .tick | .escalation _ _ | .retentionDue _ => True
  | .programComplete _ | .programFail _ | .fetchComplete _ | .voidMarkEnd _ _ | .eraseEnd _ _ => True
  | .busReset _ | .powerFailWarning | .powerFailWithdrawn | .mainPowerLoss _ | .mainPowerReturn _ _ => True
  | .warmStartComplete | .rebuildComplete | .busResetWithdrawn | .backupSupplyFailure | .headerScanLeafRead => True

/-- A request answered at the bus: the verdict is sent, or, for an APPEND, waits for the end of the data block that
still follows (R171, R173); nothing else changes. -/
def answeredAtBus (s : State) (role : Role) (op : Op) (v : Verdict) : State :=
  if op = .append then s.nextPacket.discard role v else s.nextPacket.reply role op v .none

/-! ### What commands do -/

/-- The bytes that an APPEND's data block brought: two for each word received, up to the count of the request (R175). -/
def broughtBytes (count : Nat) (words : List Word) : List Byte :=
  (words.flatMap (fun w => [w.extractLsb' 8 8, w.extractLsb' 0 8])).take count

/-- The charge a list of obligations puts on a department. -/
def chargeOf (os : List Obligation) (dept : Nat) : Nat :=
  ((os.filter (fun o => o.department == dept)).map (fun o => o.charge)).sum

/-- The close of session `k`, which was `c`, with its document `d` in slot `n` (R59, R8, R9, R68, R70, R109, R116, R144):
the bodies before and after. A discard moves no account, and the purge list stays as it was, a freed slot apart, which it
does not hold under the law of charges. -/
structure Closed (t : Tables) (tb : Timebase) (b e : Body) (k n : Nat) (d : Document) (c : Session) (ending : Ending) :
    Prop where
  session : e.session k = ⟨.idle, none, none, []⟩
  otherSessions : ∀ j, j ≠ k → e.session j = b.session j
  discarded : d.leafCount = 0 → e.slot n = ⟨((b.slot n).generation + 1) % 256, none⟩
  kept : d.leafCount ≠ 0 → ∃ f : Document, e.slot n = ⟨(b.slot n).generation, some f⟩ ∧
    f = { d with state := .distributing, ending := some ending, session := none,
                 receipt := some ⟨tb.clock, tb.trusted⟩, pages := f.pages, obligations := f.obligations,
                 base := f.base, departments := f.departments, retainUntil := f.retainUntil } ∧
    f.pages = d.pages.dropLast ++ (d.pages.getLast?.map Page.cut).toList ∧
    f.obligations = d.apportioned.map (fun o => { o with deadline := t.deadline o.department o.kind tb.run }) ∧
    (∀ x, x ∈ f.departments ↔ ∃ o ∈ d.obligations, o.department = x) ∧
    (tb.trusted = true → f.base = .known tb.clock ∧
      f.retainUntil = .known (min (tb.clock + t.longestRetention f.departments * 5529600) 281474976710655)) ∧
    (tb.trusted = false → f.base = .pending ∧ f.retainUntil = .pending)
  otherSlots : ∀ m, m ≠ n → e.slot m = b.slot m
  accounts : (d.obligations.map (fun o => o.department)).Nodup → d.leafCount ≠ 0 →
    ∀ x, e.account x = b.account x + chargeOf d.apportioned x - chargeOf d.obligations x
  uncharged : d.leafCount = 0 → ∀ x, e.account x = b.account x
  purges : e.purges = if d.leafCount = 0 then b.purges.filter (fun m => m ≠ n) else b.purges
  queued : ∀ i ∈ c.queue, e.buffer i = { b.buffer i with
    holder := some .orphan,
    state := if c.state = .inPage ∧ c.queue.getLast? = some i then .ready else (b.buffer i).state }
  unqueued : ∀ i, i ∉ c.queue → e.buffer i = b.buffer i
  ready : e.ready = if c.state = .inPage then b.ready ++ c.queue.getLast?.toList else b.ready
  leaves : ∀ l, e.leaf l =
    if c.state = .inPage ∧ ∃ i, c.queue.getLast? = some i ∧ (b.buffer i).leaf = some l
    then { b.leaf l with state := .ready } else b.leaf l
  others : e = { b with sessions := e.sessions, buffers := e.buffers, ready := e.ready, leaves := e.leaves,
                        catalog := e.catalog, accounts := e.accounts, purges := e.purges }

/-- The document that the close of session `k` keeps: the session is open and its document holds a leaf (R8, R59). -/
def Body.closingDoc (b : Body) (k : Nat) : Option Document :=
  if (b.session k).state = .idle then none
  else ((b.session k).doc.bind b.doc).filter (fun d => d.leafCount ≠ 0)

/-- The slot that the close of session `k` frees: the session is open and its document holds no leaf (R9, R59). -/
def Body.discardedSlot (b : Body) (k : Nat) : Option Nat :=
  if (b.session k).state = .idle then none
  else (b.session k).doc.filter (fun n => (b.doc n).any (fun d => d.leafCount = 0))

/-- A number that each document kept at the closes of some sessions adds. -/
def Body.closingSum (b : Body) (ks : List Nat) (f : Document → Nat) : Nat :=
  (ks.map (fun k => ((b.closingDoc k).map f).getD 0)).sum

/-- Several sessions closed one after another with one ending (R8, R9, R27, R59, R62, R68, R70, R109, R116, R144): the
bodies before and after. -/
structure ClosedAll (t : Tables) (tb : Timebase) (b e : Body) (ks : List Nat) (ending : Ending) : Prop where
  sessions : ∀ k ∈ ks, (b.session k).state ≠ .idle → e.session k = ⟨.idle, none, none, []⟩
  otherSessions : ∀ k, k ∉ ks ∨ (b.session k).state = .idle → e.session k = b.session k
  documents : ∀ k ∈ ks, ∀ n d, (b.session k).state ≠ .idle → (b.session k).doc = some n → b.doc n = some d →
    (∀ j ∈ ks, j ≠ k → (b.session j).state ≠ .idle → (b.session j).doc ≠ some n) →
    (d.leafCount = 0 → e.slot n = ⟨((b.slot n).generation + 1) % 256, none⟩) ∧
    (d.leafCount ≠ 0 → ∃ f : Document, e.slot n = ⟨(b.slot n).generation, some f⟩ ∧
      f = { d with state := .distributing, ending := some ending, session := none,
                   receipt := some ⟨tb.clock, tb.trusted⟩, pages := f.pages, obligations := f.obligations,
                   base := f.base, departments := f.departments, retainUntil := f.retainUntil } ∧
      f.pages = d.pages.dropLast ++ (d.pages.getLast?.map Page.cut).toList ∧
      f.obligations = d.apportioned.map (fun o => { o with deadline := t.deadline o.department o.kind tb.run }) ∧
      (∀ x, x ∈ f.departments ↔ ∃ o ∈ d.obligations, o.department = x) ∧
      (tb.trusted = true → f.base = .known tb.clock ∧
        f.retainUntil = .known (min (tb.clock + t.longestRetention f.departments * 5529600) 281474976710655)) ∧
      (tb.trusted = false → f.base = .pending ∧ f.retainUntil = .pending))
  otherSlots : ∀ n, (∀ k ∈ ks, (b.session k).state ≠ .idle → (b.session k).doc ≠ some n) → e.slot n = b.slot n
  accounts : (∀ k ∈ ks, ∀ d, b.closingDoc k = some d → (d.obligations.map (fun o => o.department)).Nodup) →
    (∀ j ∈ ks, ∀ k ∈ ks, j ≠ k → (b.session j).state ≠ .idle → (b.session k).state ≠ .idle →
      (b.session j).doc ≠ (b.session k).doc) →
    ∀ x, b.closingSum ks (fun d => chargeOf d.obligations x) ≤ b.account x →
      e.account x = b.account x + b.closingSum ks (fun d => chargeOf d.apportioned x) -
        b.closingSum ks (fun d => chargeOf d.obligations x)
  uncharged : (∀ k ∈ ks, b.closingDoc k = none) → ∀ x, e.account x = b.account x
  purges : e.purges = b.purges.filter (fun m => ∀ k ∈ ks, b.discardedSlot k ≠ some m)
  buffers : ∀ i, e.buffer i = { b.buffer i with
    holder := if ∃ k ∈ ks, (b.session k).state ≠ .idle ∧ i ∈ (b.session k).queue then some .orphan
      else (b.buffer i).holder,
    state := if ∃ k ∈ ks, (b.session k).state = .inPage ∧ (b.session k).queue.getLast? = some i then .ready
      else (b.buffer i).state }
  ready : e.ready = b.ready ++ ks.flatMap (fun k =>
    if (b.session k).state = .inPage then (b.session k).queue.getLast?.toList else [])
  leaves : ∀ l, e.leaf l =
    if ∃ k ∈ ks, (b.session k).state = .inPage ∧
      ∃ i, (b.session k).queue.getLast? = some i ∧ (b.buffer i).leaf = some l
    then { b.leaf l with state := .ready } else b.leaf l
  others : e = { b with sessions := e.sessions, buffers := e.buffers, ready := e.ready, leaves := e.leaves,
                        catalog := e.catalog, accounts := e.accounts, purges := e.purges }

/-- Retain-until after an obligation of `dept` is added to a document that is not RECEIVING (R145). -/
def raisedUntil (t : Tables) (d : Document) (dept : Nat) : Retain :=
  match d.retainUntil, d.base with
  | .known r, .known base => .known (max r (min (base + (t.dept dept).retention * 5529600) 281474976710655))
  | r, _ => r

/-- Due for purge at a clock value (R149). -/
def dueForPurge (d : Document) (clock : Nat) : Prop :=
  d.state = .retained ∧ d.holds = [] ∧ ∃ t, d.retainUntil = .known t ∧ t ≤ clock

/-- A leaf slot names a leaf. -/
def LeafSlot.names : LeafSlot → Bool
  | .placed _ => true
  | .unplaced | .released => false

/-- The cursor of a PURGING document `d` in slot `n` has moved to the first slot that names a leaf (R14, R73, R95, R119,
R151): the bodies before and after. Exactly the buffers that waited behind the slots it passed are freed and leave the
ready list; of windows and sessions nothing changes, unless a freed buffer stood there, which the law of the staging pool
rules out. -/
structure CursorMoved (b e : Body) (n : Nat) (d : Document) : Prop where
  moved : (∃ s ∈ d.leafSlots, s.2.2.names = true) →
    let front := d.leafSlots.takeWhile (fun s => !s.2.2.names)
    ∃ f : Document, e.slot n = ⟨(b.slot n).generation, some f⟩ ∧
      f = { d with pages := f.pages, retained := d.retained - front.countP (fun s => s.2.2 == .unplaced) } ∧
      f.leafSlots = front.map (fun s => (s.1, s.2.1, .released)) ++ d.leafSlots.drop front.length ∧
      f.pages.map (fun p => { p with slots := [] }) = d.pages.map (fun p => { p with slots := [] }) ∧
      e.purges = b.purges
  finished : (∀ s ∈ d.leafSlots, s.2.2.names = false) →
    e.slot n = ⟨((b.slot n).generation + 1) % 256, none⟩ ∧ e.purges = b.purges.filter (fun m => m ≠ n)
  freed : ∃ gone : List Nat,
    (∀ i, i ∈ gone ↔ ∃ p x, (p, x, LeafSlot.unplaced) ∈ d.leafSlots.takeWhile (fun s => !s.2.2.names) ∧
      b.ready.find? (fun j => (b.buffer j).place == some ⟨n, p, x⟩ && (b.buffer j).leaf == none) = some i) ∧
    (∀ i, e.buffer i = if i ∈ gone then ⟨.free, none, none, none, [], false⟩ else b.buffer i) ∧
    e.ready = b.ready.filter (fun i => i ∉ gone) ∧ e.windows = b.windows.filter (fun i => i ∉ gone) ∧
    ∀ k, e.session k = { b.session k with
      queue := (b.session k).queue.filter (fun i => ¬ (i ∈ gone ∧ (b.buffer i).holder = some (.session k))) }
  windows : (∀ i ∈ b.windows, (b.buffer i).place = none) → e.windows = b.windows
  sessions : (∀ i k p, (b.buffer i).place = some p → p.slot = n → (b.buffer i).leaf = none →
    (b.buffer i).holder ≠ some (.session k)) → e.sessions = b.sessions
  otherSlots : ∀ m, m ≠ n → e.slot m = b.slot m
  others : e = { b with catalog := e.catalog, purges := e.purges, buffers := e.buffers, ready := e.ready,
                        windows := e.windows, sessions := e.sessions }
  still : (∃ s ∈ d.leafSlots, s.2.2.names = true) →
    (∀ s ∈ d.leafSlots.takeWhile (fun s => !s.2.2.names), s.2.2 = .released) → e = b

/-- A purge of the document `d` in slot `n` has started: PURGING, at the back of the purge list, its cursor moved (R150):
the bodies before and after. -/
def PurgeStarted (b e : Body) (n : Nat) (d : Document) : Prop :=
  ∃ m : Body, m.slot n = ⟨(b.slot n).generation, some { d with state := .purging }⟩ ∧
    (∀ k, k ≠ n → m.slot k = b.slot k) ∧ m = { b with catalog := m.catalog, purges := b.purges ++ [n] } ∧
    CursorMoved m e n { d with state := .purging }

/-- An obligation's escalation deadline is reached (R117). -/
def Obligation.reached (o : Obligation) (run : Nat) : Prop := ∃ t, o.deadline = some t ∧ t ≤ run

/-- What waits for the part to become RUNNING, or POWER_FAIL directly from a start, has happened (R117, R118, R149, R161):
every reached escalation has fired, with an ESCALATED obligation and attention for intake where it held none, every due
purge has started and stands on the purge list, and no account, serial or other attention has moved: the states before
and after. -/
structure Resumed (s u : State) : Prop where
  others : u = { s with body := u.body }
  quiet : (∀ e ∈ s.body.documents, ¬ dueForPurge e.2 s.time.clock ∧
    ∀ o ∈ e.2.obligations, ¬ Obligation.reached o s.time.run) → u = s.arbitrate
  settled : ∀ n d, u.body.doc n = some d → ¬ dueForPurge d s.time.clock ∧
    ∀ o ∈ d.obligations, ¬ Obligation.reached o s.time.run
  fired : ∀ n d f x o, s.body.doc n = some d → d.obligation x = some o → Obligation.reached o s.time.run →
    u.body.doc n = some f → f.obligation x = some { o with escalated := true, deadline := none } ∧ f.obliges 0 = true
  escalated : ∀ n d, s.body.doc n = some d → (∀ e ∈ s.body.documents, e.1 = n → e.2 = d) →
    (∃ o ∈ d.obligations, Obligation.reached o s.time.run) →
    (d.obliges 0 = false → u.body.attends 0 = true) ∧
    (n ∉ s.body.purges → d.state ≠ .retained → ∃ f : Document, u.body.doc n = some f ∧
      f = { d with pages := f.pages, obligations := f.obligations, departments := f.departments,
                   retainUntil := f.retainUntil } ∧
      f.obligations = d.obligations.map (fun q =>
          if d.obligations.any (fun o => o.department == q.department && o.deadline.any (fun t => t ≤ s.time.run))
          then { q with escalated := true, deadline := none } else q) ++
        (if d.obliges 0 then [] else [⟨0, .escalated, .pending, s.time.run, none, false, 0⟩]) ∧
      (d.obliges 0 = true → f.departments = d.departments ∧ f.retainUntil = d.retainUntil) ∧
      (d.obliges 0 = false → (∀ y, y ∈ f.departments ↔ y = 0 ∨ y ∈ d.departments) ∧
        f.retainUntil = raisedUntil s.tables d 0))
  attention : (∀ x, x ≠ 0 → u.body.attends x = s.body.attends x) ∧
    ((∀ e ∈ s.body.documents, e.2.obliges 0 = true ∨ ∀ g ∈ s.body.documents, g.1 = e.1 →
      ∀ o ∈ g.2.obligations, ¬ Obligation.reached o s.time.run) → u.body.attends 0 = s.body.attends 0)
  accounts : ∀ x, u.body.account x = s.body.account x
  nextSerial : u.body.nextSerial = s.body.nextSerial
  started : ∀ n d, s.body.doc n = some d → dueForPurge d s.time.clock →
    (∀ e ∈ s.body.documents, e.1 = n → ∀ o ∈ e.2.obligations, ¬ Obligation.reached o s.time.run) →
    u.body.doc n = none ∨ ∃ f, u.body.doc n = some f ∧ f.state = .purging ∧ f.serial = d.serial ∧ n ∈ u.body.purges
  listed : ∀ n ∈ u.body.purges, n ∈ s.body.purges ∨
    ∃ e ∈ s.body.documents, e.1 = n ∧ dueForPurge e.2 s.time.clock
  kept : ∀ n d, s.body.doc n = some d → n ∉ s.body.purges →
    (∀ e ∈ s.body.documents, e.1 = n → ¬ dueForPurge e.2 s.time.clock ∧
      ∀ o ∈ e.2.obligations, ¬ Obligation.reached o s.time.run) →
    ∃ f, u.body.doc n = some f ∧ f = { d with pages := f.pages }

/-- The transaction in progress has ended (R176, R178, R179): nothing else changes, and of what the part was sending all or
only some first words have gone, how many being a free value (log 31): the states before and after. -/
structure TransactionEnded (s e : State) : Prop where
  others : e = { s with txn := .none, sent := e.sent, cuts := e.cuts }
  silent : (∀ m, s.txn ≠ .sending m) → e.sent = none ∧ e.cuts = s.cuts
  cut : ∀ m, s.txn = .sending m →
    e.cuts = s.cuts + 1 ∧ (e.sent = none ∨ ∃ n, n < m.length ∧ e.sent = some { m with cut := some n })

/-! ### Which slots a warm start keeps (R165, R166) -/

/-- A slot safely in flash (R165). -/
def Body.keeps (b : Body) : LeafSlot → Bool
  | .placed l => (b.leaf l).state == .programmed
  | .released => true
  | .unplaced => false

/-- The slots each page of a document keeps: those before its first that is not safe, of the pages before the first that
keeps none. -/
def Body.keptSlots (b : Body) (d : Document) : List (List LeafSlot) :=
  (d.pages.map (fun p => p.slots.takeWhile b.keeps)).takeWhile (fun slots => !slots.isEmpty)

/-- The pages of a document with the slots they keep. -/
def Body.keptPages (b : Body) (d : Document) : List Page :=
  (d.pages.take (b.keptSlots d).length).map (fun p => if p.slots.all b.keeps then p
    else { p with state := .cut, counts := none, byteLength := 4096 * (p.slots.takeWhile b.keeps).length,
                  slots := p.slots.takeWhile b.keeps })

/-- The slots a document loses. -/
def Body.lostSlots (b : Body) (d : Document) : List LeafSlot :=
  d.pages.zipIdx.flatMap (fun e => e.1.slots.drop ((b.keptSlots d).getD e.2 []).length)

/-- A document stays: it keeps a slot, and, while it is PURGING, one that is not released. -/
def Body.stays (b : Body) (d : Document) : Bool :=
  !(b.keptSlots d).isEmpty && (d.state != .purging || (b.keptSlots d).flatten.any (fun v => v != .released))

/-- The leaves of bank `k` that the leaf table lists in a state, ascending. -/
def Body.listed (b : Body) (k : Nat) (p : LeafState → Bool) : List Nat :=
  ((b.leaves.filter (fun e => p e.2.state)).map (fun e => e.1)).filter (fun l => l % 4 = k)

/-! ### Which valid leaves a cold start keeps (R168) -/

/-- Leaf `l` reads as valid with the header `h`. -/
def Flash.validAt (f : Flash) (l : Nat) (h : LeafHeader) : Prop := (f.spareOf l).classOf = .valid h

/-- A valid leaf of the call that serial `q` stands for: of the latest open time, and of the slot and generation of the
lowest leaf of that time (R168 step 1). -/
def Flash.ofCall (f : Flash) (q l : Nat) (h : LeafHeader) : Prop :=
  f.validAt l h ∧ h.serial = q ∧ (∀ m g, f.validAt m g → g.serial = q → g.openTime ≤ h.openTime) ∧
    ∀ m g, f.validAt m g → g.serial = q → g.openTime = h.openTime →
      (∀ j i, f.validAt j i → i.serial = q → i.openTime = h.openTime → m ≤ j) →
      h.slot = g.slot ∧ h.generation = g.generation

/-- The leaf of a place: the lowest of the call that names it (R168 step 2). -/
def Flash.foundAt (f : Flash) (q page index l : Nat) (h : LeafHeader) : Prop :=
  f.ofCall q l h ∧ h.page = page ∧ h.index = index ∧
    ∀ m g, f.ofCall q m g → g.page = page → g.index = index → l ≤ m

/-- The leaf `l` is kept at a place: no index of its page is missing before it and none there carries a final-leaf mark, and
no page is missing or empty before its own (R168 steps 3 and 4). -/
def Flash.keptAt (f : Flash) (q page index l : Nat) : Prop :=
  (∃ h, f.foundAt q page index l h) ∧ (∀ x, x < index → ∃ m g, f.foundAt q page x m g ∧ g.final = 0) ∧
    ∀ p, 1 ≤ p → p < page → ∃ m g, f.foundAt q p 0 m g

/-! ### Laws of the timebase (09_the_receipt_clock.md) -/

/-- The ranges of the timebase, and an untrusted clock stands at 0 without hold-back (R154, R156). -/
def Timebase.lawful (t : Timebase) : Prop :=
  t.clock ≤ Config.tickMax ∧ t.run ≤ Config.tickMax ∧ t.holdBack ≤ Config.holdBackCap ∧
    (t.trusted = false → t.clock = 0 ∧ t.holdBack = 0)

/-! ### Laws of the tables (02_departments_and_routing.md) -/

/-- The ranges of a department record (R29). -/
def Dept.lawful (d : Dept) : Prop :=
  1 ≤ d.quota ∧ d.quota ≤ 65536 ∧ d.escalation ≤ 10080 ∧ 1 ≤ d.retention ∧ d.retention ≤ 3650

/-- A route entry's pattern has six positions, each a digit or ANY, and its department is one of the sixteen (R33). -/
def Route.lawful (r : Route) : Prop :=
  r.pattern.length = 6 ∧ (∀ p ∈ r.pattern, p ≤ 9 ∨ p = anyDigit) ∧ r.department < Config.departments

/-- The ranges of the limits, the straps, the departments and the routes; intake's fixed values (R29, R30, R32, R33). -/
def Tables.lawful (t : Tables) : Prop :=
  t.floor ≤ 8192 ∧ 320 ≤ t.idleTimeout ∧ t.idleTimeout ≤ 38400 ∧ t.hub ≤ 3 ∧ t.recordsNode ≤ 31 ∧
    (∀ d, (t.dept d).lawful) ∧
    (t.dept 0).enabled = true ∧ (t.dept 0).quota = 65536 ∧ (t.dept 0).escalation = 0 ∧
    ∀ i r, t.route i = some r → r.lawful

/-- The node table and the departments' node lists agree: one records node, at the strapped number; no line index held
twice; at most two nodes in a department, each listed exactly where its role says (R24, R25, R26, R28). -/
def Tables.agree (t : Tables) : Prop :=
  t.recordsNode < 32 ∧
    (∀ n, t.role n = .records ↔ n = t.recordsNode) ∧
    (∀ n m i, t.role n = .line i → t.role m = .line i → n = m) ∧
    ∀ d, (t.dept d).nodes.Nodup ∧ (t.dept d).nodes.length ≤ Config.departmentNodes ∧
      ∀ n, n ∈ (t.dept d).nodes ↔ t.role n = .department d

/-! ### Laws of the recovery unit and the bus -/

/-- The part state, the PFW input and the consistency mark agree (R161, R162): RUNNING without PFW and POWER_FAIL under
it, the mark present in both and absent during a start; the backup supply is missing only with main power off. -/
def Recovery.lawful (r : Recovery) : Prop :=
  (r.part = .running → r.pfw = false ∧ r.mark = true) ∧ (r.part = .powerFail → r.pfw = true ∧ r.mark = true) ∧
    (r.part = .starting ∨ r.part = .rebuilding → r.mark = false) ∧ (r.backup = false → r.part = .off ∧ r.mark = false) ∧
    r.scanned ≤ Config.leaves

/-- No transaction stands while the bus reset input is asserted or main power is off (R178, R179). -/
def State.quietBus (s : State) : Prop := s.resetHeld = true ∨ s.recovery.part = .off → s.txn = .none

/-! ### Laws of the catalog (01_documents_and_the_catalog.md) -/

/-- Serials: every one below the next serial, no two documents with the same; none while REBUILDING (R4, R167). -/
def Body.serialsLawful (b : Body) : Prop :=
  1 ≤ b.nextSerial ∧ b.nextSerial ≤ Config.serialEnd ∧
    (∀ n d, b.doc n = some d → 1 ≤ d.serial ∧ d.serial < b.nextSerial) ∧
    ∀ n m d e, b.doc n = some d → b.doc m = some e → d.serial = e.serial → n = m

/-- The serial law of a state: it holds, and the catalog is empty while REBUILDING (R4, R167). -/
def State.serialsLawful (s : State) : Prop :=
  s.body.serialsLawful ∧ (s.recovery.part = .rebuilding → ∀ n, s.body.doc n = none)

/-- A hold list: at most 4 tags, each 1..65,535, kept rising (R147). -/
def holdsLawful (tags : List Nat) : Prop :=
  tags.length ≤ Config.holdLimit ∧ tags.Pairwise (· < ·) ∧ ∀ t ∈ tags, 1 ≤ t ∧ t ≤ 65535

/-- Every document's hold list is lawful, and every slot's generation is 0..255 (R1, R147). -/
def Body.holdsLawful (b : Body) : Prop :=
  (∀ n d, b.doc n = some d → Machine.holdsLawful d.holds) ∧ ∀ n, (b.slot n).generation < 256

/-! ### Laws of charges and accounts (06_obligations_and_charges.md) -/

/-- One document's obligations and charges agree with its leaf slots (R103, R106, R108, R119). -/
structure Document.chargesLawful (d : Document) : Prop where
  distinct : (d.obligations.map (fun o => o.department)).Nodup
  whole : d.state ≠ .purging →
    (d.obligations.map (fun o => o.charge)).sum + d.retained = d.leafCount ∧ ∀ p ∈ d.pages, .released ∉ p.slots
  receiving : d.state = .receiving → d.retained = 0 ∧ d.obligations ≠ [] ∧ ∀ o ∈ d.obligations.tail, o.charge = 0
  distributing : d.state = .distributing → d.obligations ≠ []
  retained : d.state = .retained → d.obligations = []
  purging : d.state = .purging →
    d.obligations = [] ∧ d.retained = (d.pages.map (fun p => p.slots.countP (fun v => v != .released))).sum

/-- The catalog is in canonical form, every document's charges are lawful, every account is the sum of its department's
charges over all documents, and the documents of the purge list are PURGING (R95, R106, R107). -/
structure Body.chargesLawful (b : Body) : Prop where
  canonical : Table.wf Slot.free b.catalog
  documents : ∀ n d, b.doc n = some d → d.chargesLawful
  accounts : ∀ x, b.account x = (b.documents.map (fun e => chargeOf e.2.obligations x)).sum
  purges : ∀ n ∈ b.purges, ∃ d, b.doc n = some d ∧ d.state = .purging

/-- An open session's document is the RECEIVING one that names the session, and a session IN_PAGE has a last page with a
leaf slot (R5, R43, R50). -/
def Body.sessionsOwn (b : Body) : Prop :=
  ∀ k, (b.session k).state ≠ .idle → ∃ n d, (b.session k).doc = some n ∧ b.doc n = some d ∧ d.state = .receiving ∧
    d.session = some k ∧ ((b.session k).state = .inPage → ∃ p, d.pages.getLast? = some p ∧ p.slots ≠ [])

/-- The law of charges of a state (R106, R107): that of the body; the sessions own their documents; an APPEND in flight is
one of a session IN_PAGE while the part works, whose last page holds two slots once it has rolled over; and the catalog is
empty while REBUILDING. -/
structure State.chargesLawful (s : State) : Prop where
  charges : s.body.chargesLawful
  sessions : s.body.sessionsOwn
  append : ∀ a, s.txn = .appending a → (s.recovery.part = .running ∨ s.recovery.part = .powerFail) ∧
    (s.body.session a.session).state = .inPage ∧
    (a.rolled = true → ∃ n d p, (s.body.session a.session).doc = some n ∧ s.body.doc n = some d ∧
      d.pages.getLast? = some p ∧ 2 ≤ p.slots.length)
  rebuilding : s.recovery.part = .rebuilding → ∀ n, s.body.doc n = none

/-! ### Laws of the leaf table and the staging pool (04_staging_buffers.md, 05_the_leaf_store.md) -/

/-- The leaf slot at a place, if there is one. -/
def Body.slotAt (b : Body) (p : Place) : Option LeafSlot :=
  (b.doc p.slot).bind (fun d => (d.page p.page).bind (fun g => g.slots[p.index]?))

/-- The leaf table, the blank lists and the erase queues (R82, R83, R97): owner and buffer present in the states R82 gives
them, a placed leaf slot and the leaf it names refer to each other, and each bank lists exactly its BLANK leaves and
exactly its VOID leaves, each once. -/
structure Body.leavesLawful (b : Body) : Prop where
  canonical : Table.wf Leaf.blank b.leaves
  bounded : ∀ l, 65536 ≤ l → b.leaf l = Leaf.blank
  owner : ∀ l, (b.leaf l).owner.isSome = true ↔ (b.leaf l).state = .filling ∨ (b.leaf l).state = .ready ∨
    (b.leaf l).state = .programming ∨ (b.leaf l).state = .programmed
  buffer : ∀ l, (b.leaf l).buffer.isSome = true ↔ (b.leaf l).state = .filling ∨ (b.leaf l).state = .ready ∨
    (b.leaf l).state = .programming
  placed : ∀ l p, (b.leaf l).owner = some p ↔ b.slotAt p = some (.placed l)
  blank : ∀ k, k < 4 → (b.bank k).blank.Nodup ∧
    ∀ l, l ∈ (b.bank k).blank ↔ l < 65536 ∧ l % 4 = k ∧ (b.leaf l).state = .blank
  erase : ∀ k, k < 4 → (b.bank k).eraseQueue.Nodup ∧
    ∀ l, l ∈ (b.bank k).eraseQueue ↔ l < 65536 ∧ l % 4 = k ∧ (b.leaf l).state = .void

/-- The leaf state that a buffer behind a leaf gives it (R82, R86, R90). -/
def BufState.leafState : BufState → Option LeafState
  | .filling => some .filling
  | .ready => some .ready
  | .programming => some .programming
  | .free | .fetching | .window => none

/-- The staging pool while the part works (R66 to R76): a buffer behind a leaf slot and its leaf name each other in one
state; one without a leaf waits READY behind an unplaced slot, alone there; the ready list holds the READY and PROGRAMMING
buffers and the window list the FETCHING and WINDOW ones, each once; a session's queue holds at most four buffers, those
it holds; a session IN_PAGE fills the buffer at its queue's tail, for its last slot. -/
structure Body.poolLawful (b : Body) : Prop where
  free : ∀ i, (b.buffer i).state = .free → b.buffer i = Buffer.free
  bounded : ∀ i, 144 ≤ i → b.buffer i = Buffer.free
  behind : ∀ i st, (b.buffer i).state.leafState = some st → (b.buffer i).discard = false ∧
    ∃ p, (b.buffer i).place = some p ∧
      match (b.buffer i).leaf with
      | some l => b.leaf l = ⟨st, some p, some i⟩
      | none => st = .ready ∧ b.slotAt p = some .unplaced ∧
          ∀ j, (b.buffer j).place = some p → (b.buffer j).leaf = none → j = i
  before : ∀ l i, (b.leaf l).buffer = some i →
    (b.buffer i).leaf = some l ∧ (b.buffer i).state.leafState = some (b.leaf l).state
  windowed : ∀ i, (b.buffer i).state = .fetching ∨ (b.buffer i).state = .window →
    (b.buffer i).leaf.isSome = true ∧ (b.buffer i).place = none ∧ (b.buffer i).holder = some .delivery ∧
    ((b.buffer i).discard = true → (b.buffer i).state = .fetching)
  ready : b.ready.Nodup ∧ ∀ i, i ∈ b.ready ↔ (b.buffer i).state = .ready ∨ (b.buffer i).state = .programming
  windows : b.windows.Nodup ∧ ∀ i, i ∈ b.windows ↔ (b.buffer i).state = .fetching ∨ (b.buffer i).state = .window
  queues : ∀ k, (b.session k).queue.Nodup ∧ (b.session k).queue.length ≤ 4 ∧
    ((b.session k).state = .idle → (b.session k).queue = []) ∧
    ∀ i, i ∈ (b.session k).queue ↔ (b.buffer i).holder = some (.session k)
  tail : ∀ k, (b.session k).state = .inPage → ∃ n d g i, (b.session k).doc = some n ∧ b.doc n = some d ∧
    d.pages.getLast? = some g ∧ (b.session k).queue.getLast? = some i ∧ (b.buffer i).state = .filling ∧
    (b.buffer i).place = some ⟨n, d.pages.length, g.slots.length - 1⟩

/-- The operation under way on each bank is the one its leaf or its window waits for, and a FETCHING buffer is queued or
under way at its leaf's bank, once (R82, R88, R94, R96, R97). -/
structure Body.banksLawful (b : Body) : Prop where
  programs : ∀ k, k < 4 → ∀ l, (∃ i h, (b.bank k).op = .program i l h) ↔ l % 4 = k ∧ (b.leaf l).state = .programming
  programBuffer : ∀ k, k < 4 → ∀ i l h, (b.bank k).op = .program i l h → (b.leaf l).buffer = some i
  voidMarks : ∀ k, k < 4 → ∀ l, (b.bank k).op = .voidMark l ↔ l % 4 = k ∧ (b.leaf l).state = .voiding
  erases : ∀ k, k < 4 → ∀ l, (b.bank k).op = .erase l ↔ l % 4 = k ∧ (b.leaf l).state = .erasing
  fetches : ∀ k, k < 4 → (b.bank k).fetchQueue.Nodup ∧ (∀ i ∈ (b.bank k).fetchQueue, (b.bank k).op ≠ .fetch i) ∧
    ∀ i, (i ∈ (b.bank k).fetchQueue ∨ (b.bank k).op = .fetch i) ↔
      (b.buffer i).state = .fetching ∧ ∃ l, (b.buffer i).leaf = some l ∧ l % 4 = k

/-- While the part does not work, the ordinary memory is empty and no bank is busy (R66, R163); that it is so in every state
from the loss of main power on is the model's choice of the moment (log 12). -/
structure Body.atRest (b : Body) : Prop where
  buffers : ∀ i, b.buffer i = Buffer.free
  ready : b.ready = []
  windows : b.windows = []
  banks : ∀ k, k < 4 → (b.bank k).fetchQueue = [] ∧ (b.bank k).op = .none

/-- While REBUILDING, the erased, void-marked and unreadable leaves read so far stand as their class says (R101, R167). The
rest, not yet read or valid, stand as BLANK on no list, which is the model's choice (log 11). -/
structure Body.scannedLawful (b : Body) (f : Flash) (scanned : Nat) : Prop where
  empty : b.catalog = [] ∧ b.purges = []
  canonical : Table.wf Leaf.blank b.leaves
  leaves : ∀ l, b.leaf l = if l < scanned then
      match (f.spareOf l).classOf with
      | .voidMarked => ⟨.void, none, none⟩
      | .unreadable => ⟨.retired, none, none⟩
      | .erased | .valid _ => Leaf.blank
    else Leaf.blank
  blank : ∀ k, k < 4 → (b.bank k).blank.Nodup ∧
    ∀ l, l ∈ (b.bank k).blank ↔ l < scanned ∧ l % 4 = k ∧ (f.spareOf l).classOf = .erased
  erase : ∀ k, k < 4 → (b.bank k).eraseQueue.Nodup ∧
    ∀ l, l ∈ (b.bank k).eraseQueue ↔ l < scanned ∧ l % 4 = k ∧ (f.spareOf l).classOf = .voidMarked

/-- The law of the leaf store and the staging pool, by part state: the leaf table whenever it is believed (R82, R83, R97,
R162), the pool and the banks while the part works, with an APPEND that rolled over still filling the buffer before the
tail (R55); the ordinary memory empty otherwise; and the scan while REBUILDING. The array holds 65,536 leaves. -/
structure State.storeLawful (s : State) : Prop where
  array : ∀ l, 65536 ≤ l → s.flash.spareOf l = Spare.erased
  believed : s.recovery.part = .running ∨ s.recovery.part = .powerFail ∨ s.recovery.part = .starting ∨
    (s.recovery.part = .off ∧ s.recovery.mark = true) → s.body.leavesLawful
  working : s.recovery.part = .running ∨ s.recovery.part = .powerFail → s.body.poolLawful ∧ s.body.banksLawful
  resting : s.recovery.part = .off ∨ s.recovery.part = .starting ∨ s.recovery.part = .rebuilding → s.body.atRest
  scan : s.recovery.part = .rebuilding → s.body.scannedLawful s.flash s.recovery.scanned
  rolled : ∀ a, s.txn = .appending a → a.rolled = true → ∃ n d g j, (s.body.session a.session).doc = some n ∧
    s.body.doc n = some d ∧ d.pages.getLast? = some g ∧ (s.body.session a.session).queue.dropLast.getLast? = some j ∧
    (s.body.buffer j).state = .filling ∧ (s.body.buffer j).place = some ⟨n, d.pages.length, g.slots.length - 2⟩

/-- The window list (R74): at most 24 windows; one not marked for discard names a PROGRAMMED leaf, and no two such name the
same leaf. -/
structure Body.windowsLawful (b : Body) : Prop where
  bound : b.windows.length ≤ 24
  programmed : ∀ i ∈ b.windows, (b.buffer i).discard = false →
    ∃ l, (b.buffer i).leaf = some l ∧ (b.leaf l).state = .programmed
  distinct : ∀ i ∈ b.windows, ∀ j ∈ b.windows, (b.buffer i).discard = false → (b.buffer j).discard = false →
    (b.buffer i).leaf = (b.buffer j).leaf → i = j

/-! ### Laws of the flash array -/

/-- The data areas keep their canonical form, and so do the spare areas. -/
def Flash.lawful (f : Flash) : Prop := Memory.wf f.data ∧ Table.wf Spare.erased f.spare

end Sys2Proof.Machine
end

