-- ==== Sys2Proof/Certificates/Slice0/Obligations.lean ====
section
/-! DEFINITION. The statements put to the provers. Where one says that idle banks choose after a change (`arbitrate`), that
is R88 as log 19 reads it, in an order that stays free (log 7); a packet or data block is settled at its end (log 6). -/

open Sys2Proof Sys2Proof.Machine

/-! ### The machine as a whole -/

/-- A step takes the command at the front of the queue, with the queue's rest; on an empty queue the part idles (log 4). -/
def Obligations.StepRunsTheFrontCommand : Prop :=
  (∀ (c : Instr) (rest : List Instr) (s : State),
      step { s with pending := c :: rest } = exec c { s with pending := rest }) ∧
    ∀ s : State, s.pending = [] → step s = .next s

/-- After reset every piece of state stands at its cold-start value over an erased array, the scan complete, and the part
is RUNNING with its backup supply holding and neither input asserted. That reset is a completed cold start, the erased
array, the straps at 0 and the supply are the model's choice (log 1, 2, 3, 13). -/
def Obligations.ResetIsACompletedColdStart : Prop :=
  State.reset.time = ⟨0, false, 0, 0⟩ ∧
    (∀ n, State.reset.body.slot n = ⟨0, none⟩) ∧ State.reset.body.nextSerial = 1 ∧
    (∀ d, State.reset.body.account d = 0 ∧ State.reset.body.attends d = false) ∧
    State.reset.tables.dept 0 = ⟨true, 65536, 0, 2555, false, []⟩ ∧
    (∀ d, d ≠ 0 → State.reset.tables.dept d = ⟨false, 65536, 0, 2555, false, []⟩) ∧
    (∀ i, State.reset.tables.route i = none) ∧ State.reset.tables.floor = 512 ∧
    State.reset.tables.idleTimeout = 3840 ∧
    (∀ n, State.reset.tables.role n = if n = State.reset.tables.recordsNode then .records else .none) ∧
    (∀ k, State.reset.body.session k = ⟨.idle, none, none, []⟩) ∧
    (∀ i, State.reset.body.buffer i = ⟨.free, none, none, none, [], false⟩) ∧
    State.reset.body.ready = [] ∧ State.reset.body.windows = [] ∧ State.reset.body.purges = [] ∧
    (∀ l, State.reset.body.leaf l = ⟨.blank, none, none⟩) ∧
    (∀ k, k < 4 → State.reset.body.bank k = ⟨(List.range 16384).map (fun i => 4 * i + k), [], [], .none⟩) ∧
    (∀ a, Memory.read State.reset.flash.data a = 255#8) ∧
    (∀ l, (State.reset.flash.spareOf l).classOf = .erased) ∧
    State.reset.recovery = ⟨.running, true, true, false, .cold, 65536, 0, 0, 0, 0, 0⟩ ∧
    State.reset.tables.hub = 0 ∧ State.reset.tables.recordsNode = 0 ∧ State.reset.txn = .none ∧ State.reset.sent = none ∧
    State.reset.resetHeld = false ∧ State.reset.pending = []

/-- Every law that the statements below show to be kept by every step holds at reset. -/
def Obligations.LawsHoldAtReset : Prop :=
  State.reset.time.lawful ∧ State.reset.tables.lawful ∧ State.reset.tables.agree ∧ State.reset.recovery.lawful ∧
    State.reset.quietBus ∧ State.reset.serialsLawful ∧ State.reset.body.holdsLawful ∧ State.reset.flash.lawful ∧
    State.reset.chargesLawful ∧ State.reset.storeLawful ∧ State.reset.body.windowsLawful

/-! ### Laws that every step keeps -/

/-- Every step keeps the ranges of the timebase, and an untrusted clock at 0 without hold-back. -/
def Obligations.EveryStepKeepsTheTimebaseLawful : Prop :=
  ∀ s t : State, s.time.lawful → step s = .next t → t.time.lawful

/-- Every step keeps the flash's data areas and spare areas in canonical form. -/
def Obligations.EveryStepKeepsTheFlashCanonical : Prop :=
  ∀ s t : State, s.flash.lawful → step s = .next t → t.flash.lawful

/-- Every step keeps the limits, straps, department records and route entries in range, and intake's fixed values. -/
def Obligations.EveryStepKeepsTheTablesInRange : Prop :=
  ∀ s t : State, s.tables.lawful → step s = .next t → t.tables.lawful

/-- Every step keeps one records node at the strapped number, no line index held twice, at most two nodes in a
department, and each department's node list agreeing with the node table. -/
def Obligations.EveryStepKeepsTheNodeTableAgreeing : Prop :=
  ∀ s t : State, s.tables.agree → step s = .next t → t.tables.agree

/-- Every step keeps the part state, the PFW input, the consistency mark and the backup supply agreeing. That a part whose
backup supply has failed stands without power and without a mark is the model's choice (log 13). -/
def Obligations.EveryStepKeepsPartStateAndMarkAgreeing : Prop :=
  ∀ s t : State, s.recovery.lawful → step s = .next t → t.recovery.lawful

/-- Every step keeps the bus without a transaction while the bus reset input is asserted or main power is off. -/
def Obligations.EveryStepKeepsAQuietBusUnderReset : Prop :=
  ∀ s t : State, s.quietBus → step s = .next t → t.quietBus

/-- Every step keeps the serials lawful: all below the next serial, no two documents with the same. -/
def Obligations.EveryStepKeepsSerialsDistinct : Prop :=
  ∀ s t : State, s.serialsLawful → step s = .next t → t.serialsLawful

/-- Every step keeps every hold list within 4 rising tags of 1..65,535 and every generation within 0..255. -/
def Obligations.EveryStepKeepsHoldsAndGenerationsInRange : Prop :=
  ∀ s t : State, s.body.holdsLawful → step s = .next t → t.body.holdsLawful

/-- Every step keeps charges and accounts: a document's charges and its retained charge sum to its leaf slots, or, while it
is PURGING, the retained charge is its slots not released; each account is the sum of its department's charges; and the
sessions and an APPEND in flight stand over documents that are being received. -/
def Obligations.EveryStepKeepsChargesAndAccountsAgreeing : Prop :=
  ∀ s t : State, s.chargesLawful → step s = .next t → t.chargesLawful

/-- Every step keeps the leaf table, the blank lists, the erase queues, the staging pool and the banks agreeing: each list
holds exactly its leaves once, slot and leaf name each other, and so do leaf and buffer. That the pool is free, its lists
empty and the banks idle in every state while the part is OFF, STARTING or REBUILDING is the model's choice of the moment
(log 12); that while REBUILDING a leaf not yet scanned, or valid, stands in the table as BLANK on no list is its choice too
(log 11). The premises are the laws of charges, of the part state and of the flash. -/
def Obligations.EveryStepKeepsTheLeafStoreAgreeing : Prop :=
  ∀ s t : State, s.chargesLawful → s.recovery.lawful → s.flash.lawful → s.storeLawful → step s = .next t → t.storeLawful

/-- Every step keeps the window list within 24 windows, each that is not marked for discard naming a PROGRAMMED leaf of its
own. The premises are the laws of charges and of the leaf store. -/
def Obligations.EveryStepKeepsTheWindowsDistinct : Prop :=
  ∀ s t : State, s.chargesLawful → s.recovery.lawful → s.storeLawful → s.body.windowsLawful → step s = .next t →
    t.body.windowsLawful

/-- The receipt clock and the run counter never fall, and a trusted clock stays trusted, whatever the command, a cold
start and a failure of the backup supply apart. -/
def Obligations.TheClockNeverFallsBetweenColdStarts : Prop :=
  ∀ (c : Instr) (s t : State), s.time.lawful → exec c s = .next t →
    (∀ hub node, c = .mainPowerReturn hub node → s.recovery.mark = true) → c ≠ .backupSupplyFailure →
    s.time.clock ≤ t.time.clock ∧ s.time.run ≤ t.time.run ∧ (s.time.trusted = true → t.time.trusted = true)

/-! ### What each kind of command leaves alone -/

/-- No command changes the queue, and each part of the state changes at its own commands alone: the bus reset input's
level at its two events; the tables at the requests that set them, a return of main power and a failure of the backup
supply; the timebase at TICK, SET CLOCK and the same two; the flash array at the ends of programs, void marks and erases
and at a loss of main power; the recovery unit at the power and start events. -/
def Obligations.EachPartOfTheStateChangesAtItsOwnCommands : Prop :=
  ∀ (c : Instr) (s t : State), exec c s = .next t →
    t.pending = s.pending ∧
      ((∀ words, c ≠ .busReset words) → c ≠ .busResetWithdrawn → t.resetHeld = s.resetHeld) ∧
      (match c with
        | .setNode .. | .setRoute .. | .clearRoute .. | .setDepartment .. | .setLimits .. | .mainPowerReturn ..
        | .backupSupplyFailure => True
        | _ => t.tables = s.tables) ∧
      (match c with
        | .tick | .setClock .. | .broadcastSetClock .. | .mainPowerReturn .. | .backupSupplyFailure => True
        | _ => t.time = s.time) ∧
      (match c with
        | .programComplete .. | .programFail .. | .voidMarkEnd .. | .eraseEnd .. | .mainPowerLoss .. => True
        | _ => t.flash = s.flash) ∧
      match c with
      | .powerFailWarning | .powerFailWithdrawn | .mainPowerLoss .. | .mainPowerReturn .. | .warmStartComplete
      | .rebuildComplete | .backupSupplyFailure | .headerScanLeafRead => True
      | _ => t.recovery = s.recovery

/-! ### The bus -/

/-- Which role may send which request: line nodes the session requests, department nodes the delivery requests and
RELEASE, the records node the rest and LIST, DESCRIBE and READ, every enrolled node STATUS; an operation that names no
request passes this check. A request whose target is not the hub number, the broadcast target included, is met by
silence, and so is every request while main power is off or the bus reset input is asserted. Of one that is heard, the
first of the four checks that fails gives the answer, and nothing else changes: enrolment, role, form, part state. The
answer of an APPEND waits for the end of its data block. The model's choice are: that requests while the part is off or under
bus reset leave no trace (log 22); that the ill-formed terms, a SET CLOCK spelled with the broadcast target (R172's broadcast
request is the command BROADCAST_SET_CLOCK) and an unknown operation with a code 1..20, meet silence and the checks like the
rest (log 24); the attention that a refused APPEND's answer carries, that of the checks (log 35); and that a READ count
outside 1..256 fails the form check, by R133 (log 37). -/
def Obligations.TheFirstFailingBusCheckAnswers : Prop :=
  (∀ (op : Op) (role : Role), op.permits role = true ↔
    match op with
    | .openCall | .pageBegin | .append | .pageEnd | .closeCall => ∃ i, role = .line i
    | .release => ∃ d, role = .department d
    | .list | .describe | .read => (∃ d, role = .department d) ∨ role = .records
    | .endSession | .forward | .hold | .unhold | .setNode | .setRoute | .clearRoute | .setDepartment | .setLimits
    | .setClock => role = .records
    | .status | .unknown _ => role ≠ .none) ∧
  ∀ (c : Instr) (s : State) (h : Head) (op : Op), requestOf c = some (h, op) → s.txn.held = false →
    (h.target.toNat ≠ s.tables.hub ∨ s.recovery.part = .off ∨ s.resetHeld = true →
      exec c s = .next { s with txn := .none, sent := none }) ∧
    ∀ role : Role, s.recovery.part ≠ .off → s.resetHeld = false → h.target.toNat = s.tables.hub →
      s.tables.role h.sender.toNat = role →
      (role = .none → exec c s = .next (answeredAtBus s role op (.denied .notEnrolled))) ∧
      (role ≠ .none → op.permits role = false → exec c s = .next (answeredAtBus s role op (.denied .notPermitted))) ∧
      (op.permits role = true → ¬ fieldsInRange role c →
        exec c s = .next (answeredAtBus s role op (.denied .malformed))) ∧
      (op.permits role = true → fieldsInRange role c → s.recovery.part ≠ .running → op ≠ .status →
        exec c s = .next (answeredAtBus s role op (.defer .standby)))

/-- A request that names a document by handle: a slot beyond 4,095 is malformed, a free slot NO_DOCUMENT whatever the
generation, another generation STALE_HANDLE, and nothing changes; a handle that agrees meets none of these answers. -/
def Obligations.TheHandleCheckComesFirst : Prop :=
  ∀ (s : State) (h : Head) (role : Role) (slot : BitVec 13) (generation : BitVec 8) (page : BitVec 10)
    (offset : BitVec 18) (count : BitVec 9) (choice : BitVec 2) (department : BitVec 5) (tag : BitVec 16)
    (c : Instr) (op : Op),
    Heard s h role → op.permits role = true → 1 ≤ page.toNat → page.toNat ≤ 999 → 1 ≤ count.toNat → count.toNat ≤ 256 →
    choice.toNat ≤ 1 → department.toNat < 16 → 1 ≤ tag.toNat →
    (c = .describe h slot generation page ∧ op = .describe) ∨
      (c = .read h slot generation page offset count ∧ op = .read) ∨
      (c = .release h slot generation choice ∧ op = .release) ∨
      (c = .forward h slot generation department ∧ op = .forward) ∨
      (c = .hold h slot generation tag ∧ op = .hold) ∨ (c = .unhold h slot generation tag ∧ op = .unhold) →
    let refused := fun (e : Denied) =>
      Host.Outcome.next (φ := Fault) (ρ := Refusal) (State.reply { s with sent := none } role op (.denied e) .none)
    (4096 ≤ slot.toNat → exec c s = refused .malformed) ∧
    (slot.toNat < 4096 → s.body.doc slot.toNat = none → exec c s = refused .noDocument) ∧
    ∀ d, slot.toNat < 4096 → s.body.doc slot.toNat = some d →
      ((s.body.slot slot.toNat).generation ≠ generation.toNat → exec c s = refused .staleHandle) ∧
      ((s.body.slot slot.toNat).generation = generation.toNat → ∃ t m, exec c s = .next t ∧ t.sent = some m ∧
        m.answer.verdict ≠ .denied .malformed ∧ m.answer.verdict ≠ .denied .noDocument ∧
        m.answer.verdict ≠ .denied .staleHandle)

/-- An event that the manual excludes stops with the fault that names it (the model's choice, log 5 and 21): a request or a
broadcast SET CLOCK while an APPEND's data block is awaited; an idle expiry during its session's APPEND, or before the
deadline; the end of a bank operation that is not under way; a start's work outside that start, or past the last leaf; a
return of power or a failure of the backup supply while power is present. -/
def Obligations.ExcludedEventsStop : Prop :=
  (∀ (c : Instr) (s : State) (h : Head) (op : Op), requestOf c = some (h, op) → s.txn.held = true →
      exec c s = .fault .busHeld) ∧
    (∀ (sender : BitVec 6) (v : BitVec 48) (s : State), s.txn.held = true →
      exec (.broadcastSetClock sender v) s = .fault .busHeld) ∧
    (∀ (session : BitVec 5) (s : State) (a : AppendInFlight), s.txn = .appending a → a.session = session.toNat →
      exec (.idleExpiry session) s = .fault .appendInFlight) ∧
    (∀ (session : BitVec 5) (s : State), (∀ a, s.txn = .appending a → a.session ≠ session.toNat) →
      (s.recovery.part ≠ .running ∧ s.recovery.part ≠ .powerFail) ∨ (s.body.session session.toNat).state = .idle ∨
        (∀ t, (s.body.session session.toNat).deadline = some t → s.time.run < t) →
      exec (.idleExpiry session) s = .fault .notDue) ∧
    (∀ (k : BitVec 2) (b : Bool) (s : State),
      ((∀ i l header, (s.body.bank k.toNat).op ≠ .program i l header) →
        exec (.programComplete k) s = .fault .notUnderWay ∧ exec (.programFail k) s = .fault .notUnderWay) ∧
      ((∀ i, (s.body.bank k.toNat).op ≠ .fetch i) → exec (.fetchComplete k) s = .fault .notUnderWay) ∧
      ((∀ l, (s.body.bank k.toNat).op ≠ .voidMark l) → exec (.voidMarkEnd k b) s = .fault .notUnderWay) ∧
      ((∀ l, (s.body.bank k.toNat).op ≠ .erase l) → exec (.eraseEnd k b) s = .fault .notUnderWay)) ∧
    (∀ s : State, s.recovery.part ≠ .starting → exec .warmStartComplete s = .fault .noSuchStart) ∧
    (∀ s : State, s.recovery.part ≠ .rebuilding → exec .rebuildComplete s = .fault .noSuchStart) ∧
    (∀ s : State, s.recovery.part ≠ .rebuilding ∨ 65536 ≤ s.recovery.scanned →
      exec .headerScanLeafRead s = .fault .noSuchStart) ∧
    (∀ (hub : BitVec 2) (node : BitVec 5) (s : State), s.recovery.part ≠ .off →
      exec (.mainPowerReturn hub node) s = .fault .powerPresent ∧
        exec .backupSupplyFailure s = .fault .backupUnused)

/-- The packet of every well-formed request spells the request again: no bit of a field is lost. -/
def Obligations.EveryRequestPacketSpellsItsRequest : Prop :=
  ∀ (i : Instr) (words : List Word), i.wellFormed = true → encodePacket i = some words →
    words.length = 8 ∧ decodePacket words = some i

/-! ### Intake (03_intake_sessions.md, 02_departments_and_routing.md) -/

/-- OPEN CALL that passes its checks is admitted: the lowest free slot, the next serial, the record, the first obligation
list with attention for its departments, and the session ADMITTED with its deadline; nothing else changes. -/
def Obligations.OpenCallAdmitsTheCall : Prop :=
  ∀ (s : State) (h : Head) (i : Nat) (channel : BitVec 3) (extension : BitVec 24) (length : BitVec 5)
    (identity : BitVec 80) (ext caller : Option (List Nat)) (n : Nat),
    Heard s h (.line i) → extensionOf extension = some ext → identityOf length identity = some caller →
    (s.body.session (i * 8 + channel.toNat)).state = .idle → s.body.nextSerial < 4294967296 →
    n < 4096 → s.body.doc n = none → (∀ m < n, s.body.doc m ≠ none) → s.tables.floor ≤ s.body.deviceBlank →
    ∃ (t : State) (lead : Obligation),
      exec (.openCall h channel extension length identity) s = .next t ∧
      (firstList s.tables s.body s.time.run ext).head? = some lead ∧
      t.body.slot n = ⟨(s.body.slot n).generation, some
        { serial := s.body.nextSerial, state := .receiving, ending := none, session := some (i * 8 + channel.toNat),
          extension := ext, caller := caller, openTime := ⟨s.time.clock, s.time.trusted⟩, receipt := none, pages := [],
          obligations := firstList s.tables s.body s.time.run ext, retained := 0, base := .absent, departments := [],
          retainUntil := .absent, holds := [] }⟩ ∧
      t.body.nextSerial = s.body.nextSerial + 1 ∧
      t.body.session (i * 8 + channel.toNat) =
        ⟨.admitted, some n, some (min (s.time.run + s.tables.idleTimeout) 281474976710655), []⟩ ∧
      (∀ d, t.body.attends d =
        (s.body.attends d || (firstList s.tables s.body s.time.run ext).any (fun o => o.department == d))) ∧
      t.sent = some ⟨⟨1, .taken (.openCall lead.department lead.kind (i * 8 + channel.toNat) n
        (s.body.slot n).generation s.body.nextSerial), false⟩, .none, none⟩ ∧ (∀ m, t.sent = some m → t.txn = .sending m) ∧
      (∀ m, m ≠ n → t.body.slot m = s.body.slot m) ∧
      (∀ k, k ≠ i * 8 + channel.toNat → t.body.session k = s.body.session k) ∧
      t.body = { s.body with catalog := t.body.catalog, nextSerial := t.body.nextSerial, sessions := t.body.sessions,
                             attention := t.body.attention } ∧
      t = { s with body := t.body, txn := t.txn, sent := t.sent }

/-- The first obligation list: the lead by route, quota and intake, then the displaced primary; after these the copies, each
of kind COPY, in the order of matching COPY entries by index and then of enabled copy-all departments in ascending number,
no department twice; each obligation PENDING, created now, without deadline, not escalated, charge 0. The primary is a
matching PRIMARY entry of highest specificity, and of these the lowest index; an absent extension matches nothing (R34 to
R38). -/
def Obligations.TheFirstObligationListFollowsRoutesAndQuotas : Prop :=
  (∀ (t : Tables) (b : Body) (run : Nat) (ext : Option (List Nat)),
     let list := firstList t b run ext
     let wanted := (List.range 64).filterMap (fun i => match t.route i with
         | some r => if r.role = .copy ∧ t.matches ext r = true then some r.department else none
         | none => none) ++
       (List.range 16).filter (fun d => (t.dept d).enabled && (t.dept d).copyAll)
     ∃ (lead : List (Nat × ObKind)) (copies : List Nat),
       list.map (fun o => (o.department, o.kind)) = lead ++ copies.map (fun d => (d, ObKind.copy)) ∧
       (t.primary ext = none → lead = [(0, .unrouted)]) ∧
       (t.primary ext = some 0 → lead = [(0, .primary)]) ∧
       (∀ d, t.primary ext = some d → d ≠ 0 → b.account d < (t.dept d).quota → lead = [(d, .primary)]) ∧
       (∀ d, t.primary ext = some d → d ≠ 0 → (t.dept d).quota ≤ b.account d →
         lead = [(0, .overflow), (d, .copy)]) ∧
       (∀ d, d ∈ copies ↔ d ∈ wanted ∧ d ∉ lead.map (fun e => e.1)) ∧
       copies.Pairwise (fun d e => wanted.idxOf d < wanted.idxOf e) ∧
       (list.map (fun o => o.department)).Nodup ∧
       ∀ o ∈ list, o.state = .pending ∧ o.created = run ∧ o.deadline = none ∧ o.escalated = false ∧ o.charge = 0) ∧
  ((∀ (t : Tables) (r : Route), t.matches none r = false) ∧
     (∀ (t : Tables) (ds : List Nat) (r : Route), r.pattern.length = 6 → ds.length = 6 →
       (t.matches (some ds) r = true ↔ (t.dept r.department).enabled = true ∧
         ∀ j, j < 6 → r.pattern.getD j 0 = 14 ∨ r.pattern.getD j 0 = ds.getD j 0)) ∧
     ∀ (t : Tables) (ext : Option (List Nat)) (d : Nat),
       t.primary ext = some d ↔
         ∃ i r, i < 64 ∧ t.route i = some r ∧ r.role = .primary ∧ t.matches ext r = true ∧ r.department = d ∧
           ∀ j q, j < 64 → t.route j = some q → q.role = .primary → t.matches ext q = true →
             q.specificity < r.specificity ∨ (q.specificity = r.specificity ∧ i ≤ j))

/-- A leaf is allocated from the front of the blank list of the bank with the most BLANK leaves, the lowest-numbered of
several; none is found exactly when the device has no BLANK leaf (R84). -/
def Obligations.AllocationTakesTheFullestBank : Prop :=
  ∀ b : Body,
    (b.nextLeaf = none ↔ ∀ k, k < 4 → (b.bank k).blank = []) ∧
    ∀ l, b.nextLeaf = some l → ∃ k, k < 4 ∧ (b.bank k).blank.head? = some l ∧
      ∀ j, j < 4 → (b.bank j).blank.length ≤ (b.bank k).blank.length ∧
        (j < k → (b.bank j).blank.length < (b.bank k).blank.length)

/-- PAGE BEGIN that finds room appends an OPEN page of one placed slot, charged to the lead; the leaf and a FREE buffer
become FILLING, the buffer joins the session's queue, the session goes IN_PAGE; then idle banks choose
(log 19). -/
def Obligations.PageBeginOpensAPage : Prop :=
  ∀ (s : State) (h : Head) (i : Nat) (channel : BitVec 3) (density width coding : BitVec 2) (dens : Density)
    (wid : PageWidth) (n buf leaf : Nat) (d : Document) (lead : Obligation) (rest : List Obligation) (c : Session),
    Heard s h (.line i) → densityOf density.toNat = some dens → widthOf width.toNat = some wid →
    s.body.session (i * 8 + channel.toNat) = c → c.state = .admitted → c.doc = some n → s.body.doc n = some d →
    d.obligations = lead :: rest → d.pages.length < 999 → c.queue.length < 4 → s.body.lowestFreeBuffer = some buf →
    s.body.nextLeaf = some leaf → s.body.pageRecords < 65536 →
    ∃ u : State,
      exec (.pageBegin h channel density width coding) s =
        .next (answered u.arbitrate (.line i) .pageBegin (.pageBegin (d.pages.length + 1))) ∧
      u.body.doc n = some { d with
        pages := d.pages ++ [⟨.openPage, dens, wid, coding.toNat, 0, none, [.placed leaf]⟩],
        obligations := { lead with charge := lead.charge + 1 } :: rest } ∧
      u.body.account lead.department = s.body.account lead.department + 1 ∧
      u.body.leaf leaf = ⟨.filling, some ⟨n, d.pages.length + 1, 0⟩, some buf⟩ ∧
      u.body.buffer buf =
        ⟨.filling, some leaf, some ⟨n, d.pages.length + 1, 0⟩, some (.session (i * 8 + channel.toNat)), [], false⟩ ∧
      u.body.session (i * 8 + channel.toNat) =
        ⟨.inPage, some n, some (min (s.time.run + s.tables.idleTimeout) 281474976710655), c.queue ++ [buf]⟩ ∧
      u.body.bank (leaf % 4) = { s.body.bank (leaf % 4) with blank := (s.body.bank (leaf % 4)).blank.tail } ∧
      (∀ m, m ≠ n → u.body.slot m = s.body.slot m) ∧
      (∀ x, x ≠ lead.department → u.body.account x = s.body.account x) ∧
      (∀ l, l ≠ leaf → u.body.leaf l = s.body.leaf l) ∧ (∀ j, j ≠ buf → u.body.buffer j = s.body.buffer j) ∧
      (∀ k, k ≠ i * 8 + channel.toNat → u.body.session k = s.body.session k) ∧
      (∀ k, k ≠ leaf % 4 → u.body.bank k = s.body.bank k) ∧
      u.body = { s.body with catalog := u.body.catalog, accounts := u.body.accounts, leaves := u.body.leaves,
                             buffers := u.body.buffers, sessions := u.body.sessions, banks := u.body.banks } ∧
      u = { s with body := u.body, sent := none }

/-- An APPEND that fits in the FILLING buffer moves the idle deadline and waits for its data block; one that does not
fit, and finds room, takes a new leaf, buffer and slot at the end of the open page, charged to the lead, and waits. -/
def Obligations.AppendWaitsForItsDataBlock : Prop :=
  ∀ (s : State) (h : Head) (i : Nat) (channel : BitVec 3) (count : BitVec 9) (n tail : Nat) (d : Document)
    (page : Page) (c : Session),
    Heard s h (.line i) → 1 ≤ count.toNat → count.toNat ≤ 256 → s.body.session (i * 8 + channel.toNat) = c →
    c.state = .inPage → c.doc = some n → c.queue.getLast? = some tail → s.body.doc n = some d →
    d.pages.getLast? = some page →
    (count.toNat ≤ 4096 - (s.body.buffer tail).data.length →
      ∃ t : State, exec (.append h channel count) s = .next t ∧
        t.txn = .appending ⟨i * 8 + channel.toNat, count.toNat, 4096 - (s.body.buffer tail).data.length, false⟩ ∧
        t.body.session (i * 8 + channel.toNat) =
          { c with deadline := some (min (s.time.run + s.tables.idleTimeout) 281474976710655) } ∧
        (∀ k, k ≠ i * 8 + channel.toNat → t.body.session k = s.body.session k) ∧
        t.body = { s.body with sessions := t.body.sessions } ∧
        t = { s with body := t.body, txn := t.txn, sent := none }) ∧
    (∀ (lead : Obligation) (rest : List Obligation) (buf leaf : Nat),
      4096 - (s.body.buffer tail).data.length < count.toNat → page.slots.length < 64 → c.queue.length < 4 →
      s.body.lowestFreeBuffer = some buf → s.body.nextLeaf = some leaf → d.obligations = lead :: rest →
      ∃ u : State,
        exec (.append h channel count) s =
          .next { u.arbitrate with
            txn := .appending
              ⟨i * 8 + channel.toNat, count.toNat, 4096 - (s.body.buffer tail).data.length, true⟩ } ∧
        u.body.doc n = some { d with
          pages := d.pages.dropLast ++ [{ page with slots := page.slots ++ [.placed leaf] }],
          obligations := { lead with charge := lead.charge + 1 } :: rest } ∧
        u.body.account lead.department = s.body.account lead.department + 1 ∧
        u.body.leaf leaf = ⟨.filling, some ⟨n, d.pages.length, page.slots.length⟩, some buf⟩ ∧
        u.body.buffer buf = ⟨.filling, some leaf, some ⟨n, d.pages.length, page.slots.length⟩,
          some (.session (i * 8 + channel.toNat)), [], false⟩ ∧
        u.body.session (i * 8 + channel.toNat) =
          { c with deadline := some (min (s.time.run + s.tables.idleTimeout) 281474976710655),
                   queue := c.queue ++ [buf] } ∧
        u.body.bank (leaf % 4) = { s.body.bank (leaf % 4) with blank := (s.body.bank (leaf % 4)).blank.tail } ∧
        (∀ m, m ≠ n → u.body.slot m = s.body.slot m) ∧
        (∀ x, x ≠ lead.department → u.body.account x = s.body.account x) ∧
        (∀ l, l ≠ leaf → u.body.leaf l = s.body.leaf l) ∧ (∀ j, j ≠ buf → u.body.buffer j = s.body.buffer j) ∧
        (∀ k, k ≠ i * 8 + channel.toNat → u.body.session k = s.body.session k) ∧
        (∀ k, k ≠ leaf % 4 → u.body.bank k = s.body.bank k) ∧
        u.body = { s.body with catalog := u.body.catalog, accounts := u.body.accounts, leaves := u.body.leaves,
                               buffers := u.body.buffers, sessions := u.body.sessions, banks := u.body.banks } ∧
        u = { s with body := u.body, sent := none })

/-- The end of an APPEND's data block. Where the APPEND fits, the bytes that arrived join the FILLING buffer and the page's
byte length, and the answer reports them. Where it rolled over and bytes reach the new buffer, the old one is full and READY
at the back of the ready list; where none does, all go into the old buffer, and the reserved slot, leaf and buffer are
returned: the leaf BLANK at the front of its blank list, the buffer FREE, the slot and its charge withdrawn. A block
without an APPEND of this part is another hub's; the block of an APPEND already answered is discarded and the answer
sent. -/
def Obligations.TheDataBlockOfAnAppendIsTaken : Prop :=
  (∀ (s : State) (words : List Word) (a : AppendInFlight) (n tail : Nat) (d : Document) (page : Page) (c : Session),
    s.txn = .appending a → a.rolled = false → s.body.session a.session = c → c.doc = some n →
    c.queue.getLast? = some tail → s.body.doc n = some d →
    d.pages.getLast? = some page →
    ∃ u : State,
      exec (.appendDataBlockEnd words) s =
        .next (u.arbitrate.send ⟨3, .taken (.append (broughtBytes a.count words).length
          (page.byteLength + (broughtBytes a.count words).length)), false⟩ .none) ∧
      u.body.buffer tail =
        { s.body.buffer tail with data := (s.body.buffer tail).data ++ broughtBytes a.count words } ∧
      u.body.doc n = some { d with pages := d.pages.dropLast ++
        [{ page with byteLength := page.byteLength + (broughtBytes a.count words).length }] } ∧
      (∀ j, j ≠ tail → u.body.buffer j = s.body.buffer j) ∧ (∀ m, m ≠ n → u.body.slot m = s.body.slot m) ∧
      u.body = { s.body with catalog := u.body.catalog, buffers := u.body.buffers } ∧
      u = { s with body := u.body, txn := .none }) ∧
  (∀ (s : State) (words : List Word), s.txn = .none ∨ (∃ m, s.txn = .sending m) →
    exec (.appendDataBlockEnd words) s = .next { s with sent := none }) ∧
  (∀ (s : State) (words : List Word) (a : Answer), s.txn = .discarding a →
    exec (.appendDataBlockEnd words) s = .next (s.send a .none)) ∧
  ∀ (s : State) (words : List Word) (a : AppendInFlight) (n old new leaf oldLeaf : Nat) (d : Document) (page : Page)
    (c : Session) (before : List Nat) (lead : Obligation) (rest : List Obligation),
    s.txn = .appending a → a.rolled = true → s.body.session a.session = c → c.doc = some n →
    c.queue = before ++ [old, new] → old ≠ new → new ∉ before → s.body.doc n = some d →
    d.pages.getLast? = some page → d.obligations = lead :: rest →
    (s.body.buffer old).leaf = some oldLeaf → (s.body.buffer new).leaf = some leaf → oldLeaf ≠ leaf →
    (s.body.buffer new).holder = some (.session a.session) → (s.body.buffer new).data = [] →
    (s.body.buffer old).holder = some (.session a.session) → new ∉ s.body.ready → new ∉ s.body.windows →
    let bytes := broughtBytes a.count words
    let answer : Answer := ⟨3, .taken (.append bytes.length (page.byteLength + bytes.length)), false⟩
    (a.room < bytes.length →
      ∃ u : State,
        exec (.appendDataBlockEnd words) s = .next (u.arbitrate.send answer .none) ∧
        u.body.buffer old = { s.body.buffer old with
          state := .ready, data := (s.body.buffer old).data ++ bytes.take a.room } ∧
        u.body.buffer new = { s.body.buffer new with data := bytes.drop a.room } ∧
        u.body.leaf oldLeaf = { s.body.leaf oldLeaf with state := .ready } ∧ u.body.ready = s.body.ready ++ [old] ∧
        u.body.doc n = some { d with pages := d.pages.dropLast ++
          [{ page with byteLength := page.byteLength + bytes.length }] } ∧
        (∀ j, j ≠ old → j ≠ new → u.body.buffer j = s.body.buffer j) ∧
        (∀ l, l ≠ oldLeaf → u.body.leaf l = s.body.leaf l) ∧ (∀ m, m ≠ n → u.body.slot m = s.body.slot m) ∧
        u.body = { s.body with catalog := u.body.catalog, buffers := u.body.buffers, leaves := u.body.leaves,
                               ready := u.body.ready } ∧
        u = { s with body := u.body, txn := .none }) ∧
    (bytes.length ≤ a.room →
      ∃ u : State,
        exec (.appendDataBlockEnd words) s = .next (u.arbitrate.send answer .none) ∧
        u.body.buffer old = { s.body.buffer old with data := (s.body.buffer old).data ++ bytes } ∧
        u.body.buffer new = ⟨.free, none, none, none, [], false⟩ ∧
        u.body.leaf leaf = ⟨.blank, none, none⟩ ∧
        u.body.bank (leaf % 4) = { s.body.bank (leaf % 4) with blank := leaf :: (s.body.bank (leaf % 4)).blank } ∧
        u.body.doc n = some { d with
          pages := d.pages.dropLast ++
            [{ page with byteLength := page.byteLength + bytes.length, slots := page.slots.dropLast }],
          obligations := { lead with charge := lead.charge - 1 } :: rest } ∧
        u.body.account lead.department = s.body.account lead.department - 1 ∧
        u.body.session a.session = { c with queue := before ++ [old] } ∧
        (∀ k, k ≠ a.session → u.body.session k = s.body.session k) ∧
        (∀ k, k ≠ leaf % 4 → u.body.bank k = s.body.bank k) ∧
        (∀ j, j ≠ old → j ≠ new → u.body.buffer j = s.body.buffer j) ∧
        (∀ l, l ≠ leaf → u.body.leaf l = s.body.leaf l) ∧ (∀ m, m ≠ n → u.body.slot m = s.body.slot m) ∧
        (∀ x, x ≠ lead.department → u.body.account x = s.body.account x) ∧
        u.body = { s.body with catalog := u.body.catalog, accounts := u.body.accounts, leaves := u.body.leaves,
                               buffers := u.body.buffers, sessions := u.body.sessions, banks := u.body.banks } ∧
        u = { s with body := u.body, txn := .none })

/-- PAGE END of a session IN_PAGE: the page CLOSED with its counts, its FILLING buffer READY at the back of the ready
list with its leaf, the session ADMITTED; the answer reports page number and byte length; then idle banks choose
(log 19). -/
def Obligations.PageEndClosesThePage : Prop :=
  ∀ (s : State) (h : Head) (i : Nat) (channel : BitVec 3) (scanlines badLines : BitVec 16) (n tail leaf : Nat)
    (d : Document) (page : Page) (c : Session),
    Heard s h (.line i) → s.body.session (i * 8 + channel.toNat) = c → c.state = .inPage → c.doc = some n →
    c.queue.getLast? = some tail → s.body.doc n = some d → d.pages.getLast? = some page →
    (s.body.buffer tail).leaf = some leaf →
    ∃ u : State,
      exec (.pageEnd h channel scanlines badLines) s =
        .next (answered u.arbitrate (.line i) .pageEnd (.pageEnd d.pages.length page.byteLength)) ∧
      u.body.doc n = some { d with pages := d.pages.dropLast ++
        [{ page with state := .closed, counts := some (scanlines.toNat, badLines.toNat) }] } ∧
      u.body.buffer tail = { s.body.buffer tail with state := .ready } ∧
      u.body.leaf leaf = { s.body.leaf leaf with state := .ready } ∧ u.body.ready = s.body.ready ++ [tail] ∧
      u.body.session (i * 8 + channel.toNat) =
        { c with state := .admitted,
                 deadline := some (min (s.time.run + s.tables.idleTimeout) 281474976710655) } ∧
      (∀ m, m ≠ n → u.body.slot m = s.body.slot m) ∧ (∀ l, l ≠ leaf → u.body.leaf l = s.body.leaf l) ∧
      (∀ j, j ≠ tail → u.body.buffer j = s.body.buffer j) ∧
      (∀ k, k ≠ i * 8 + channel.toNat → u.body.session k = s.body.session k) ∧
      u.body = { s.body with catalog := u.body.catalog, leaves := u.body.leaves, buffers := u.body.buffers,
                             ready := u.body.ready, sessions := u.body.sessions } ∧
      u = { s with body := u.body, sent := none }

/-- CLOSE CALL, END SESSION and an idle expiry close an open session by the one close procedure, with the ending of the
cause (STORE_FULL for a CLOSE CALL in STOPPED, FORCED, TIMEOUT); then idle banks choose (log 19). That an
idle expiry may come at any time after the deadline is the model's choice (log 4). -/
def Obligations.ClosingCommandsCloseTheSession : Prop :=
  ∀ (s : State) (k n : Nat) (d : Document) (c : Session),
    s.body.session k = c → c.state ≠ .idle → c.doc = some n → s.body.doc n = some d →
    (c.state = .inPage → c.queue ≠ []) →
    (∀ (h : Head) (i : Nat) (channel : BitVec 3) (ending : BitVec 2) (e : Ending), Heard s h (.line i) →
      k = i * 8 + channel.toNat → closeEndingOf ending.toNat = some e →
      ∃ u : State, exec (.closeCall h channel ending) s =
          .next (answered u.arbitrate (.line i) .closeCall .plain) ∧
        Closed s.tables s.time s.body u.body k n d c (if c.state = .stopped then .storeFull else e) ∧
        u = { s with body := u.body, sent := none }) ∧
    (∀ (h : Head) (session : BitVec 6), Heard s h .records → k = session.toNat → k < 32 →
      ∃ u : State, exec (.endSession h session) s = .next (answered u.arbitrate .records .endSession .plain) ∧
        Closed s.tables s.time s.body u.body k n d c .forced ∧ u = { s with body := u.body, sent := none }) ∧
    (∀ (session : BitVec 5) (deadline : Nat), k = session.toNat → c.deadline = some deadline →
      deadline ≤ s.time.run → s.recovery.part = .running ∨ s.recovery.part = .powerFail →
      (∀ a, s.txn = .appending a → a.session ≠ k) →
      ∃ u : State, exec (.idleExpiry session) s = .next u.arbitrate ∧
        Closed s.tables s.time s.body u.body k n d c .timeout ∧ u = { s with body := u.body, sent := none })

/-- A session request that is turned away moves the deadline of a session that is not IDLE and gets the answer of its rule.
OPEN CALL: CHANNEL_BUSY, SERIAL_EXHAUSTED, CATALOG_FULL, STORE_LOW. PAGE BEGIN: by the session's state, then
TOO_MANY_PAGES, RING_FULL, STAGING_FULL, STORE_BUSY, and STORE_FULL, which makes the session STOPPED. APPEND, whose answer
waits until its data block has been discarded: by the session's state, PAGE_TOO_LONG and STORE_FULL with the page CUT, its
buffer and leaf READY and the session ADMITTED or STOPPED, and the deferrals. PAGE END, CLOSE CALL and END SESSION: by the
session's state. Nothing else changes. -/
def Obligations.SessionRequestsTurnedAwayGetTheirAnswer : Prop :=
  (∀ (s : State) (h : Head) (i : Nat) (channel : BitVec 3) (c : Session),
    Heard s h (.line i) → s.body.session (i * 8 + channel.toNat) = c →
    let k := i * 8 + channel.toNat
    let deadline := some (min (s.time.run + s.tables.idleTimeout) 281474976710655)
    let as : SessState → State := fun st => { s with
      sent := none,
      body := if c.state = .idle then s.body else s.body.setSession k { c with state := st, deadline := deadline } }
    let answer := fun (op : Op) (v : Verdict) (st : SessState) =>
      Host.Outcome.next (φ := Fault) (ρ := Refusal) ((as st).reply (.line i) op v .none)
    let denied := fun (op : Op) (r : Denied) => answer op (.denied r) c.state
    let noBuffer := ∀ j, j < 144 → (s.body.buffer j).state ≠ .free
    let noLeaf := ∀ j, j < 4 → (s.body.bank j).blank = []
    let onItsWay := ∃ l, (s.body.leaf l).state = .void ∨ (s.body.leaf l).state = .voiding ∨
      (s.body.leaf l).state = .erasing
    (∀ e l v, (extensionOf e).isSome = true → (identityOf l v).isSome = true →
      let call := exec (.openCall h channel e l v) s
      let full := ∀ n, n < 4096 → s.body.doc n ≠ none
      (c.state ≠ .idle → call = denied .openCall .channelBusy) ∧
      (c.state = .idle → 4294967296 ≤ s.body.nextSerial → call = denied .openCall .serialExhausted) ∧
      (c.state = .idle → s.body.nextSerial < 4294967296 → full →
        call = answer .openCall (.defer .catalogFull) c.state) ∧
      (c.state = .idle → s.body.nextSerial < 4294967296 → ¬ full → s.body.deviceBlank < s.tables.floor →
        call = answer .openCall (.defer .storeLow) c.state)) ∧
    (∀ d w x, d.toNat ≤ 2 → w.toNat ≤ 2 →
      let begins := exec (.pageBegin h channel d w x) s
      (c.state = .idle → begins = denied .pageBegin .noSession) ∧
      (c.state = .inPage → begins = denied .pageBegin .pageOpen) ∧
      (c.state = .stopped → begins = denied .pageBegin .storeFull) ∧
      ∀ n f, c.state = .admitted → c.doc = some n → s.body.doc n = some f →
        (999 ≤ f.pages.length → begins = denied .pageBegin .tooManyPages) ∧
        (f.pages.length < 999 → 4 ≤ c.queue.length → begins = answer .pageBegin (.defer .ringFull) c.state) ∧
        (f.pages.length < 999 → c.queue.length < 4 →
          (noBuffer → begins = answer .pageBegin (.defer .stagingFull) c.state) ∧
          (¬ noBuffer → noLeaf → Table.wf Leaf.blank s.body.leaves →
            (onItsWay → begins = answer .pageBegin (.defer .storeBusy) c.state) ∧
            (¬ onItsWay → begins = answer .pageBegin (.denied .storeFull) .stopped)) ∧
          (¬ noBuffer → ¬ noLeaf → 65536 ≤ s.body.pageRecords →
            begins = answer .pageBegin (.defer .storeBusy) c.state))) ∧
    (∀ count, 1 ≤ count.toNat → count.toNat ≤ 256 →
      let appends := exec (.append h channel count) s
      let away := fun (v : Verdict) =>
        Host.Outcome.next (φ := Fault) (ρ := Refusal) ((as c.state).discard (.line i) v)
      (c.state = .idle → appends = away (.denied .noSession)) ∧
      (c.state = .admitted → appends = away (.denied .pageNotOpen)) ∧
      (c.state = .stopped → appends = away (.denied .storeFull)) ∧
      ∀ n f page tail leaf, c.state = .inPage → c.doc = some n → s.body.doc n = some f →
        f.pages.getLast? = some page → c.queue.getLast? = some tail → (s.body.buffer tail).leaf = some leaf →
        4096 - (s.body.buffer tail).data.length < count.toNat →
        let cut := fun (v : Verdict) (st : SessState) => ∃ u : State,
          appends = .next (u.arbitrate.discard (.line i) v) ∧
          u.body.doc n = some { f with pages := f.pages.dropLast ++ [if page.state = .openPage
            then { page with state := .cut, counts := none } else page] } ∧
          u.body.buffer tail = { s.body.buffer tail with state := .ready } ∧
          u.body.leaf leaf = { s.body.leaf leaf with state := .ready } ∧ u.body.ready = s.body.ready ++ [tail] ∧
          u.body.session k = { c with state := st, deadline := deadline } ∧
          (∀ m, m ≠ n → u.body.slot m = s.body.slot m) ∧ (∀ l, l ≠ leaf → u.body.leaf l = s.body.leaf l) ∧
          (∀ j, j ≠ tail → u.body.buffer j = s.body.buffer j) ∧
          (∀ j, j ≠ k → u.body.session j = s.body.session j) ∧
          u.body = { s.body with catalog := u.body.catalog, leaves := u.body.leaves, buffers := u.body.buffers,
                                 ready := u.body.ready, sessions := u.body.sessions } ∧
          u = { s with body := u.body, txn := .none, sent := none }
        (64 ≤ page.slots.length → cut (.denied .pageTooLong) .admitted) ∧
        (page.slots.length < 64 → 4 ≤ c.queue.length → appends = away (.defer .ringFull)) ∧
        (page.slots.length < 64 → c.queue.length < 4 →
          (noBuffer → appends = away (.defer .stagingFull)) ∧
          (¬ noBuffer → noLeaf → Table.wf Leaf.blank s.body.leaves →
            (onItsWay → appends = away (.defer .storeBusy)) ∧ (¬ onItsWay → cut (.denied .storeFull) .stopped)))) ∧
    (∀ x y,
      (c.state = .idle → exec (.pageEnd h channel x y) s = denied .pageEnd .noSession) ∧
      (c.state = .admitted → exec (.pageEnd h channel x y) s = denied .pageEnd .pageNotOpen) ∧
      (c.state = .stopped → exec (.pageEnd h channel x y) s = denied .pageEnd .storeFull)) ∧
    ∀ e, e.toNat ≤ 2 → c.state = .idle → exec (.closeCall h channel e) s = denied .closeCall .noSession) ∧
  ∀ (s : State) (h : Head) (session : BitVec 6), Heard s h .records → session.toNat < 32 →
    (s.body.session session.toNat).state = .idle →
    exec (.endSession h session) s =
      .next (State.reply { s with sent := none } .records .endSession (.denied .noSession) .none)

/-- The leaf count shared among a document's obligations: the quotient to each, one more to each of the first
remainder of them, and the shares sum to the leaf count; nothing else of an obligation changes (R109). -/
def Obligations.ApportionmentSharesTheLeafCount : Prop :=
  ∀ d : Document, d.obligations ≠ [] →
    let k := d.obligations.length
    d.apportioned.map (fun o => o.charge) =
        (List.range k).map (fun j => d.leafCount / k + if j < d.leafCount % k then 1 else 0) ∧
      (d.apportioned.map (fun o => o.charge)).sum = d.leafCount ∧
      d.apportioned.map (fun o => { o with charge := 0 }) = d.obligations.map (fun o => { o with charge := 0 })

/-! ### Delivery (07_delivery_to_departments.md) -/

/-- LIST reports the documents of the department with a serial above the after-serial, at most eight, in ascending
serial order, and whether more qualify, each with its handle, serial, the department's obligation, its state, page count
and receipt time (R129); a department node's LIST from 0 clears its attention, and nothing else changes.
DESCRIBE by a department that holds an obligation, or by the records node while the document is not PURGING, reports the
record, its obligations and up to 12 page summaries, and changes nothing. -/
def Obligations.ListAndDescribeReportTheDocuments : Prop :=
  (∀ (s : State) (h : Head) (role : Role) (after : BitVec 32) (department : BitVec 5) (dept : Nat),
    Heard s h role → (role = .department dept ∨ (role = .records ∧ dept = department.toNat ∧ dept < 16)) →
    ∃ (t : State) (found : List (Nat × Document)) (entries : List ListEntry),
      exec (.list h after department) s = .next t ∧
      found.Perm (s.body.documents.filter (fun e => e.2.obliges dept && after.toNat < e.2.serial)) ∧
      found.Pairwise (fun x y => x.2.serial ≤ y.2.serial) ∧
      t.sent.map (fun m => m.answer.verdict) =
        some (.taken (.list (min 8 found.length) (decide (8 < found.length)))) ∧
      t.sent.map (fun m => m.block) = some (if found = [] then .none else .entries entries) ∧
      entries.length = min 8 found.length ∧
      (∀ j n d o, j < 8 → found[j]? = some (n, d) → d.obligations.find? (fun q => q.department == dept) = some o →
        entries[j]? = some ⟨n, (s.body.slot n).generation, d.serial, o.kind, o.state, d.state,
          decide (d.state = .receiving), d.pages.length, d.receipt⟩) ∧
      (∀ x, t.body.attends x = if x = dept ∧ after.toNat = 0 ∧ role = .department dept then false
        else s.body.attends x) ∧
      t.sent.map (fun m => m.answer.attention) =
        some (decide (role = .department dept) && decide (after.toNat ≠ 0) && s.body.attends dept) ∧
      t.body = { s.body with attention := t.body.attention } ∧ (∃ m, t.sent = some m ∧ m.cut = none ∧ t.txn = .sending m) ∧
      t = { s with body := t.body, txn := t.txn, sent := t.sent }) ∧
  ∀ (s : State) (h : Head) (role : Role) (slot : BitVec 13) (generation : BitVec 8) (first : BitVec 10) (d : Document),
    Heard s h role → Names s.body slot generation d → 1 ≤ first.toNat → first.toNat ≤ 999 →
    ((∃ x, role = .department x ∧ d.obliges x = true) ∨ (role = .records ∧ d.state ≠ .purging)) →
    ∃ r : Description,
      exec (.describe h slot generation first) s =
        .next (answered { s with sent := none } role .describe .plain (.description r)) ∧
      r.slot = slot.toNat ∧ r.generation = generation.toNat ∧ r.serial = d.serial ∧ r.state = d.state ∧
      r.ending = d.ending ∧ r.session = d.session ∧ r.extension = d.extension ∧ r.caller = d.caller ∧
      r.openTime = d.openTime ∧ r.receipt = d.receipt ∧ r.retainUntil = d.retainUntil ∧ r.run = s.time.run ∧
      r.pageCount = d.pages.length ∧ r.leafCount = d.leafCount ∧ r.retained = d.retained ∧ r.holds = d.holds ∧
      r.obligations = d.obligations.map
        (fun o => ⟨o.department, o.kind, o.state, o.escalated, o.deadline, o.charge⟩) ∧
      r.pages.length = min 12 (d.pages.length + 1 - first.toNat) ∧
      ∀ j p, j < 12 → d.pages[first.toNat - 1 + j]? = some p →
        r.pages[j]? = some ⟨first.toNat + j, p.state, p.density, p.width, p.coding, p.byteLength, p.counts⟩

/-- DESCRIBE and READ are refused to a department without an obligation on the document, and to the records node while
it is PURGING; a READ of a page or an offset that does not exist is deferred while the page may still come, and refused
otherwise. RELEASE, FORWARD, HOLD and UNHOLD are refused by their own checks in their order. Nothing changes. -/
def Obligations.RefusedDocumentRequestsChangeNothing : Prop :=
  (∀ (s : State) (h : Head) (role : Role) (slot : BitVec 13) (generation : BitVec 8) (page : BitVec 10)
     (offset : BitVec 18) (count : BitVec 9) (d : Document),
     Heard s h role → Names s.body slot generation d → 1 ≤ page.toNat → page.toNat ≤ 999 → 1 ≤ count.toNat →
     count.toNat ≤ 256 →
     let answer := fun (op : Op) (v : Verdict) =>
       Host.Outcome.next (φ := Fault) (ρ := Refusal) (State.reply { s with sent := none } role op v .none)
     let both := fun (r : Denied) => exec (.describe h slot generation page) s = answer .describe (.denied r) ∧
       exec (.read h slot generation page offset count) s = answer .read (.denied r)
     (∀ x, role = .department x → d.obliges x = false → both .notObliged) ∧
     (role = .records → d.state = .purging → both .purging) ∧
     ((∃ x, role = .department x ∧ d.obliges x = true) ∨ (role = .records ∧ d.state ≠ .purging) →
       (d.pages[page.toNat - 1]? = none → exec (.read h slot generation page offset count) s =
         answer .read (if d.state = .receiving then .defer .notYet else .denied .range)) ∧
       ∀ p, d.pages[page.toNat - 1]? = some p → p.byteLength ≤ offset.toNat →
         exec (.read h slot generation page offset count) s =
           answer .read (if p.state = .openPage then .defer .notYet else .denied .range))) ∧
  (∀ (s : State) (h : Head) (role : Role) (slot : BitVec 13) (generation : BitVec 8) (choice : BitVec 2)
     (department : BitVec 5) (tag : BitVec 16) (d : Document),
     Heard s h role → Names s.body slot generation d → choice.toNat ≤ 1 → department.toNat < 16 → 1 ≤ tag.toNat →
     let refused := fun (op : Op) (e : Denied) =>
       Host.Outcome.next (φ := Fault) (ρ := Refusal) (State.reply { s with sent := none } role op (.denied e) .none)
     let records := fun (e : Denied) => role = .records →
       exec (.forward h slot generation department) s = refused .forward e ∧
       exec (.hold h slot generation tag) s = refused .hold e ∧
       exec (.unhold h slot generation tag) s = refused .unhold e
     let released := fun (e : Denied) => exec (.release h slot generation choice) s = refused .release e
     (∀ x, role = .department x →
       (d.state = .receiving → released .stillReceiving) ∧
       (d.state ≠ .receiving → d.obliges x = false → released .notObliged) ∧
       (d.state ≠ .receiving → d.obliges x = true → x = 0 → choice.toNat = 1 → released .intakeCannotDecline)) ∧
     (d.state = .purging → records .purging) ∧
     (d.state ≠ .purging → role = .records →
       ((s.tables.dept department.toNat).enabled = false →
         exec (.forward h slot generation department) s = refused .forward .departmentDisabled) ∧
       ((s.tables.dept department.toNat).enabled = true → d.obliges department.toNat = true →
         exec (.forward h slot generation department) s = refused .forward .alreadyObliged) ∧
       (tag.toNat ∉ d.holds → 4 ≤ d.holds.length →
         exec (.hold h slot generation tag) s = refused .hold .holdFull) ∧
       (tag.toNat ∉ d.holds → exec (.unhold h slot generation tag) s = refused .unhold .holdAbsent)))

/-- A READ within the page is served from the buffer behind its leaf slot, placed or unplaced, or from the leaf's WINDOW,
which moves to the most-recent end; the bytes are those from the offset, clamped to the count, the leaf and the page; a
department's obligation becomes OPENED. -/
def Obligations.ReadTransfersTheBytesOfThePage : Prop :=
  ∀ (s : State) (h : Head) (role : Role) (slot : BitVec 13) (generation : BitVec 8) (page : BitVec 10)
    (offset : BitVec 18) (count : BitVec 9) (d : Document) (p : Page) (buf : Nat),
    Heard s h role → Names s.body slot generation d → 1 ≤ page.toNat → page.toNat ≤ 999 →
    1 ≤ count.toNat → count.toNat ≤ 256 →
    ((∃ x, role = .department x ∧ d.obliges x = true) ∨ (role = .records ∧ d.state ≠ .purging)) →
    d.pages[page.toNat - 1]? = some p → offset.toNat < p.byteLength →
    let index := offset.toNat / 4096
    let live := (∃ leaf, p.slots[index]? = some (.placed leaf) ∧ (s.body.leaf leaf).buffer = some buf) ∨
      (p.slots[index]? = some .unplaced ∧ s.body.ready.find? (fun j =>
        (s.body.buffer j).place == some ⟨slot.toNat, page.toNat, index⟩ && (s.body.buffer j).leaf == none) = some buf)
    let hit := ∃ leaf, p.slots[index]? = some (.placed leaf) ∧ (s.body.leaf leaf).buffer = none ∧
      s.body.windowOf leaf = some buf ∧ (s.body.buffer buf).state = .window
    live ∨ hit →
    let size := min (min count.toNat (4096 - offset.toNat % 4096)) (p.byteLength - offset.toNat)
    ∃ t : State,
      exec (.read h slot generation page offset count) s =
        .next (answered t role .read (.read size)
          (.bytes (((s.body.buffer buf).data.drop (offset.toNat % 4096)).take size))) ∧
      t.body.doc slot.toNat = some { d with obligations := d.obligations.map (fun o =>
        if role = .department o.department then { o with state := .opened } else o) } ∧
      (∀ m, m ≠ slot.toNat → t.body.slot m = s.body.slot m) ∧
      (live → t.body.windows = s.body.windows) ∧
      (hit → t.body.windows = s.body.windows.filter (fun j => j ≠ buf) ++ [buf]) ∧
      t.body = { s.body with catalog := t.body.catalog, windows := t.body.windows } ∧
      t = { s with body := t.body, sent := none }

/-- A READ of a leaf whose window is still FETCHING is deferred, and nothing changes; so is one of a PROGRAMMED leaf that no
window names. Within the window limit and the intake reserve that one takes the lowest FREE buffer, else the least recently
used WINDOW, for a fetch at the back of the leaf's bank's queue; where there is neither, WINDOWS_BUSY and nothing changes
(R75, R138). -/
def Obligations.AReadThatMissesObtainsAWindow : Prop :=
  ∀ (s : State) (h : Head) (role : Role) (slot : BitVec 13) (generation : BitVec 8) (page : BitVec 10)
    (offset : BitVec 18) (count : BitVec 9) (d : Document) (p : Page) (leaf : Nat),
    Heard s h role → Names s.body slot generation d → 1 ≤ page.toNat → page.toNat ≤ 999 →
    1 ≤ count.toNat → count.toNat ≤ 256 →
    ((∃ x, role = .department x ∧ d.obliges x = true) ∨ (role = .records ∧ d.state ≠ .purging)) →
    d.pages[page.toNat - 1]? = some p → offset.toNat < p.byteLength →
    p.slots[offset.toNat / 4096]? = some (.placed leaf) → (s.body.leaf leaf).buffer = none →
    let reads := exec (.read h slot generation page offset count) s
    let room := s.body.windows.length < 24 ∧ 16 < s.body.freeBuffers
    let old := s.body.windows.find? (fun i => (s.body.buffer i).state = .window)
    (∀ buf, s.body.windowOf leaf = some buf → (s.body.buffer buf).state ≠ .window →
      reads = .next (State.reply { s with sent := none } role .read (.defer .fetching) .none)) ∧
    (∀ buf, s.body.windowOf leaf = none → (room ∧ s.body.lowestFreeBuffer = some buf) ∨ (¬ room ∧ old = some buf) →
      ∃ u : State,
        reads = .next (State.reply u.arbitrate role .read (.defer .fetching) .none) ∧
        u.body.buffer buf = ⟨.fetching, some leaf, none, some .delivery, [], false⟩ ∧
        u.body.windows = s.body.windows.filter (fun j => j ≠ buf) ++ [buf] ∧
        u.body.bank (leaf % 4) =
          { s.body.bank (leaf % 4) with fetchQueue := (s.body.bank (leaf % 4)).fetchQueue ++ [buf] } ∧
        (∀ j, j ≠ buf → u.body.buffer j = s.body.buffer j) ∧ (∀ k, k ≠ leaf % 4 → u.body.bank k = s.body.bank k) ∧
        u.body = { s.body with buffers := u.body.buffers, windows := u.body.windows, banks := u.body.banks } ∧
        u = { s with body := u.body, sent := none }) ∧
    (s.body.windowOf leaf = none → ¬ room → old = none →
      reads = .next (State.reply { s with sent := none } role .read (.defer .windowsBusy) .none))

/-! ### Obligations, holds and retention (06_obligations_and_charges.md, 08_retention_holds_and_purge.md) -/

/-- ACCEPT: the charge goes to the retained charge, the account falls, the obligation goes, an emptied list makes the
document RETAINED, and a purge that is due then starts in the same change; that the answer then still reports RETAINED
is the model's reading (log 14). DECLINE by a department other than intake: the charge goes to intake's obligation, or to a
REROUTED one created at the end of the list; the declining obligation goes; intake's attention becomes yes. -/
def Obligations.ReleaseMovesTheCharge : Prop :=
  (∀ (s : State) (h : Head) (x : Nat) (slot : BitVec 13) (generation : BitVec 8) (choice : BitVec 2) (d : Document)
    (o : Obligation),
    Heard s h (.department x) → Names s.body slot generation d → choice.toNat = 0 → d.state ≠ .receiving →
    d.obligation x = some o →
    ∃ (u : State) (b : Body) (f : Document),
      exec (.release h slot generation choice) s = .next (answered u.arbitrate (.department x) .release
        (.release f.state (s.body.account x - o.charge))) ∧
      b.doc slot.toNat = some f ∧
      f = { d with obligations := d.obligations.filter (fun q => q.department != x), retained := d.retained + o.charge,
                   state := f.state } ∧
      f.state = (if f.obligations = [] then .retained else d.state) ∧
      b.account x = s.body.account x - o.charge ∧ (∀ y, y ≠ x → b.account y = s.body.account y) ∧
      (∀ m, m ≠ slot.toNat → b.slot m = s.body.slot m) ∧
      b = { s.body with catalog := b.catalog, accounts := b.accounts } ∧
      (¬ dueForPurge f s.time.clock → u.body = b) ∧
      (dueForPurge f s.time.clock → PurgeStarted b u.body slot.toNat f) ∧ u = { s with body := u.body, sent := none }) ∧
  ∀ (s : State) (h : Head) (x : Nat) (slot : BitVec 13) (generation : BitVec 8) (choice : BitVec 2) (d : Document)
    (o : Obligation),
    Heard s h (.department x) → Names s.body slot generation d → choice.toNat = 1 → d.state ≠ .receiving → x ≠ 0 →
    d.obligation x = some o →
    ∃ (u : State) (f : Document),
      exec (.release h slot generation choice) s = .next (answered u (.department x) .release
        (.release d.state (s.body.account x - o.charge))) ∧
      u.body.doc slot.toNat = some f ∧
      f = { d with obligations := f.obligations, departments := f.departments, retainUntil := f.retainUntil } ∧
      (d.obliges 0 = true → f.departments = d.departments ∧ f.retainUntil = d.retainUntil ∧
        f.obligations = (d.obligations.filter (fun q => q.department != x)).map
          (fun q => if q.department = 0 then { q with charge := q.charge + o.charge } else q)) ∧
      (d.obliges 0 = false → (∀ y, y ∈ f.departments ↔ y = 0 ∨ y ∈ d.departments) ∧
        f.retainUntil = raisedUntil s.tables d 0 ∧
        f.obligations = d.obligations.filter (fun q => q.department != x) ++
          [⟨0, .rerouted, .pending, s.time.run, none, false, o.charge⟩]) ∧
      u.body.account 0 = s.body.account 0 + o.charge ∧ u.body.account x = s.body.account x - o.charge ∧
      (∀ y, y ≠ 0 → y ≠ x → u.body.account y = s.body.account y) ∧ u.body.attends 0 = true ∧
      (∀ y, y ≠ 0 → u.body.attends y = s.body.attends y) ∧
      (∀ m, m ≠ slot.toNat → u.body.slot m = s.body.slot m) ∧
      u.body = { s.body with catalog := u.body.catalog, accounts := u.body.accounts, attention := u.body.attention } ∧
      u = { s with body := u.body, sent := none }

/-- FORWARD appends a FORWARDED obligation: charge 0, or the whole retained charge of a RETAINED document, which goes
back to DISTRIBUTING; its deadline and retention as the document's state says; attention yes. -/
def Obligations.ForwardAddsAnObligation : Prop :=
  ∀ (s : State) (h : Head) (slot : BitVec 13) (generation : BitVec 8) (department : BitVec 5) (d : Document) (x : Nat),
    Heard s h .records → Names s.body slot generation d → department.toNat = x → x < 16 →
    (s.tables.dept x).enabled = true → d.obliges x = false → d.state ≠ .purging →
    let charge := if d.state = .retained then d.retained else 0
    let deadline := if d.state = .receiving ∨ x = 0 ∨ (s.tables.dept x).escalation = 0 then none
      else some (min (s.time.run + (s.tables.dept x).escalation * 3840) 281474976710655)
    ∃ (u : State) (f : Document),
      exec (.forward h slot generation department) s =
        .next (answered u .records .forward (.forward charge f.state)) ∧
      u.body.doc slot.toNat = some f ∧
      f = { d with
        obligations := d.obligations ++ [⟨x, .forwarded, .pending, s.time.run, deadline, false, charge⟩],
        retained := d.retained - charge, state := if d.state = .receiving then .receiving else .distributing,
        departments := f.departments,
        retainUntil := if d.state = .receiving then d.retainUntil else raisedUntil s.tables d x } ∧
      (∀ y, y ∈ f.departments ↔ (y = x ∧ d.state ≠ .receiving) ∨ y ∈ d.departments) ∧
      u.body.account x = s.body.account x + charge ∧ (∀ y, y ≠ x → u.body.account y = s.body.account y) ∧
      u.body.attends x = true ∧ (∀ y, y ≠ x → u.body.attends y = s.body.attends y) ∧
      (∀ m, m ≠ slot.toNat → u.body.slot m = s.body.slot m) ∧
      u.body = { s.body with catalog := u.body.catalog, accounts := u.body.accounts, attention := u.body.attention } ∧
      u = { s with body := u.body, sent := none }

/-- HOLD adds a tag to a hold list of fewer than 4, and a tag already present changes nothing; UNHOLD takes a tag away,
and a purge that is due then starts in the same change. -/
def Obligations.HoldsAreAddedAndLifted : Prop :=
  ∀ (s : State) (h : Head) (slot : BitVec 13) (generation : BitVec 8) (tag : BitVec 16) (d : Document),
    Heard s h .records → Names s.body slot generation d → 1 ≤ tag.toNat → d.state ≠ .purging →
    (tag.toNat ∈ d.holds →
      exec (.hold h slot generation tag) s =
        .next (answered { s with sent := none } .records .hold (.hold d.holds.length))) ∧
    (tag.toNat ∉ d.holds → d.holds.length < 4 → ∃ (u : State) (f : Document),
      exec (.hold h slot generation tag) s = .next (answered u .records .hold (.hold (d.holds.length + 1))) ∧
      u.body.doc slot.toNat = some f ∧ f = { d with holds := f.holds } ∧
      (∀ y, y ∈ f.holds ↔ y = tag.toNat ∨ y ∈ d.holds) ∧
      (∀ m, m ≠ slot.toNat → u.body.slot m = s.body.slot m) ∧
      u.body = { s.body with catalog := u.body.catalog } ∧ u = { s with body := u.body, sent := none }) ∧
    (tag.toNat ∈ d.holds → ∃ (u : State) (b : Body) (f : Document),
      b.doc slot.toNat = some f ∧ f = { d with holds := d.holds.filter (fun y => y ≠ tag.toNat) } ∧
      (∀ m, m ≠ slot.toNat → b.slot m = s.body.slot m) ∧ b = { s.body with catalog := b.catalog } ∧
      u = { s with body := u.body, sent := none } ∧
      (¬ dueForPurge f s.time.clock → u.body = b ∧ exec (.unhold h slot generation tag) s =
        .next (answered u.arbitrate .records .unhold (.unhold f.holds.length d.state))) ∧
      (dueForPurge f s.time.clock → PurgeStarted b u.body slot.toNat f ∧ exec (.unhold h slot generation tag) s =
        .next (answered u.arbitrate .records .unhold (.unhold 0 .purging))))

/-- A deadline reached. ESCALATION marks the obligation, takes its deadline away and, where intake has no obligation,
appends an ESCALATED one. RETENTION_DUE of a document that is due starts its purge, and then idle banks choose (log 19);
where the change that made the document due has started it, nothing more happens while it goes on (log 4). One that is
not due, the purge being finished included (log 4), or comes while the part neither runs nor is in POWER_FAIL, is no
event of the part and stops (log 5). -/
def Obligations.DeadlinesActWhenReached : Prop :=
  (∀ (s : State) (slot : BitVec 12) (department : BitVec 4),
      (s.recovery.part ≠ .running → s.recovery.part ≠ .powerFail →
        exec (.escalation slot department) s = .fault .notDue) ∧
      ((∀ d o, s.body.doc slot.toNat = some d → d.obligation department.toNat = some o →
          ¬ Obligation.reached o s.time.run) →
        exec (.escalation slot department) s = .fault .notDue) ∧
      ∀ (d : Document) (o : Obligation), s.recovery.part = .running ∨ s.recovery.part = .powerFail →
        s.body.doc slot.toNat = some d → d.obligation department.toNat = some o → Obligation.reached o s.time.run →
        ∃ (u : State) (f : Document),
          exec (.escalation slot department) s = .next u ∧ u.body.doc slot.toNat = some f ∧
          f = { d with obligations := f.obligations, departments := f.departments, retainUntil := f.retainUntil } ∧
          f.obligations = d.obligations.map (fun q => if q.department = department.toNat
            then { q with escalated := true, deadline := none } else q) ++
            (if d.obliges 0 then [] else [⟨0, .escalated, .pending, s.time.run, none, false, 0⟩]) ∧
          (d.obliges 0 = true → u.body = { s.body with catalog := u.body.catalog } ∧ f.departments = d.departments ∧
            f.retainUntil = d.retainUntil) ∧
          (d.obliges 0 = false → u.body.attends 0 = true ∧ (∀ y, y ∈ f.departments ↔ y = 0 ∨ y ∈ d.departments) ∧
            f.retainUntil = raisedUntil s.tables d 0) ∧
          (∀ y, u.body.account y = s.body.account y) ∧ (∀ y, y ≠ 0 → u.body.attends y = s.body.attends y) ∧
          (∀ m, m ≠ slot.toNat → u.body.slot m = s.body.slot m) ∧
          u.body = { s.body with catalog := u.body.catalog, accounts := u.body.accounts,
                                 attention := u.body.attention } ∧
          u = { s with body := u.body, sent := none }) ∧
  ∀ (s : State) (slot : BitVec 12),
    (s.recovery.part ≠ .running → s.recovery.part ≠ .powerFail → exec (.retentionDue slot) s = .fault .notDue) ∧
    ((∀ d, s.body.doc slot.toNat = some d → ¬ dueForPurge d s.time.clock ∧ d.state ≠ .purging) →
      exec (.retentionDue slot) s = .fault .notDue) ∧
    (∀ d, s.recovery.part = .running ∨ s.recovery.part = .powerFail → s.body.doc slot.toNat = some d →
      d.state = .purging → exec (.retentionDue slot) s = .next { s with sent := none }) ∧
    ∀ d : Document, s.recovery.part = .running ∨ s.recovery.part = .powerFail →
      s.body.doc slot.toNat = some d → dueForPurge d s.time.clock →
      ∃ u : State, exec (.retentionDue slot) s = .next u.arbitrate ∧
        PurgeStarted s.body u.body slot.toNat d ∧ u = { s with body := u.body, sent := none }

/-! ### Tables (02_departments_and_routing.md) -/

/-- SET NODE: refused by the first failing check, changing nothing; taken, the entry takes the role, the node leaves its
old department's list and joins the end of the new one, and the open sessions of a lost line index close WITHDRAWN. -/
def Obligations.SetNodeMovesTheNode : Prop :=
  ∀ (s : State) (h : Head) (node : BitVec 6) (code : BitVec 3) (value : BitVec 5) (r : Role),
    Heard s h .records → node.toNat < 32 → roleOf code.toNat value.toNat = some r →
    let n := node.toNat
    let refused := fun e => exec (.setNode h node code value) s =
      .next (State.reply { s with sent := none } .records .setNode (.denied e) .none)
    let taken := ∃ i m, r = .line i ∧ m < 32 ∧ m ≠ n ∧ s.tables.role m = .line i
    let full := ∃ d, r = .department d ∧ s.tables.role n ≠ .department d ∧ 2 ≤ (s.tables.dept d).nodes.length
    (n = s.tables.recordsNode ∨ r = .records → refused .notPermitted) ∧
    (n ≠ s.tables.recordsNode → taken ∨ full → refused .alreadyAssigned) ∧
    (n ≠ s.tables.recordsNode → r ≠ .records → ¬ taken → ¬ full →
      ∃ u : State,
        u.tables.role n = r ∧ (∀ m, m ≠ n → u.tables.role m = s.tables.role m) ∧
        (s.tables.role n = r → u.tables = s.tables) ∧
        (s.tables.role n ≠ r → ∀ d,
          let stay := if s.tables.role n = .department d then (s.tables.dept d).nodes.filter (fun m => m ≠ n)
            else (s.tables.dept d).nodes
          let join := if r = .department d then [n] else []
          u.tables.dept d = { s.tables.dept d with nodes := stay ++ join }) ∧
        u.tables = { s.tables with nodes := u.tables.nodes, depts := u.tables.depts } ∧
        u = { s with tables := u.tables, body := u.body, sent := none } ∧
        ((∀ i, s.tables.role n = .line i → r = .line i) → u.body = s.body ∧
          exec (.setNode h node code value) s = .next (answered u .records .setNode .plain)) ∧
        ∀ i, s.tables.role n = .line i → r ≠ .line i →
          (∀ c, c < 8 → (s.body.session (i * 8 + c)).state = .inPage → (s.body.session (i * 8 + c)).queue ≠ []) →
          ClosedAll s.tables s.time s.body u.body ((List.range 8).map (fun c => i * 8 + c)) .withdrawn ∧
          exec (.setNode h node code value) s = .next (answered u.arbitrate .records .setNode .plain))

/-- SET ROUTE stores an entry at its index and CLEAR ROUTE takes it out of use; every other entry stays. SET LIMITS stores
both values, the floor clamped to 8,192 leaves and the idle timeout to 5..600 seconds, held in ticks; the answer reports
both as stored. -/
def Obligations.RoutesAndLimitsAreStored : Prop :=
  (∀ (s : State) (h : Head) (index : BitVec 7) (pattern : BitVec 24) (department : BitVec 5) (role : BitVec 2)
     (r : RouteRole),
     Heard s h .records → index.toNat < 64 → (∀ p ∈ digitsOf 6 pattern.toNat, p ≤ 9 ∨ p = 14) → department.toNat < 16 →
     (role.toNat = 0 ∧ r = .primary ∨ role.toNat = 1 ∧ r = .copy) →
     let stores := fun (c : Instr) (op : Op) (entry : Option Route) => ∃ u : State,
       exec c s = .next (answered u .records op .plain) ∧ u.tables.route index.toNat = entry ∧
       (∀ i, i ≠ index.toNat → u.tables.route i = s.tables.route i) ∧
       u.tables = { s.tables with routes := u.tables.routes } ∧ u = { s with tables := u.tables, sent := none }
     stores (.setRoute h index pattern department role) .setRoute
         (some ⟨digitsOf 6 pattern.toNat, department.toNat, r⟩) ∧
       stores (.clearRoute h index) .clearRoute none) ∧
  (∀ (s : State) (h : Head) (floor : BitVec 14) (idleTimeout : BitVec 10), Heard s h .records →
     let leaves := min floor.toNat 8192
     let seconds := if idleTimeout.toNat < 5 then 5 else min idleTimeout.toNat 600
     exec (.setLimits h floor idleTimeout) s = .next (answered
       { s with tables := { s.tables with floor := leaves, idleTimeout := seconds * 64 }, sent := none }
       .records .setLimits (.setLimits leaves seconds)))

/-- SET DEPARTMENT stores its five values, the numeric ones clamped; intake keeps enabled, quota and escalation period;
a department beyond 15, or an enabled or copy-all value that is neither yes nor no, is malformed. -/
def Obligations.SetDepartmentStoresItsClampedValues : Prop :=
  ∀ (s : State) (h : Head) (department : BitVec 5) (enabled : BitVec 2) (quota : BitVec 17) (escalation : BitVec 14)
    (retention : BitVec 12) (copyAll : BitVec 2) (d : Nat),
    Heard s h .records → department.toNat = d →
    let c := Instr.setDepartment h department enabled quota escalation retention copyAll
    (15 < d ∨ 1 < enabled.toNat ∨ 1 < copyAll.toNat →
      exec c s = .next (State.reply { s with sent := none } .records .setDepartment (.denied .malformed) .none)) ∧
    (d ≤ 15 → enabled.toNat ≤ 1 → copyAll.toNat ≤ 1 →
      ∃ (u : State) (v : Dept),
        exec c s = .next (answered u .records .setDepartment
          (.setDepartment v.enabled v.quota v.escalation v.retention v.copyAll)) ∧
        u.tables.dept d = v ∧ (∀ x, x ≠ d → u.tables.dept x = s.tables.dept x) ∧
        v.enabled = (d = 0 || enabled.toNat = 1) ∧
        v.quota = (if d = 0 ∨ 65536 < quota.toNat then 65536 else if quota.toNat = 0 then 1 else quota.toNat) ∧
        v.escalation = (if d = 0 then 0 else if 10080 < escalation.toNat then 10080 else escalation.toNat) ∧
        v.retention =
          (if 3650 < retention.toNat then 3650 else if retention.toNat = 0 then 1 else retention.toNat) ∧
        v.copyAll = (copyAll.toNat = 1) ∧ v.nodes = (s.tables.dept d).nodes ∧
        u.tables = { s.tables with depts := u.tables.depts } ∧ u = { s with tables := u.tables, sent := none })

/-! ### The timebase (09_the_receipt_clock.md) -/

/-- TICK: the run counter rises, saturating; the clock stands still untrusted or under hold-back, which falls, and rises
otherwise. In the tick in which the clock rises to a retain-until, the purge of every document that is then due starts,
while the part runs or is in POWER_FAIL, in an order that stays free (log 8), and such a document stands on the purge
list or is gone; next serial, accounts and attention stay; a tick that makes none due changes the
timebase alone. It counts in every part state but REBUILDING, where the counts stand, and with main power off while the
backup supply holds; the backup supply's state is the model's (log 13), and so is that ticks count with power off after
a loss during REBUILDING (log 36). -/
def Obligations.TicksCount : Prop :=
  (∀ s : State, s.recovery.part ≠ .rebuilding → (s.recovery.part = .off → s.recovery.backup = true) →
    let works := s.recovery.part = .running ∨ s.recovery.part = .powerFail
    ∃ u : State, exec .tick s = .next u ∧ u = { s with time := u.time, body := u.body, sent := none } ∧
      u.time.run = min (s.time.run + 1) 281474976710655 ∧ u.time.trusted = s.time.trusted ∧
      (s.time.trusted = false → u.time.clock = s.time.clock ∧ u.time.holdBack = s.time.holdBack) ∧
      (s.time.trusted = true → 0 < s.time.holdBack →
        u.time.clock = s.time.clock ∧ u.time.holdBack = s.time.holdBack - 1) ∧
      (s.time.trusted = true → s.time.holdBack = 0 →
        u.time.clock = min (s.time.clock + 1) 281474976710655 ∧ u.time.holdBack = 0) ∧
      (u.time.clock ≤ s.time.clock ∨ ¬ works ∨ (∀ e ∈ s.body.documents, ¬ dueForPurge e.2 u.time.clock) →
        u.body = s.body) ∧
      (s.time.clock < u.time.clock → works →
        (∀ n d, u.body.doc n = some d → ¬ dueForPurge d u.time.clock) ∧
        (∀ n d, s.body.doc n = some d → dueForPurge d u.time.clock →
          u.body.doc n = none ∨
            ∃ f, u.body.doc n = some f ∧ f.state = .purging ∧ f.serial = d.serial ∧ n ∈ u.body.purges) ∧
        (∀ n ∈ u.body.purges, n ∈ s.body.purges ∨
          ∃ e ∈ s.body.documents, e.1 = n ∧ dueForPurge e.2 u.time.clock) ∧
        (∀ n d, s.body.doc n = some d → n ∉ s.body.purges →
          (∀ e ∈ s.body.documents, e.1 = n → ¬ dueForPurge e.2 u.time.clock) →
          ∃ f, u.body.doc n = some f ∧ f = { d with pages := f.pages }) ∧
        u.body = { u.body with nextSerial := s.body.nextSerial, accounts := s.body.accounts,
                               attention := s.body.attention })) ∧
  (∀ (c : Instr) (s t : State), s.recovery.part = .rebuilding → exec c s = .next t →
    t.recovery.part = .rebuilding → t.time = s.time) ∧
  ∀ s : State, s.recovery.part = .rebuilding ∨ (s.recovery.part = .off ∧ s.recovery.backup = false) →
    exec .tick s = .next { s with sent := none }

/-- SET CLOCK, addressed or broadcast: a backward setting keeps the clock and sets a capped hold-back, and nothing else;
a forward one, and the one that makes the clock trusted, set the clock, resolve every pending retain-until in the latter
case, and start the purge of every document that is then due, in an order that stays free (log 8), which then stands on the purge list or is gone; next
serial, accounts and attention stay. Only the addressed one is answered. A broadcast one that is not from the records node, or that comes while the part is not RUNNING or the bus reset input
is asserted, is not taken: nothing changes. -/
def Obligations.SetClockSetsOrHoldsBack : Prop :=
  (∀ (s : State) (sender : BitVec 6) (value : BitVec 48), s.txn.held = false →
    s.tables.role sender.toNat ≠ .records ∨ s.recovery.part ≠ .running ∨ s.resetHeld = true →
    exec (.broadcastSetClock sender value) s = .next { s with txn := .none, sent := none }) ∧
  ∀ (s : State) (h : Head) (value : BitVec 48), Heard s h .records →
    let v := value.toNat
    let untilOf := fun d : Document => min (v + s.tables.longestRetention d.departments * 5529600) 281474976710655
    let asked := fun d : Document => if s.time.trusted = false ∧ d.retainUntil = .pending then
      { d with base := .known v, retainUntil := .known (untilOf d) } else d
    ∃ u : State,
      exec (.setClock h value) s = .next (answered u .records .setClock
        (.setClock v u.time.clock u.time.trusted u.time.holdBack)) ∧
      exec (.broadcastSetClock h.sender value) s = .next u ∧
      u = { s with time := u.time, body := u.body, txn := .none, sent := none } ∧
      (s.time.trusted = true → v < s.time.clock →
        u.time = { s.time with holdBack := min (s.time.clock - v) 57600 } ∧ u.body = s.body) ∧
      (s.time.trusted = false ∨ s.time.clock ≤ v →
        u.time = { s.time with clock := v, trusted := true, holdBack := 0 } ∧
        (∀ n d, u.body.doc n = some d → ¬ dueForPurge d v) ∧
        (∀ n d, s.body.doc n = some d → dueForPurge (asked d) v →
          u.body.doc n = none ∨
            ∃ f, u.body.doc n = some f ∧ f.state = .purging ∧ f.serial = d.serial ∧ n ∈ u.body.purges) ∧
        (∀ n ∈ u.body.purges, n ∈ s.body.purges ∨
          ∃ e ∈ s.body.documents, e.1 = n ∧ dueForPurge (asked e.2) v) ∧
        (∀ n d, s.body.doc n = some d → n ∉ s.body.purges →
          (∀ e ∈ s.body.documents, e.1 = n → ¬ dueForPurge (asked e.2) v) →
          ∃ f, u.body.doc n = some f ∧ f = { asked d with pages := f.pages }) ∧
        u.body = { u.body with nextSerial := s.body.nextSerial, accounts := s.body.accounts,
                               attention := s.body.attention } ∧
        ((∀ e ∈ s.body.documents, ¬ dueForPurge (asked e.2) v) →
          (∀ n, s.body.doc n = none → u.body.doc n = none) ∧ u.body = { s.body with catalog := u.body.catalog } ∧
          (s.time.trusted = true → u.body = s.body)))

/-! ### STATUS and operations without a request (R173, R177) -/

/-- STATUS is taken from every enrolled role in every part state and changes nothing. It reports each owner's state as
it stands: the recovery unit, the routing unit, the timebase, the catalog, the sessions, the staging pool, the leaf
store, the obligations and the retention unit (R20, R41, R65, R81, R102, R124, R152, R160, R170). While REBUILDING, the
count of each leaf state holds at least the leaves the scan has settled, and the nine counts sum to 65,536; what the
others show is free (log 11). That a deadline already reached counts 0 ticks remaining, and that a retain-until at or
below the clock has passed, is the model's choice (log 16). An operation that names no request is malformed once its
sender is enrolled. -/
def Obligations.StatusReportsAndChangesNothing : Prop :=
  ∀ (s : State) (h : Head) (role : Role), s.txn.held = false → s.resetHeld = false → s.recovery.part ≠ .off →
    h.target.toNat = s.tables.hub → s.tables.role h.sender.toNat = role → role ≠ .none →
    let b := s.body
    let docs := b.documents.map (fun e => e.2)
    let os := docs.flatMap (fun d => d.obligations)
    let untils := fun d : Document => match d.retainUntil with
      | .known t => some t
      | .absent | .pending => none
    let buffers := fun (p : Buffer → Bool) => (List.range 144).countP (fun i => p (b.buffer i))
    let states := [LeafState.blank, .filling, .ready, .programming, .programmed, .voiding, .void, .erasing, .retired]
    (∃ r : Reading,
      exec (.status h) s = .next (answered { s with sent := none } role .status .plain (.reading r)) ∧
      r.recovery = ⟨s.recovery.part, s.recovery.lastStart,
        if s.recovery.part = .rebuilding then some s.recovery.scanned else none, s.recovery.warmClosed,
        s.recovery.warmDiscarded, s.recovery.warmRemoved, s.recovery.coldRebuilt, s.recovery.coldDropped⟩ ∧
      r.routing = ⟨s.tables.recordsNode, s.tables.hub, (List.range 32).map s.tables.role,
        (List.range 16).map (fun d => ⟨(s.tables.dept d).enabled, (s.tables.dept d).copyAll, (s.tables.dept d).quota,
          b.account d, b.attends d, (s.tables.dept d).nodes⟩),
        (List.range 64).countP (fun i => (s.tables.route i).isSome), s.tables.floor, s.tables.idleTimeout / 64⟩ ∧
      r.time = s.time ∧
      r.catalog = ⟨4096 - docs.length, docs.countP (fun d => d.state == .receiving),
        docs.countP (fun d => d.state == .distributing), docs.countP (fun d => d.state == .retained),
        docs.countP (fun d => d.state == .purging), (docs.map (fun d => d.pages.length)).sum, b.nextSerial⟩ ∧
      (let c := fun k => b.session k
        let reading := fun st => (List.range 32).countP (fun k => (c k).state == st)
        r.sessions.sessions.length = 32 ∧ r.sessions.idle = reading .idle ∧ r.sessions.admitted = reading .admitted ∧
        r.sessions.inPage = reading .inPage ∧ r.sessions.stopped = reading .stopped ∧
        ∀ k, k < 32 → ((c k).state = .idle → r.sessions.sessions[k]? = some (.idle, none)) ∧
          ∀ n d t, (c k).state ≠ .idle → (c k).doc = some n → b.doc n = some d → (c k).deadline = some t →
            r.sessions.sessions[k]? = some ((c k).state, some ⟨n, (b.slot n).generation, d.serial, d.pages.length,
              (c k).queue.length, t - s.time.run⟩)) ∧
      r.staging.windows = b.windows.length ∧ r.staging.discards = b.windows.countP (fun i => (b.buffer i).discard) ∧
      r.staging.byUrgency = [1, 2, 3].map (fun u => b.ready.countP (fun i => (b.buffer i).state == .ready &&
        u == (match (b.buffer i).holder with
          | some (.session k) => min 3 ((b.session k).queue.countP (fun j => (b.buffer j).state = .ready))
          | _ => 2))) ∧
      (Table.wf Buffer.free b.buffers → (∀ i, 144 ≤ i → b.buffer i = Buffer.free) →
        r.staging.byState = [BufState.free, .filling, .ready, .programming, .fetching, .window].map
          (fun st => buffers (fun v => v.state == st)) ∧
        r.staging.orphans = buffers (fun v => v.holder == some .orphan) ∧
        r.staging.orphansUnplaced = buffers (fun v => v.holder == some .orphan && v.leaf == none) ∧
        r.staging.windowAllowed = decide (b.windows.length < 24 ∧ 16 < buffers (fun v => v.state == .free)) ∧
        r.leaves.readyUnplaced = buffers (fun v => v.state == .ready && v.leaf == none)) ∧
      (s.recovery.part ≠ .rebuilding → Table.wf Leaf.blank b.leaves → (∀ l, 65536 ≤ l → b.leaf l = Leaf.blank) →
        r.leaves.byState = states.map (fun st => (List.range 65536).countP (fun l => (b.leaf l).state == st))) ∧
      (s.recovery.part = .rebuilding → r.leaves.byState.sum = 65536 ∧ ∀ j, j < 9 → ∃ st n, states[j]? = some st ∧
        r.leaves.byState[j]? = some n ∧ (List.range 65536).countP (fun l => decide (l < s.recovery.scanned) &&
          (match (s.flash.spareOf l).classOf with
            | .valid _ => false
            | .erased | .voidMarked | .unreadable => (b.leaf l).state == st)) ≤ n) ∧
      r.leaves.banks = (List.range 4).map (fun k => ⟨(b.bank k).blank.length, (b.bank k).eraseQueue.length,
        (b.bank k).fetchQueue.length, match (b.bank k).op with
          | .none => 0
          | .program _ _ _ => 1
          | .fetch _ => 2
          | .voidMark _ => 3
          | .erase _ => 4⟩) ∧
      r.leaves.purges = b.purges.length ∧
      (r.leaves.allocationBank = none ↔ ∀ k, k < 4 → (b.bank k).blank = []) ∧
      (∀ k, r.leaves.allocationBank = some k → k < 4 ∧ ∀ j, j < 4 →
        (b.bank j).blank.length ≤ (b.bank k).blank.length ∧
        (j < k → (b.bank j).blank.length < (b.bank k).blank.length)) ∧
      r.obligations = ⟨os.length, os.countP (fun o => o.state == .pending), os.countP (fun o => o.state == .opened),
        [ObKind.primary, .unrouted, .overflow, .copy, .rerouted, .escalated, .forwarded, .rebuilt].map
          (fun kind => os.countP (fun o => o.kind == kind)),
        os.countP (fun o => o.escalated), os.countP (fun o => o.deadline.isSome),
        (os.filterMap (fun o => o.deadline)).min?, (docs.map (fun d => d.retained)).sum⟩ ∧
      r.retention = ⟨docs.countP (fun d => d.retainUntil == .pending),
        docs.countP (fun d => d.retainUntil == .pending && d.state == .retained),
        docs.countP (fun d => !d.holds.isEmpty), (docs.map (fun d => d.holds.length)).sum,
        docs.countP (fun d => d.state == .retained && !d.holds.isEmpty &&
          (untils d).any (fun t => decide (t ≤ s.time.clock))),
        ((docs.filter (fun d => d.state == .retained && d.holds.isEmpty)).filterMap untils).min?,
        b.purges.length, (b.purges.map (fun n => ((b.doc n).map (fun d => d.retained)).getD 0)).sum⟩) ∧
    ∀ code : BitVec 5, namesRequest code.toNat = false →
      exec (.unknownOperation h code) s =
        .next (State.reply { s with sent := none } role (.unknown code.toNat) (.denied .malformed) .none)

/-- STATUS and an operation that names no request complete for every enrolled sender in every part state with power: the one
is taken, the other malformed (R173, R177). That an unknown operation with a code 1..20, an ill-formed term, is answered like
the other codes is the model's choice (log 24). WARM_START_COMPLETE and REBUILD_COMPLETE complete in the start they belong to:
the mark is restored and the part RUNNING, or POWER_FAIL under the PFW input, with tables, timebase and flash as they stand
(R161, R166, R169). -/
def Obligations.StatusAndTheStartsComplete : Prop :=
  (∀ (s : State) (h : Head) (role : Role), s.txn.held = false → s.resetHeld = false → s.recovery.part ≠ .off →
    h.target.toNat = s.tables.hub → s.tables.role h.sender.toNat = role → role ≠ .none →
    (∃ r : Reading, exec (.status h) s = .next (answered { s with sent := none } role .status .plain (.reading r))) ∧
    ∀ code : BitVec 5, exec (.unknownOperation h code) s =
      .next (State.reply { s with sent := none } role (.unknown code.toNat) (.denied .malformed) .none)) ∧
  ∀ (c : Instr) (s : State),
    c = .warmStartComplete ∧ s.recovery.part = .starting ∨ c = .rebuildComplete ∧ s.recovery.part = .rebuilding →
    ∃ t : State, exec c s = .next t ∧ t.recovery.mark = true ∧
      t.recovery.part = (if s.recovery.pfw then .powerFail else .running) ∧
      t = { s with body := t.body, recovery := t.recovery, sent := none }

/-! ### Banks (04_staging_buffers.md, 05_the_leaf_store.md) -/

/-- A completed program: the leaf PROGRAMMED, its buffer FREE and out of the ready list and its session's queue; in the
flash, the header with its void mark unwritten and the buffer's bytes; every other byte stays. Then idle banks choose. -/
def Obligations.ACompletedProgramStoresTheBuffer : Prop :=
  ∀ (s : State) (bank : BitVec 2) (i l : Nat) (header : List Word),
    (s.body.bank bank.toNat).op = .program i l header →
    let bytes := (s.body.buffer i).data
    ∃ u : State,
      exec (.programComplete bank) s = .next u.arbitrate ∧
      u.body.leaf l = { s.body.leaf l with state := .programmed, buffer := none } ∧
      u.body.buffer i = ⟨.free, none, none, none, [], false⟩ ∧
      u.body.ready = s.body.ready.filter (fun j => j ≠ i) ∧ u.body.windows = s.body.windows.filter (fun j => j ≠ i) ∧
      (∀ k, u.body.session k = if (s.body.buffer i).holder = some (.session k)
        then { s.body.session k with queue := (s.body.session k).queue.filter (fun j => j ≠ i) }
        else s.body.session k) ∧
      u.body.bank bank.toNat = { s.body.bank bank.toNat with op := .none } ∧
      (∀ m, m ≠ l → u.body.leaf m = s.body.leaf m) ∧ (∀ j, j ≠ i → u.body.buffer j = s.body.buffer j) ∧
      (∀ k, k ≠ bank.toNat → u.body.bank k = s.body.bank k) ∧
      u.body = { s.body with leaves := u.body.leaves, buffers := u.body.buffers, ready := u.body.ready,
                             windows := u.body.windows, sessions := u.body.sessions, banks := u.body.banks } ∧
      u.flash.spareOf l = ⟨header, 0xFFFF#16⟩ ∧ (∀ m, m ≠ l → u.flash.spareOf m = s.flash.spareOf m) ∧
      (∀ j v, bytes[j]? = some v → Memory.read u.flash.data (l * 4096 + j) = v) ∧
      (∀ a, a < l * 4096 ∨ l * 4096 + bytes.length ≤ a →
        Memory.read u.flash.data a = Memory.read s.flash.data a) ∧
      u.flash.draws = s.flash.draws ∧ u = { s with body := u.body, flash := u.flash, sent := none }

/-- A failed program: the leaf RETIRED, the buffer READY without a leaf, its slot unplaced; a PURGING document's cursor
moves past what it then stands on. The flash keeps every other leaf, and the leaf itself is unreadable or carries its
header, its other contents free (log 10). Then idle banks choose (log 19). -/
def Obligations.AFailedProgramUnplacesTheSlot : Prop :=
  ∀ (s : State) (bank : BitVec 2) (i l : Nat) (header : List Word) (p : Place) (d : Document),
    (s.body.bank bank.toNat).op = .program i l header → (s.body.buffer i).place = some p →
    s.body.doc p.slot = some d →
    ∃ (u : State) (b : Body) (f : Document),
      exec (.programFail bank) s = .next u.arbitrate ∧
      b.doc p.slot = some f ∧
      f = { d with pages := d.pages.modify (p.page - 1) (fun g =>
        { g with slots := g.slots.modify p.index (fun v => if v = .released then .released else .unplaced) }) } ∧
      b.leaf l = ⟨.retired, none, none⟩ ∧ b.buffer i = { s.body.buffer i with state := .ready, leaf := none } ∧
      b.bank bank.toNat = { s.body.bank bank.toNat with op := .none } ∧
      (∀ m, m ≠ p.slot → b.slot m = s.body.slot m) ∧ (∀ m, m ≠ l → b.leaf m = s.body.leaf m) ∧
      (∀ j, j ≠ i → b.buffer j = s.body.buffer j) ∧ (∀ k, k ≠ bank.toNat → b.bank k = s.body.bank k) ∧
      b = { s.body with catalog := b.catalog, leaves := b.leaves, buffers := b.buffers, banks := b.banks } ∧
      (d.state ≠ .purging → u.body = b) ∧ (d.state = .purging → CursorMoved b u.body p.slot f) ∧
      ((u.flash.spareOf l).classOf = .unreadable ∨ u.flash.spareOf l = ⟨header, 0xFFFF#16⟩) ∧
      (∀ m, m ≠ l → u.flash.spareOf m = s.flash.spareOf m) ∧
      (∀ a, a < l * 4096 ∨ l * 4096 + 4096 ≤ a → Memory.read u.flash.data a = Memory.read s.flash.data a) ∧
      u = { s with body := u.body, flash := u.flash, sent := none }

/-- A fetch completes into a WINDOW with the leaf's bytes, up to the byte count of its header; or, marked for discard,
into nothing, the buffer FREE. Then idle banks choose, and the flash does not change. -/
def Obligations.AFetchFillsItsWindow : Prop :=
  ∀ (s : State) (bank : BitVec 2) (i l : Nat), (s.body.bank bank.toNat).op = .fetch i →
    (s.body.buffer i).leaf = some l →
    ∃ u : State,
      exec (.fetchComplete bank) s = .next u.arbitrate ∧
      u.body.bank bank.toNat = { s.body.bank bank.toNat with op := .none } ∧
      ((s.body.buffer i).discard = false →
        (∀ h, readHeader (s.flash.spareOf l).header = some h → u.body.buffer i = { s.body.buffer i with
          state := .window,
          data := (List.range h.byteCount).map (fun j => Memory.read s.flash.data (l * 4096 + j)) }) ∧
        u.body = { s.body with buffers := u.body.buffers, banks := u.body.banks }) ∧
      ((s.body.buffer i).discard = true → (s.body.buffer i).holder = some .delivery →
        u.body.buffer i = ⟨.free, none, none, none, [], false⟩ ∧
        u.body = { s.body with buffers := u.body.buffers, banks := u.body.banks,
                               windows := s.body.windows.filter (fun j => j ≠ i),
                               ready := s.body.ready.filter (fun j => j ≠ i) }) ∧
      (∀ j, j ≠ i → u.body.buffer j = s.body.buffer j) ∧ (∀ k, k ≠ bank.toNat → u.body.bank k = s.body.bank k) ∧
      u = { s with body := u.body, sent := none }

/-- The end of a void mark: completed or failed, the leaf is VOID at the back of its bank's erase queue, and no charge,
catalog record or count changes; the flash alone tells them apart. Completed, the void-mark word is zero (R184); failed, the
leaf reads as R98 allows. That a failed void mark too leaves the data area as it was, and the words of its spare area free,
is the model's choice (log 10). Then idle banks choose (log 19). -/
def Obligations.AVoidMarkEndsInTheEraseQueue : Prop :=
  ∀ (s : State) (bank : BitVec 2) (l : Nat), (s.body.bank bank.toNat).op = .voidMark l →
    ∃ (b : Body) (done failed : Flash),
      exec (.voidMarkEnd bank true) s =
        .next (State.arbitrate { s with body := b, flash := done, sent := none }) ∧
      exec (.voidMarkEnd bank false) s =
        .next (State.arbitrate { s with body := b, flash := failed, sent := none }) ∧
      b.leaf l = ⟨.void, none, none⟩ ∧ (∀ m, m ≠ l → b.leaf m = s.body.leaf m) ∧
      (∀ k, b.bank k = { s.body.bank k with
        op := if k = bank.toNat then .none else (s.body.bank k).op,
        eraseQueue := (s.body.bank k).eraseQueue ++ if k = l % 4 then [l] else [] }) ∧
      b = { s.body with leaves := b.leaves, banks := b.banks } ∧
      done.spareOf l = { s.flash.spareOf l with voidWord := 0#16 } ∧ done.data = s.flash.data ∧
      done.draws = s.flash.draws ∧ failed.data = s.flash.data ∧
      (∀ m, m ≠ l → done.spareOf m = s.flash.spareOf m ∧ failed.spareOf m = s.flash.spareOf m) ∧
      ∀ h, readHeader (s.flash.spareOf l).header = some h → (done.spareOf l).classOf = .voidMarked ∧
        ((failed.spareOf l).classOf = .valid h ∨ (failed.spareOf l).classOf = .voidMarked ∨
          (failed.spareOf l).classOf = .unreadable)

/-- The end of an erase: completed, the leaf is BLANK at the back of its bank's blank list and its flash reads all ones;
failed, it is RETIRED on no list, its flash left within the limits of R98, its contents free (log 10). Every other leaf
stays. Then idle banks choose (log 19). -/
def Obligations.AnEraseBlanksOrRetiresTheLeaf : Prop :=
  ∀ (s : State) (bank : BitVec 2) (l : Nat), (s.body.bank bank.toNat).op = .erase l →
    ∃ u w : State,
      exec (.eraseEnd bank true) s = .next u.arbitrate ∧ exec (.eraseEnd bank false) s = .next w.arbitrate ∧
      u.body.leaf l = ⟨.blank, none, none⟩ ∧ w.body.leaf l = ⟨.retired, none, none⟩ ∧
      (∀ m, m ≠ l → u.body.leaf m = s.body.leaf m ∧ w.body.leaf m = s.body.leaf m) ∧
      (∀ k, u.body.bank k = { s.body.bank k with
        op := if k = bank.toNat then .none else (s.body.bank k).op,
        blank := (s.body.bank k).blank ++ if k = l % 4 then [l] else [] }) ∧
      (∀ k, w.body.bank k = { s.body.bank k with op := if k = bank.toNat then .none else (s.body.bank k).op }) ∧
      u.body = { s.body with leaves := u.body.leaves, banks := u.body.banks } ∧
      w.body = { s.body with leaves := w.body.leaves, banks := w.body.banks } ∧
      (u.flash.spareOf l).classOf = .erased ∧
      (∀ j, j < 4096 → Memory.read u.flash.data (l * 4096 + j) = 255#8) ∧
      ((w.flash.spareOf l).classOf = .erased ∨ (w.flash.spareOf l).classOf = .unreadable ∨
        (w.flash.spareOf l).header = (s.flash.spareOf l).header) ∧
      (∀ m, m ≠ l → u.flash.spareOf m = s.flash.spareOf m ∧ w.flash.spareOf m = s.flash.spareOf m) ∧
      (∀ a, a < l * 4096 ∨ l * 4096 + 4096 ≤ a → Memory.read u.flash.data a = Memory.read s.flash.data a ∧
        Memory.read w.flash.data a = Memory.read s.flash.data a) ∧
      u = { s with body := u.body, flash := u.flash, sent := none } ∧
      w = { s with body := w.body, flash := w.flash, sent := none }

/-- An idle bank with work takes the first of seven kinds of work, in POWER_FAIL of the three kinds of programs alone,
and none while the part is in another state; within an urgency the buffer earliest in the ready list, and of void marks
the first document of the purge list whose cursor slot's leaf is PROGRAMMED in the bank (R71, R88, R89, R95). -/
def Obligations.ArbitersFollowTheOrderOfChoice : Prop :=
  ∀ (b : Body) (part : PartState) (floor k : Nat),
    let urgency := fun i => match (b.buffer i).holder with
      | some (.session n) => min 3 ((b.session n).queue.countP (fun j => (b.buffer j).state = .ready))
      | _ => 2
    let works := fun (i : Nat) (w : Work) => (b.buffer i).state = .ready ∧
      ((∃ l, (b.buffer i).leaf = some l ∧ l % 4 = k ∧ w = .program i l) ∨
        ((b.buffer i).leaf = none ∧ b.allocationBank = some k ∧ w = .replace i))
    let programs := fun (u : Nat) (w : Work) => ∃ before i after, b.ready = before ++ i :: after ∧ urgency i = u ∧
      works i w ∧ ∀ j ∈ before, urgency j = u → ∀ v, ¬ works j v
    let erases := fun w => ∃ l rest, (b.bank k).eraseQueue = l :: rest ∧ w = Work.erase l
    let fetches := fun w => ∃ i rest, (b.bank k).fetchQueue = i :: rest ∧ w = Work.fetch i
    let voids := fun (n : Nat) (w : Work) => ∃ d p x l, b.doc n = some d ∧ d.cursor = some (p, x, .placed l) ∧
      (b.leaf l).state = .programmed ∧ l % 4 = k ∧ w = .voidMark n p x l
    let marks := fun w => ∃ before n after, b.purges = before ++ n :: after ∧ voids n w ∧
      ∀ m ∈ before, ∀ v, ¬ voids m v
    let kinds : List (Work → Prop) := match part with
      | .running => [programs 3, fun w => b.deviceBlank < floor ∧ erases w, fetches, programs 2, marks, programs 1, erases]
      | .powerFail => [programs 3, programs 2, programs 1]
      | .off | .starting | .rebuilding => []
    ∀ w, b.choose part floor k = some w ↔
      ∃ before kind after, kinds = before ++ kind :: after ∧ kind w ∧ ∀ q ∈ before, ∀ v, ¬ q v

/-- What an operation does when it starts, and what it leaves alone. A program makes leaf and buffer PROGRAMMING, with the
header of the document as it stands. A replacement takes the front BLANK leaf for the unplaced slot, and programs it in the
same way, with the header of the document it has placed it in. A fetch leaves its queue. A void mark makes the leaf VOIDING,
releases the slot, frees the WINDOW that names the leaf or marks a FETCHING one for discard (R78), and moves the cursor on.
An erase leaves its queue, the leaf ERASING. -/
def Obligations.StartedOperationsTakeTheirWork : Prop :=
  ∀ (b : Body) (k i l n : Nat) (p : Place) (d : Document),
    (let u := b.startWork k (.program i l);
      u.leaf l = { b.leaf l with state := .programming } ∧ u.buffer i = { b.buffer i with state := .programming } ∧
      (∃ header, u.bank k = { b.bank k with op := .program i l header } ∧
        ((b.buffer i).place = some p → b.doc p.slot = some d →
          header = (assembleHeader d (b.slot p.slot).generation p (b.buffer i).data.length).words)) ∧
      (∀ m, m ≠ l → u.leaf m = b.leaf m) ∧ (∀ j, j ≠ i → u.buffer j = b.buffer j) ∧
      (∀ j, j ≠ k → u.bank j = b.bank j) ∧
      u = { b with leaves := u.leaves, buffers := u.buffers, banks := u.banks }) ∧
    (∀ rest, (b.bank k).blank = l :: rest → (b.buffer i).place = some p → b.doc p.slot = some d →
      let u := b.startWork k (.replace i)
      let f := { d with pages := d.pages.modify (p.page - 1) (fun g =>
        { g with slots := g.slots.modify p.index (fun v => if v = .unplaced then .placed l else v) }) }
      let header := (assembleHeader f (b.slot p.slot).generation p (b.buffer i).data.length).words
      u.leaf l = ⟨.programming, some p, some i⟩ ∧
      u.buffer i = { b.buffer i with state := .programming, leaf := some l } ∧
      u.slot p.slot = ⟨(b.slot p.slot).generation, some f⟩ ∧
      u.bank k = { b.bank k with blank := rest, op := .program i l header } ∧
      (∀ m, m ≠ l → u.leaf m = b.leaf m) ∧ (∀ j, j ≠ i → u.buffer j = b.buffer j) ∧
      (∀ j, j ≠ k → u.bank j = b.bank j) ∧ (∀ m, m ≠ p.slot → u.slot m = b.slot m) ∧
      u = { b with leaves := u.leaves, buffers := u.buffers, banks := u.banks, catalog := u.catalog }) ∧
    (∀ rest, (b.bank k).fetchQueue = i :: rest →
      let u := b.startWork k (.fetch i)
      u.bank k = { b.bank k with fetchQueue := rest, op := .fetch i } ∧ (∀ j, j ≠ k → u.bank j = b.bank j) ∧
      u = { b with banks := u.banks }) ∧
    (∀ rest, (b.bank k).eraseQueue = l :: rest →
      let u := b.startWork k (.erase l)
      u.bank k = { b.bank k with eraseQueue := rest, op := .erase l } ∧ u.leaf l = ⟨.erasing, none, none⟩ ∧
      (∀ m, m ≠ l → u.leaf m = b.leaf m) ∧ (∀ j, j ≠ k → u.bank j = b.bank j) ∧
      u = { b with banks := u.banks, leaves := u.leaves }) ∧
    (b.doc n = some d → d.cursor = some (p.page, p.index, .placed l) →
      let u := b.startWork k (.voidMark n p.page p.index l)
      let window := b.windows.find? (fun j => (b.buffer j).leaf == some l && !(b.buffer j).discard)
      u.leaf l = ⟨.voiding, none, none⟩ ∧ u.bank k = { b.bank k with op := .voidMark l } ∧
      (∀ m, m ≠ l → u.leaf m = b.leaf m) ∧ (∀ j, j ≠ k → u.bank j = b.bank j) ∧
      ∃ m : Body, m.slot n = ⟨(b.slot n).generation, some { d with
        pages := d.pages.modify (p.page - 1) (fun g => { g with slots := g.slots.set p.index .released }),
        retained := d.retained - 1 }⟩ ∧
        (∀ f, m.doc n = some f → CursorMoved m u n f) ∧
        (b.ready.find? (fun j => (b.buffer j).place == some ⟨n, p.page, p.index⟩ && (b.buffer j).leaf == none) = none →
          (∀ q, q ≠ n → m.slot q = b.slot q) ∧
          (window = none → m = { b with leaves := m.leaves, banks := m.banks, catalog := m.catalog }) ∧
          (∀ w, window = some w → (b.buffer w).state = .window → (b.buffer w).holder = some .delivery →
            m.buffer w = ⟨.free, none, none, none, [], false⟩ ∧ (∀ j, j ≠ w → m.buffer j = b.buffer j) ∧
            m = { b with leaves := m.leaves, banks := m.banks, catalog := m.catalog, buffers := m.buffers,
                         windows := b.windows.filter (fun j => j ≠ w), ready := b.ready.filter (fun j => j ≠ w) }) ∧
          (∀ w, window = some w → (b.buffer w).state ≠ .window →
            m.buffer w = { b.buffer w with discard := true } ∧ (∀ j, j ≠ w → m.buffer j = b.buffer j) ∧
            m = { b with leaves := m.leaves, banks := m.banks, catalog := m.catalog, buffers := m.buffers })))

/-- After a change, no idle bank is left with work; a busy bank's operation is not withdrawn, and what an idle bank starts
in POWER_FAIL is a program; while the part is STARTING, REBUILDING or without power nothing starts (R88, R89). -/
def Obligations.IdleBanksChooseUntilNoneHasWork : Prop :=
  ∀ s : State, (∀ i, (s.body.buffer i).state = .ready → (s.body.buffer i).place ≠ none) →
    (∀ k, k < 4 → (s.arbitrate.body.bank k).op = .none →
      s.arbitrate.body.choose s.recovery.part s.tables.floor k = none) ∧
    (∀ k, (s.body.bank k).op ≠ .none → (s.arbitrate.body.bank k).op = (s.body.bank k).op) ∧
    (∀ k, s.recovery.part = .powerFail → (s.arbitrate.body.bank k).op = (s.body.bank k).op ∨
      ∃ i l header, (s.arbitrate.body.bank k).op = .program i l header) ∧
    (s.recovery.part ≠ .running → s.recovery.part ≠ .powerFail → s.arbitrate = s) ∧
    s.arbitrate = { s with body := s.arbitrate.body }

/-! ### Pins and supplies (10_power_failure_and_recovery.md, R178, R179) -/

/-- BUS RESET, while running or in POWER_FAIL: the transaction ends, what the part was sending going no further (how
much of it had gone is free, log 31), an APPEND cut off settled as an early end (log 34 where its block had not
begun); every open session closes BUS_RESET, WINDOW buffers are freed, FETCHING ones marked for discard, READY and
PROGRAMMING ones keep their places in the ready list, and every department that then holds an obligation has attention. During a start only the transaction ends; with power off only
the level is kept; a repeated assertion has no effect (log 23). -/
def Obligations.BusResetEndsTheTransaction : Prop :=
  ∀ (s : State) (words : List Word),
    exec .busResetWithdrawn s = .next { s with resetHeld := false, sent := none } ∧
    (s.resetHeld = true → exec (.busReset words) s = .next { s with sent := none }) ∧
    (s.resetHeld = false → s.recovery.part = .off →
      exec (.busReset words) s = .next { s with resetHeld := true, sent := none }) ∧
    (s.resetHeld = false → s.recovery.part = .starting ∨ s.recovery.part = .rebuilding →
      ∃ x : State, TransactionEnded s x ∧ exec (.busReset words) s = .next { x with resetHeld := true }) ∧
    (let b := match s.txn with
        | .appending a => s.body.settleAppend a (broughtBytes a.count words)
        | .none | .discarding _ | .sending _ => s.body
      s.resetHeld = false → s.recovery.part = .running ∨ s.recovery.part = .powerFail →
      (∀ k, (b.session k).state = .inPage → (b.session k).queue ≠ []) →
      ∃ (u x : State) (e : Body),
        exec (.busReset words) s = .next u.arbitrate ∧ TransactionEnded s x ∧
        ClosedAll s.tables s.time b e (List.range 32) .busReset ∧
        (∀ i, b.windows.count i = 1 → (e.buffer i).state = .window →
          u.body.buffer i = ⟨.free, none, none, none, [], false⟩ ∧ i ∉ u.body.windows) ∧
        (∀ i, b.windows.count i = 1 → (e.buffer i).state ≠ .window →
          u.body.buffer i = { e.buffer i with discard := true } ∧ i ∈ u.body.windows) ∧
        (∀ i, i ∉ b.windows → u.body.buffer i = e.buffer i ∧ i ∉ u.body.windows) ∧
        (∀ k, k < 32 → (u.body.session k).state = .idle) ∧
        (let freed := fun i => decide (i ∈ b.windows ∧ (e.buffer i).state = .window);
          u.body.windows = b.windows.filter (fun i => !freed i) ∧ u.body.ready = e.ready.filter (fun i => !freed i) ∧
          ((∀ i, freed i = true → i ∉ e.ready ∧ ∀ k, (e.buffer i).holder ≠ some (.session k)) →
            u.body.ready = e.ready ∧ u.body.sessions = e.sessions)) ∧
        (∀ k, u.body.session k = { e.session k with
          queue := (e.session k).queue.filter (fun i =>
            ¬ (i ∈ b.windows ∧ (e.buffer i).state = .window ∧ (e.buffer i).holder = some (.session k))) }) ∧
        (∀ y, u.body.attends y = (b.attends y || u.body.documents.any (fun d => d.2.obliges y))) ∧
        u.body = { e with buffers := u.body.buffers, windows := u.body.windows, ready := u.body.ready,
                          sessions := u.body.sessions, attention := u.body.attention } ∧
        u = { x with body := u.body, resetHeld := true })

/-- The power-fail warning: RUNNING becomes POWER_FAIL and nothing is undone; withdrawn, POWER_FAIL becomes RUNNING with
what waits for it; in any other state the input's level alone changes. That it changes so with main power off too is the
model's choice (log 30). -/
def Obligations.ThePowerFailWarningChangesThePartState : Prop :=
  ∀ s : State,
    exec .powerFailWarning s = .next { s with sent := none, recovery := { s.recovery with
      pfw := true, part := if s.recovery.part = .running then .powerFail else s.recovery.part } } ∧
    (s.recovery.part ≠ .powerFail →
      exec .powerFailWithdrawn s = .next { s with sent := none, recovery := { s.recovery with pfw := false } }) ∧
    (s.recovery.part = .powerFail → ∃ u : State, exec .powerFailWithdrawn s = .next u ∧
      Resumed { s with sent := none, recovery := { s.recovery with pfw := false, part := .running } } u)

/-- MAIN_POWER_LOSS: the part is off, the ordinary memory and the transaction are lost, what the part was sending with
them (how much of it had gone is free, log 31), the operations under way are cut off in the array within the limits of
R98, and the mark stays unless a change was cut off; all else is kept. Whether a change was cut off is the event's
operand, the model's choice (log 20). -/
def Obligations.LossOfMainPowerLosesTheOrdinaryMemory : Prop :=
  ∀ (s : State) (cutsChange : Bool),
    (s.recovery.part = .off → exec (.mainPowerLoss cutsChange) s = .next { s with sent := none }) ∧
    (s.recovery.part ≠ .off → ∃ u x : State,
      exec (.mainPowerLoss cutsChange) s = .next u ∧ TransactionEnded s x ∧
      u.recovery = { s.recovery with part := .off, mark := s.recovery.mark && !cutsChange } ∧
      (∀ i, u.body.buffer i = ⟨.free, none, none, none, [], false⟩) ∧ u.body.ready = [] ∧ u.body.windows = [] ∧
      (∀ k, u.body.bank k = if k < 4 then { s.body.bank k with fetchQueue := [], op := .none } else s.body.bank k) ∧
      (∀ k, u.body.session k = if k < 32 then { s.body.session k with queue := [] } else s.body.session k) ∧
      u.body = { s.body with buffers := u.body.buffers, ready := [], windows := [], banks := u.body.banks,
                             sessions := u.body.sessions } ∧
      u = { x with body := u.body, recovery := u.recovery, flash := u.flash } ∧
      ∀ l, let works := fun k => match (s.body.bank k).op with
          | .program _ m _ | .voidMark m | .erase m => m = l
          | .none | .fetch _ => False
        ((∀ k, k < 4 → ¬ works k) → u.flash.spareOf l = s.flash.spareOf l ∧
          ∀ a, l * 4096 ≤ a → a < l * 4096 + 4096 → Memory.read u.flash.data a = Memory.read s.flash.data a) ∧
        ∀ k, k < 4 → (∀ j, j < 4 → j ≠ k → ¬ works j) →
          let cls := (u.flash.spareOf l).classOf
          (∀ i header, (s.body.bank k).op = .program i l header →
            cls = .erased ∨ cls = .unreadable ∨ u.flash.spareOf l = ⟨header, 0xFFFF#16⟩) ∧
          ((s.body.bank k).op = .voidMark l → (u.flash.spareOf l).header = (s.flash.spareOf l).header) ∧
          ((s.body.bank k).op = .erase l →
            cls = .erased ∨ cls = .unreadable ∨ u.flash.spareOf l = s.flash.spareOf l))

/-- MAIN_POWER_RETURN reads the straps, and the mark decides: a warm start keeps the backed-up memory and settles the node
table, a cold start takes every cold-start value. A failure of the backup supply loses the backed-up memory, the mark
and the record of the last starts included; what it leaves is the model's choice (log 13). -/
def Obligations.TheMarkDecidesTheStart : Prop :=
  ∀ (s : State) (hub : BitVec 2) (node : BitVec 5), s.recovery.part = .off →
    let n := node.toNat
    let cold := fun body : Body => body = { Body.cold with draws := s.body.draws }
    (s.recovery.mark = true → ∃ u : State,
      exec (.mainPowerReturn hub node) s = .next u ∧
      u.recovery = { s.recovery with part := .starting, mark := false, lastStart := .warm } ∧
      (∀ k, (u.body.session k) = ⟨.idle, none, none, []⟩) ∧ u.body = { s.body with sessions := u.body.sessions } ∧
      u.tables.hub = hub.toNat ∧ u.tables.recordsNode = n ∧
      (n = s.tables.recordsNode → u.tables = { s.tables with hub := hub.toNat }) ∧
      (n ≠ s.tables.recordsNode → u.tables.role n = .records ∧ u.tables.role s.tables.recordsNode = .none ∧
        (∀ m, m ≠ n → m ≠ s.tables.recordsNode → u.tables.role m = s.tables.role m) ∧
        ∀ d, u.tables.dept d = (if s.tables.role n = .department d
          then { s.tables.dept d with nodes := (s.tables.dept d).nodes.filter (fun m => m ≠ n) }
          else s.tables.dept d)) ∧
      u.tables = { s.tables with nodes := u.tables.nodes, depts := u.tables.depts, hub := u.tables.hub,
                                 recordsNode := u.tables.recordsNode } ∧
      u = { s with tables := u.tables, body := u.body, recovery := u.recovery, sent := none }) ∧
    (s.recovery.mark = false → ∃ u : State,
      exec (.mainPowerReturn hub node) s = .next u ∧ cold u.body ∧ u.time = ⟨0, false, 0, 0⟩ ∧
      u.tables = Tables.cold hub.toNat n ∧ u.recovery = ⟨.rebuilding, false, true, s.recovery.pfw, .cold, 0, 0, 0, 0, 0, 0⟩ ∧
      u = { s with tables := u.tables, body := u.body, time := u.time, recovery := u.recovery, sent := none }) ∧
    ∃ u : State,
      exec .backupSupplyFailure s = .next u ∧ cold u.body ∧ u.time = ⟨0, false, 0, 0⟩ ∧
      u.tables = Tables.cold s.tables.hub s.tables.recordsNode ∧
      u.recovery = ⟨.off, false, false, s.recovery.pfw, .cold, 0, 0, 0, 0, 0, 0⟩ ∧
      u = { s with tables := u.tables, body := u.body, time := u.time, recovery := u.recovery, sent := none }

/-! ### The two starts (10_power_failure_and_recovery.md) -/

/-- A warm start's reconciliation: the mark restored and RUNNING or POWER_FAIL by the PFW input, with what waits for it;
volatile state empty. A document stays exactly where it keeps a slot, and, while PURGING, one not released; it keeps
exactly the slots before the first unsafe one of each page, up to the first page that keeps none; every other is freed
with its generation advanced. Leaves never written go BLANK, interrupted and dropped ones VOID, at the places of R100
and R165 in the blank lists and erase queues. The loss is taken from the obligations in list order, then from the
retained charge, and every account is again the sum of its department's charges; RECEIVING documents that stay close
POWER_LOSS. The three counts are the model's choice (log 28): a RECEIVING document that keeps no leaf slot counts both
as closed and as discarded, and released slots that go count as removed. Leaf table and catalog are taken in their
canonical form, which every step keeps. -/
def Obligations.WarmStartKeepsWhatReachedFlash : Prop :=
  ∀ s : State, s.recovery.part = .starting → Table.wf Leaf.blank s.body.leaves → Table.wf Slot.free s.body.catalog →
    let b := s.body
    let lost := fun d : Document => (b.lostSlots d).countP (fun v => v != .released)
    let dropped := fun l => (b.leaf l).state = .programmed ∧ ∃ n d, b.doc n = some d ∧ .placed l ∈ b.lostSlots d
    ∃ v u : State,
      exec .warmStartComplete s = .next u ∧ Resumed v u ∧
      v = { s with body := v.body, recovery := v.recovery, sent := none } ∧
      v.recovery = { s.recovery with
        part := if s.recovery.pfw then .powerFail else .running, mark := true,
        warmClosed := b.documents.countP (fun e => e.2.state == .receiving),
        warmDiscarded := b.documents.countP (fun e => (b.keptSlots e.2).isEmpty),
        warmRemoved := (b.documents.map (fun e => (b.lostSlots e.2).length)).sum } ∧
      (∀ k, v.body.session k = ⟨.idle, none, none, []⟩) ∧
      (∀ i, v.body.buffer i = ⟨.free, none, none, none, [], false⟩) ∧ v.body.ready = [] ∧ v.body.windows = [] ∧
      v.body = { b with sessions := v.body.sessions, buffers := v.body.buffers, ready := [], windows := [],
                        leaves := v.body.leaves, banks := v.body.banks, purges := v.body.purges,
                        catalog := v.body.catalog, accounts := v.body.accounts } ∧
      v.body.purges = b.purges.filter (fun n => ((b.doc n).map b.stays).getD true) ∧
      (∀ l,
        ((b.leaf l).state = .filling ∨ (b.leaf l).state = .ready → v.body.leaf l = ⟨.blank, none, none⟩) ∧
        ((b.leaf l).state = .programming ∨ (b.leaf l).state = .voiding ∨ (b.leaf l).state = .erasing ∨ dropped l →
          v.body.leaf l = ⟨.void, none, none⟩) ∧
        ((b.leaf l).state = .programmed ∧ ¬ dropped l ∨ (b.leaf l).state = .blank ∨ (b.leaf l).state = .void ∨
          (b.leaf l).state = .retired → v.body.leaf l = b.leaf l)) ∧
      (∀ k, k < 4 → ∃ gone : List Nat, gone.Pairwise (fun l m => l < m) ∧ (∀ l, l ∈ gone ↔ l % 4 = k ∧ dropped l) ∧
        v.body.bank k = ⟨(b.bank k).blank ++ b.listed k (fun st => st == .filling || st == .ready),
          b.listed k (fun st => st == .erasing) ++ (b.bank k).eraseQueue ++ b.listed k (fun st => st == .programming) ++
            b.listed k (fun st => st == .voiding) ++ gone, [], .none⟩) ∧
      (∀ n, b.doc n = none → v.body.slot n = b.slot n) ∧
      (∀ n d, b.doc n = some d → b.stays d = false → v.body.slot n = ⟨((b.slot n).generation + 1) % 256, none⟩) ∧
      (∀ n d, b.doc n = some d → b.stays d = true →
        let cut := { d with pages := b.keptPages d }
        ∃ f : Document, v.body.slot n = ⟨(b.slot n).generation, some f⟩ ∧
          (d.state = .purging → f = { cut with retained := d.retained - lost d }) ∧
          (d.state = .distributing ∨ d.state = .retained →
            f = { cut with obligations := f.obligations, retained := f.retained } ∧
            f.obligations.length = d.obligations.length ∧
            ∀ (j : Nat) (o : Obligation), d.obligations[j]? = some o → f.obligations[j]? = some { o with
              charge := o.charge - (lost d - ((d.obligations.take j).map (fun q => q.charge)).sum) }) ∧
          (d.state ≠ .purging →
            f.retained = d.retained - (lost d - (d.obligations.map (fun q => q.charge)).sum)) ∧
          (d.state = .receiving →
            f = { d with state := .distributing, ending := some .powerLoss, session := none,
                         receipt := some ⟨s.time.clock, s.time.trusted⟩, pages := f.pages, obligations := f.obligations,
                         retained := f.retained, base := f.base, departments := f.departments,
                         retainUntil := f.retainUntil } ∧
            f.pages = cut.pages.dropLast ++ (cut.pages.getLast?.map Page.cut).toList ∧
            f.obligations = cut.apportioned.map
              (fun o => { o with deadline := s.tables.deadline o.department o.kind s.time.run }) ∧
            (∀ x, x ∈ f.departments ↔ ∃ o ∈ d.obligations, o.department = x) ∧
            (s.time.trusted = true → f.base = .known s.time.clock ∧ f.retainUntil = .known
              (min (s.time.clock + s.tables.longestRetention f.departments * 5529600) 281474976710655)) ∧
            (s.time.trusted = false → f.base = .pending ∧ f.retainUntil = .pending))) ∧
      (b.chargesLawful → ∀ x, v.body.account x =
        (v.body.documents.map (fun e => chargeOf e.2.obligations x)).sum)

/-- The header scan reads one leaf more: erased it is BLANK at the back of its blank list, void-marked VOID at the back of
its erase queue, unreadable RETIRED on no list; a valid leaf waits for the rebuild. Nothing else changes. -/
def Obligations.TheHeaderScanClassesEachLeaf : Prop :=
  ∀ s : State, s.recovery.part = .rebuilding → s.recovery.scanned < 65536 →
    let l := s.recovery.scanned
    let cls := (s.flash.spareOf l).classOf
    ∃ u : State,
      exec .headerScanLeafRead s = .next u ∧ u.recovery = { s.recovery with scanned := l + 1 } ∧
      (cls = .erased → u.body.leaf l = ⟨.blank, none, none⟩) ∧
      (cls = .voidMarked → u.body.leaf l = ⟨.void, none, none⟩) ∧
      (cls = .unreadable → u.body.leaf l = ⟨.retired, none, none⟩) ∧
      (∀ h, cls = .valid h → u.body = s.body) ∧ (∀ m, m ≠ l → u.body.leaf m = s.body.leaf m) ∧
      (∀ k, u.body.bank k = { s.body.bank k with
        blank := (s.body.bank k).blank ++ if k = l % 4 ∧ cls = .erased then [l] else [],
        eraseQueue := (s.body.bank k).eraseQueue ++ if k = l % 4 ∧ cls = .voidMarked then [l] else [] }) ∧
      u.body = { s.body with leaves := u.body.leaves, banks := u.body.banks } ∧
      u = { s with body := u.body, recovery := u.recovery, sent := none }

/-- The rebuild: every serial whose call has a leaf for page 1 index 0 gives a document, unless 4,096 such serials are higher;
the documents stand in ascending serial order from slot 0, each DISTRIBUTING and REBUILT, owed whole to intake, its times
from the headers and untrusted, its retention pending; its called extension, and density, width and coding of each page, are
those of the header of the first leaf there, the model's choice where headers disagree (log 17). Its slots name exactly the kept leaves of R168, each PROGRAMMED: of
the call with the latest open time, the lowest leaf of each place, the pages and the document running on until a missing
index or page or a final-leaf mark; every other valid leaf is VOID at the back of its erase queue. Intake's account is the
sum of the leaf counts. The mark is restored and the part RUNNING or POWER_FAIL, with what waits for it. -/
def Obligations.TheRebuildReadsTheCatalogFromTheHeaders : Prop :=
  ∀ s : State, s.recovery.part = .rebuilding → s.body.catalog = [] → s.flash.lawful →
    ∃ v u : State,
      exec .rebuildComplete s = .next u ∧ Resumed v u ∧
      v = { s with body := v.body, recovery := v.recovery, sent := none } ∧
      v.recovery.part = (if s.recovery.pfw then .powerFail else .running) ∧ v.recovery.mark = true ∧
      v.recovery.scanned = 65536 ∧ v.recovery.coldRebuilt = v.body.documents.length ∧
      v.recovery.coldDropped + (v.body.documents.map (fun e => e.2.leafCount)).sum = s.flash.spare.countP (fun e =>
        match e.2.classOf with
        | .valid _ => true
        | .erased | .voidMarked | .unreadable => false) ∧
      (∀ n f, v.body.doc n = some f → (v.body.slot n).generation = 0 ∧ f.state = .distributing ∧
        f.ending = some .rebuilt ∧ f.session = none ∧ f.caller = none ∧ f.openTime.trusted = false ∧
        f.receipt = some f.openTime ∧ f.retained = 0 ∧ f.base = .pending ∧ f.retainUntil = .pending ∧
        f.departments = [0] ∧ f.holds = [] ∧ f.pages ≠ [] ∧ n < 4096 ∧
        f.obligations = [⟨0, .rebuilt, .pending, 0, none, false, f.leafCount⟩] ∧
        ∀ j p, f.pages[j]? = some p → p.slots ≠ [] ∧ p.counts = none ∧ ∀ x slot, p.slots[x]? = some slot →
          ∃ l h, slot = .placed l ∧ (s.flash.spareOf l).classOf = .valid h ∧ h.serial = f.serial ∧ h.page = j + 1 ∧
            h.index = x ∧ h.openTime = f.openTime.ticks ∧ (x + 1 < p.slots.length → h.final = 0) ∧
            (x + 1 = p.slots.length → p.state = if h.final = 1 then .closed else .cut) ∧
            (x = 0 → p.density = h.density ∧ p.width = h.width ∧ p.coding = h.coding) ∧
            (x = 0 → j = 0 → f.extension = h.extension) ∧
            v.body.leaf l = ⟨.programmed, some ⟨n, j + 1, x⟩, none⟩) ∧
      (∀ n f, v.body.doc n = some f → ∀ j x l,
        (∃ p, f.pages[j]? = some p ∧ p.slots[x]? = some (.placed l)) ↔ s.flash.keptAt f.serial (j + 1) x l) ∧
      (∀ n f p, v.body.doc n = some f → p ∈ f.pages → p.byteLength = (p.slots.map (fun slot => match slot with
        | .placed l => (match (s.flash.spareOf l).classOf with
          | .valid h => h.byteCount
          | .erased | .voidMarked | .unreadable => 0)
        | .unplaced | .released => 0)).sum) ∧
      (∀ q l, s.flash.keptAt q 1 0 l →
        (∀ higher : List Nat, higher.Nodup → (∀ r ∈ higher, q < r ∧ ∃ m, s.flash.keptAt r 1 0 m) → higher.length < 4096) →
        ∃ n f, v.body.doc n = some f ∧ f.serial = q) ∧
      (∀ n m f g, v.body.doc n = some f → v.body.doc m = some g → n < m → f.serial < g.serial) ∧
      (∀ n f, v.body.doc (n + 1) = some f → v.body.doc n ≠ none) ∧
      (∀ l h, (s.flash.spareOf l).classOf = .valid h →
        (∃ n f p, v.body.doc n = some f ∧ p ∈ f.pages ∧ .placed l ∈ p.slots) ∨ v.body.leaf l = ⟨.void, none, none⟩) ∧
      (∀ l, s.recovery.scanned ≤ l → l < 65536 →
        ((s.flash.spareOf l).classOf = .erased → v.body.leaf l = ⟨.blank, none, none⟩) ∧
        ((s.flash.spareOf l).classOf = .voidMarked → v.body.leaf l = ⟨.void, none, none⟩) ∧
        ((s.flash.spareOf l).classOf = .unreadable → v.body.leaf l = ⟨.retired, none, none⟩)) ∧
      (∀ k, k < 4 →
        let rest := fun cls => ((List.range (65536 - s.recovery.scanned)).map (fun x => s.recovery.scanned + x)).filter
          (fun l => decide (l % 4 = k) && (s.flash.spareOf l).classOf == cls)
        ∃ gone : List Nat, gone.Pairwise (fun l m => l < m) ∧
          (∀ l, l ∈ gone ↔ l % 4 = k ∧ (∃ h, (s.flash.spareOf l).classOf = .valid h) ∧
            ¬ ∃ n f p, v.body.doc n = some f ∧ p ∈ f.pages ∧ .placed l ∈ p.slots) ∧
          v.body.bank k = { s.body.bank k with
            blank := (s.body.bank k).blank ++ rest .erased,
            eraseQueue := (s.body.bank k).eraseQueue ++ rest .voidMarked ++ gone }) ∧
      (∀ l, l < s.recovery.scanned ∨ 65536 ≤ l → (∀ h, (s.flash.spareOf l).classOf ≠ .valid h) →
        v.body.leaf l = s.body.leaf l) ∧
      v.body = { s.body with leaves := v.body.leaves, banks := v.body.banks, catalog := v.body.catalog,
                             accounts := v.body.accounts, attention := v.body.attention,
                             nextSerial := v.body.nextSerial } ∧
      v.body.account 0 = (v.body.documents.map (fun e => e.2.leafCount)).sum ∧
      v.body.attends 0 = (s.body.attends 0 || !v.body.documents.isEmpty) ∧
      (∀ x, x ≠ 0 → v.body.account x = s.body.account x ∧ v.body.attends x = s.body.attends x) ∧
      (v.body.documents = [] → v.body.nextSerial = 1) ∧
      ∀ e, v.body.documents.getLast? = some e → v.body.nextSerial = e.2.serial + 1
end

