-- ==== Sys2Proof/Laws/Table.lean ====
section
/-! SUPPORT. What the operations on sparse tables do, and that each keeps the canonical form. -/

namespace Sys2Proof.Machine

variable {α : Type}

@[simp] theorem Table.read_nil (d : α) (n : Nat) : Table.read d [] n = d := rfl

theorem Table.read_put (d : α) (t : Table α) (n m : Nat) (v : α) :
    Table.read d (Table.put n v t) m = if m = n then v else Table.read d t m := by
  induction t with
  | nil => simp [Table.put, Table.read]
  | cons e t ih =>
    obtain ⟨k, w⟩ := e
    simp only [Table.put]
    split_ifs <;> simp_all [Table.read]

theorem Table.read_drop (d : α) (t : Table α) (n m : Nat) :
    Table.read d (Table.drop n t) m = if m = n then d else Table.read d t m := by
  induction t with
  | nil => simp [Table.drop, Table.read]
  | cons e t ih =>
    obtain ⟨k, w⟩ := e
    simp only [Table.drop] at ih ⊢
    rw [List.filter_cons]
    by_cases hk : k = n
    · subst hk
      simp only [ne_eq, not_true_eq_false, decide_false, Bool.false_eq_true, if_false, ih, Table.read]
      split_ifs <;> rfl
    · simp only [ne_eq, hk, not_false_eq_true, decide_true, if_true, Table.read, ih]
      split_ifs <;> simp_all

/-- Reading after a write: the value written at its key, the old value elsewhere. -/
@[simp] theorem Table.read_write [DecidableEq α] (d : α) (t : Table α) (n m : Nat) (v : α) :
    Table.read d (Table.write d t n v) m = if m = n then v else Table.read d t m := by
  unfold Table.write
  split_ifs with hv h h
  · rw [Table.read_drop, if_pos h, hv]
  · rw [Table.read_drop, if_neg h]
  · rw [Table.read_put, if_pos h]
  · rw [Table.read_put, if_neg h]

theorem Table.read_write_self [DecidableEq α] (d : α) (t : Table α) (n : Nat) (v : α) :
    Table.read d (Table.write d t n v) n = v := by simp

theorem Table.read_write_other [DecidableEq α] (d : α) (t : Table α) {n m : Nat} (h : m ≠ n) (v : α) :
    Table.read d (Table.write d t n v) m = Table.read d t m := by simp [h]

/-! ### The canonical form -/

theorem Table.wf_nil [DecidableEq α] (d : α) : Table.wf d ([] : Table α) := ⟨List.Pairwise.nil, by simp⟩

theorem Table.mem_put {t : Table α} {n : Nat} {v : α} {e : Nat × α} (h : e ∈ Table.put n v t) : e = (n, v) ∨ e ∈ t := by
  induction t with
  | nil => simpa [Table.put] using h
  | cons f t ih =>
    obtain ⟨k, w⟩ := f
    simp only [Table.put] at h
    split_ifs at h
    · simpa using h
    · rcases List.mem_cons.1 h with h | h
      · exact Or.inl h
      · exact Or.inr (List.mem_cons_of_mem _ h)
    · rcases List.mem_cons.1 h with h | h
      · exact Or.inr (h ▸ List.mem_cons_self)
      · exact (ih h).imp id (List.mem_cons_of_mem _)

theorem Table.pairwise_put {t : Table α} (n : Nat) (v : α) (h : t.Pairwise (fun p q => p.1 < q.1)) :
    (Table.put n v t).Pairwise (fun p q => p.1 < q.1) := by
  induction t with
  | nil => simp [Table.put]
  | cons f t ih =>
    obtain ⟨k, w⟩ := f
    obtain ⟨hk, ht⟩ := List.pairwise_cons.1 h
    simp only [Table.put]
    split_ifs with h1 h2
    · refine List.pairwise_cons.2 ⟨fun q hq => ?_, h⟩
      rcases List.mem_cons.1 hq with hq | hq
      · simpa [hq] using h1
      · exact lt_trans h1 (hk q hq)
    · exact List.pairwise_cons.2 ⟨fun q hq => h2 ▸ hk q hq, ht⟩
    · refine List.pairwise_cons.2 ⟨fun q hq => ?_, ih ht⟩
      rcases Table.mem_put hq with hq | hq
      · subst hq; simp; omega
      · exact hk q hq

/-- A write keeps the canonical form. -/
theorem Table.wf_write [DecidableEq α] {d : α} {t : Table α} (n : Nat) (v : α) (h : Table.wf d t) :
    Table.wf d (Table.write d t n v) := by
  unfold Table.write
  split_ifs with hv
  · exact ⟨h.1.sublist List.filter_sublist, fun p hp => h.2 p (List.mem_of_mem_filter hp)⟩
  · refine ⟨Table.pairwise_put n v h.1, fun p hp => ?_⟩
    rcases Table.mem_put hp with hp | hp
    · subst hp; exact hv
    · exact h.2 p hp

/-- Selecting entries keeps the canonical form. -/
theorem Table.wf_filter [DecidableEq α] {d : α} {t : Table α} (p : Nat × α → Bool) (h : Table.wf d t) :
    Table.wf d (t.filter p) :=
  ⟨h.1.sublist List.filter_sublist, fun q hq => h.2 q (List.mem_of_mem_filter hq)⟩

/-- Reading after selecting entries by key. -/
theorem Table.read_filter_key (d : α) (t : Table α) (p : Nat → Bool) (n : Nat) :
    Table.read d (t.filter (fun e => p e.1)) n = if p n then Table.read d t n else d := by
  induction t with
  | nil => simp
  | cons e t ih =>
    obtain ⟨k, w⟩ := e
    rw [List.filter_cons]
    by_cases hk : p k
    · simp only [hk, if_true, Table.read, ih]
      split_ifs <;> simp_all
    · simp only [hk, Bool.false_eq_true, if_false, Table.read, ih]
      split_ifs <;> simp_all

theorem firstFrom_some {p : Nat → Bool} {fuel start n : Nat} (h : firstFrom p fuel start = some n) :
    p n = true ∧ start ≤ n ∧ n < start + fuel ∧ ∀ m, start ≤ m → m < n → p m = false := by
  induction fuel generalizing start with
  | zero => simp [firstFrom] at h
  | succ fuel ih =>
    unfold firstFrom at h
    split_ifs at h with hp
    · cases h
      exact ⟨hp, le_refl _, by omega, fun m h1 h2 => by omega⟩
    · obtain ⟨h1, h2, h3, h4⟩ := ih h
      refine ⟨h1, by omega, by omega, fun m hm hn => ?_⟩
      rcases Nat.eq_or_lt_of_le hm with hm | hm
      · subst hm; simpa using hp
      · exact h4 m hm hn

@[simp] theorem length_updateNth (f : α → α) (l : List α) (i : Nat) : (updateNth f l i).length = l.length := by
  induction l generalizing i with
  | nil => rfl
  | cons x xs ih => cases i <;> simp [updateNth, ih]

theorem getElem?_updateNth (f : α → α) (l : List α) (i j : Nat) :
    (updateNth f l i)[j]? = if j = i then l[j]?.map f else l[j]? := by
  induction l generalizing i j with
  | nil => simp [updateNth]
  | cons x xs ih => cases i <;> cases j <;> simp [updateNth, ih]

end Sys2Proof.Machine
end

