-- ==== Sys2Proof/Laws/State.lean ====
section
/-! SUPPORT. One lemma per field per update, so that no proof unfolds a record update. -/

namespace Sys2Proof.Machine

/-! ### Updates of the whole state -/

@[simp] theorem State.quiet_body (s : State) : s.quiet.body = s.body := rfl
@[simp] theorem State.quiet_tables (s : State) : s.quiet.tables = s.tables := rfl
@[simp] theorem State.quiet_time (s : State) : s.quiet.time = s.time := rfl
@[simp] theorem State.quiet_recovery (s : State) : s.quiet.recovery = s.recovery := rfl
@[simp] theorem State.quiet_flash (s : State) : s.quiet.flash = s.flash := rfl
@[simp] theorem State.quiet_txn (s : State) : s.quiet.txn = s.txn := rfl
@[simp] theorem State.quiet_resetHeld (s : State) : s.quiet.resetHeld = s.resetHeld := rfl
@[simp] theorem State.quiet_sent (s : State) : s.quiet.sent = none := rfl
@[simp] theorem State.quiet_cuts (s : State) : s.quiet.cuts = s.cuts := rfl
@[simp] theorem State.quiet_pending (s : State) : s.quiet.pending = s.pending := rfl

@[simp] theorem State.nextPacket_body (s : State) : s.nextPacket.body = s.body := rfl
@[simp] theorem State.nextPacket_tables (s : State) : s.nextPacket.tables = s.tables := rfl
@[simp] theorem State.nextPacket_time (s : State) : s.nextPacket.time = s.time := rfl
@[simp] theorem State.nextPacket_recovery (s : State) : s.nextPacket.recovery = s.recovery := rfl
@[simp] theorem State.nextPacket_flash (s : State) : s.nextPacket.flash = s.flash := rfl
@[simp] theorem State.nextPacket_txn (s : State) : s.nextPacket.txn = .none := rfl
@[simp] theorem State.nextPacket_resetHeld (s : State) : s.nextPacket.resetHeld = s.resetHeld := rfl
@[simp] theorem State.nextPacket_sent (s : State) : s.nextPacket.sent = none := rfl
@[simp] theorem State.nextPacket_cuts (s : State) : s.nextPacket.cuts = s.cuts := rfl
@[simp] theorem State.nextPacket_pending (s : State) : s.nextPacket.pending = s.pending := rfl

@[simp] theorem State.send_body (s : State) (a : Answer) (k : Block) : (s.send a k).body = s.body := rfl
@[simp] theorem State.send_tables (s : State) (a : Answer) (k : Block) : (s.send a k).tables = s.tables := rfl
@[simp] theorem State.send_time (s : State) (a : Answer) (k : Block) : (s.send a k).time = s.time := rfl
@[simp] theorem State.send_recovery (s : State) (a : Answer) (k : Block) : (s.send a k).recovery = s.recovery := rfl
@[simp] theorem State.send_flash (s : State) (a : Answer) (k : Block) : (s.send a k).flash = s.flash := rfl
@[simp] theorem State.send_txn (s : State) (a : Answer) (k : Block) : (s.send a k).txn = .sending ⟨a, k, none⟩ := rfl
@[simp] theorem State.send_resetHeld (s : State) (a : Answer) (k : Block) : (s.send a k).resetHeld = s.resetHeld := rfl
@[simp] theorem State.send_sent (s : State) (a : Answer) (k : Block) : (s.send a k).sent = some ⟨a, k, none⟩ := rfl
@[simp] theorem State.send_cuts (s : State) (a : Answer) (k : Block) : (s.send a k).cuts = s.cuts := rfl
@[simp] theorem State.send_pending (s : State) (a : Answer) (k : Block) : (s.send a k).pending = s.pending := rfl

@[simp] theorem State.reply_body (s : State) (r : Role) (o : Op) (v : Verdict) (k : Block) : (s.reply r o v k).body = s.body := rfl
@[simp] theorem State.reply_tables (s : State) (r : Role) (o : Op) (v : Verdict) (k : Block) : (s.reply r o v k).tables = s.tables := rfl
@[simp] theorem State.reply_time (s : State) (r : Role) (o : Op) (v : Verdict) (k : Block) : (s.reply r o v k).time = s.time := rfl
@[simp] theorem State.reply_recovery (s : State) (r : Role) (o : Op) (v : Verdict) (k : Block) : (s.reply r o v k).recovery = s.recovery := rfl
@[simp] theorem State.reply_flash (s : State) (r : Role) (o : Op) (v : Verdict) (k : Block) : (s.reply r o v k).flash = s.flash := rfl
@[simp] theorem State.reply_txn (s : State) (r : Role) (o : Op) (v : Verdict) (k : Block) : (s.reply r o v k).txn = .sending ⟨⟨o.code, v, s.body.attentionFor r⟩, k, none⟩ := rfl
@[simp] theorem State.reply_resetHeld (s : State) (r : Role) (o : Op) (v : Verdict) (k : Block) : (s.reply r o v k).resetHeld = s.resetHeld := rfl
@[simp] theorem State.reply_sent (s : State) (r : Role) (o : Op) (v : Verdict) (k : Block) : (s.reply r o v k).sent = some ⟨⟨o.code, v, s.body.attentionFor r⟩, k, none⟩ := rfl
@[simp] theorem State.reply_cuts (s : State) (r : Role) (o : Op) (v : Verdict) (k : Block) : (s.reply r o v k).cuts = s.cuts := rfl
@[simp] theorem State.reply_pending (s : State) (r : Role) (o : Op) (v : Verdict) (k : Block) : (s.reply r o v k).pending = s.pending := rfl

@[simp] theorem State.withBody_body (s : State) (f : Body → Body) : (s.withBody f).body = f s.body := rfl
@[simp] theorem State.withBody_tables (s : State) (f : Body → Body) : (s.withBody f).tables = s.tables := rfl
@[simp] theorem State.withBody_time (s : State) (f : Body → Body) : (s.withBody f).time = s.time := rfl
@[simp] theorem State.withBody_recovery (s : State) (f : Body → Body) : (s.withBody f).recovery = s.recovery := rfl
@[simp] theorem State.withBody_flash (s : State) (f : Body → Body) : (s.withBody f).flash = s.flash := rfl
@[simp] theorem State.withBody_txn (s : State) (f : Body → Body) : (s.withBody f).txn = s.txn := rfl
@[simp] theorem State.withBody_resetHeld (s : State) (f : Body → Body) : (s.withBody f).resetHeld = s.resetHeld := rfl
@[simp] theorem State.withBody_sent (s : State) (f : Body → Body) : (s.withBody f).sent = s.sent := rfl
@[simp] theorem State.withBody_cuts (s : State) (f : Body → Body) : (s.withBody f).cuts = s.cuts := rfl
@[simp] theorem State.withBody_pending (s : State) (f : Body → Body) : (s.withBody f).pending = s.pending := rfl

@[simp] theorem State.arbitrate_body (s : State) : s.arbitrate.body = s.body.arbitrate s.recovery.part s.tables.floor := rfl
@[simp] theorem State.arbitrate_tables (s : State) : s.arbitrate.tables = s.tables := rfl
@[simp] theorem State.arbitrate_time (s : State) : s.arbitrate.time = s.time := rfl
@[simp] theorem State.arbitrate_recovery (s : State) : s.arbitrate.recovery = s.recovery := rfl
@[simp] theorem State.arbitrate_flash (s : State) : s.arbitrate.flash = s.flash := rfl
@[simp] theorem State.arbitrate_txn (s : State) : s.arbitrate.txn = s.txn := rfl
@[simp] theorem State.arbitrate_resetHeld (s : State) : s.arbitrate.resetHeld = s.resetHeld := rfl
@[simp] theorem State.arbitrate_sent (s : State) : s.arbitrate.sent = s.sent := rfl
@[simp] theorem State.arbitrate_cuts (s : State) : s.arbitrate.cuts = s.cuts := rfl
@[simp] theorem State.arbitrate_pending (s : State) : s.arbitrate.pending = s.pending := rfl

@[simp] theorem State.discard_body (s : State) (r : Role) (v : Verdict) : (s.discard r v).body = s.body := rfl
@[simp] theorem State.discard_tables (s : State) (r : Role) (v : Verdict) : (s.discard r v).tables = s.tables := rfl
@[simp] theorem State.discard_time (s : State) (r : Role) (v : Verdict) : (s.discard r v).time = s.time := rfl
@[simp] theorem State.discard_recovery (s : State) (r : Role) (v : Verdict) : (s.discard r v).recovery = s.recovery := rfl
@[simp] theorem State.discard_flash (s : State) (r : Role) (v : Verdict) : (s.discard r v).flash = s.flash := rfl
@[simp] theorem State.discard_txn (s : State) (r : Role) (v : Verdict) : (s.discard r v).txn = .discarding ⟨Op.append.code, v, s.body.attentionFor r⟩ := rfl
@[simp] theorem State.discard_resetHeld (s : State) (r : Role) (v : Verdict) : (s.discard r v).resetHeld = s.resetHeld := rfl
@[simp] theorem State.discard_sent (s : State) (r : Role) (v : Verdict) : (s.discard r v).sent = s.sent := rfl
@[simp] theorem State.discard_cuts (s : State) (r : Role) (v : Verdict) : (s.discard r v).cuts = s.cuts := rfl
@[simp] theorem State.discard_pending (s : State) (r : Role) (v : Verdict) : (s.discard r v).pending = s.pending := rfl

@[simp] theorem State.bankEvent_body (s : State) (b : Body) (f : Flash) : (s.bankEvent b f).body = b.arbitrate s.recovery.part s.tables.floor := rfl
@[simp] theorem State.bankEvent_tables (s : State) (b : Body) (f : Flash) : (s.bankEvent b f).tables = s.tables := rfl
@[simp] theorem State.bankEvent_time (s : State) (b : Body) (f : Flash) : (s.bankEvent b f).time = s.time := rfl
@[simp] theorem State.bankEvent_recovery (s : State) (b : Body) (f : Flash) : (s.bankEvent b f).recovery = s.recovery := rfl
@[simp] theorem State.bankEvent_flash (s : State) (b : Body) (f : Flash) : (s.bankEvent b f).flash = f := rfl
@[simp] theorem State.bankEvent_txn (s : State) (b : Body) (f : Flash) : (s.bankEvent b f).txn = s.txn := rfl
@[simp] theorem State.bankEvent_resetHeld (s : State) (b : Body) (f : Flash) : (s.bankEvent b f).resetHeld = s.resetHeld := rfl
@[simp] theorem State.bankEvent_sent (s : State) (b : Body) (f : Flash) : (s.bankEvent b f).sent = none := rfl
@[simp] theorem State.bankEvent_cuts (s : State) (b : Body) (f : Flash) : (s.bankEvent b f).cuts = s.cuts := rfl
@[simp] theorem State.bankEvent_pending (s : State) (b : Body) (f : Flash) : (s.bankEvent b f).pending = s.pending := rfl

/-! ### Setters of the body -/

@[simp] theorem Body.setSession_buffers (b : Body) (n : Nat) (v : Session) : (b.setSession n v).buffers = b.buffers := rfl
@[simp] theorem Body.setSession_ready (b : Body) (n : Nat) (v : Session) : (b.setSession n v).ready = b.ready := rfl
@[simp] theorem Body.setSession_windows (b : Body) (n : Nat) (v : Session) : (b.setSession n v).windows = b.windows := rfl
@[simp] theorem Body.setSession_leaves (b : Body) (n : Nat) (v : Session) : (b.setSession n v).leaves = b.leaves := rfl
@[simp] theorem Body.setSession_banks (b : Body) (n : Nat) (v : Session) : (b.setSession n v).banks = b.banks := rfl
@[simp] theorem Body.setSession_purges (b : Body) (n : Nat) (v : Session) : (b.setSession n v).purges = b.purges := rfl
@[simp] theorem Body.setSession_catalog (b : Body) (n : Nat) (v : Session) : (b.setSession n v).catalog = b.catalog := rfl
@[simp] theorem Body.setSession_nextSerial (b : Body) (n : Nat) (v : Session) : (b.setSession n v).nextSerial = b.nextSerial := rfl
@[simp] theorem Body.setSession_accounts (b : Body) (n : Nat) (v : Session) : (b.setSession n v).accounts = b.accounts := rfl
@[simp] theorem Body.setSession_attention (b : Body) (n : Nat) (v : Session) : (b.setSession n v).attention = b.attention := rfl
@[simp] theorem Body.setSession_draws (b : Body) (n : Nat) (v : Session) : (b.setSession n v).draws = b.draws := rfl
/-- Reading back after `setSession`. -/
@[simp] theorem Body.setSession_session (b : Body) (n : Nat) (v : Session) (m : Nat) :
    (b.setSession n v).session m = if m = n then v else b.session m := Table.read_write ..
@[simp] theorem Body.setSession_buffer (b : Body) (n : Nat) (v : Session) (m : Nat) : (b.setSession n v).buffer m = b.buffer m := rfl
@[simp] theorem Body.setSession_leaf (b : Body) (n : Nat) (v : Session) (m : Nat) : (b.setSession n v).leaf m = b.leaf m := rfl
@[simp] theorem Body.setSession_bank (b : Body) (n : Nat) (v : Session) (m : Nat) : (b.setSession n v).bank m = b.bank m := rfl
@[simp] theorem Body.setSession_slot (b : Body) (n : Nat) (v : Session) (m : Nat) : (b.setSession n v).slot m = b.slot m := rfl
@[simp] theorem Body.setSession_account (b : Body) (n : Nat) (v : Session) (m : Nat) : (b.setSession n v).account m = b.account m := rfl
@[simp] theorem Body.setSession_attends (b : Body) (n : Nat) (v : Session) (m : Nat) : (b.setSession n v).attends m = b.attends m := rfl
@[simp] theorem Body.setSession_doc (b : Body) (n : Nat) (v : Session) (m : Nat) : (b.setSession n v).doc m = b.doc m := rfl

@[simp] theorem Body.setBuffer_sessions (b : Body) (n : Nat) (v : Buffer) : (b.setBuffer n v).sessions = b.sessions := rfl
@[simp] theorem Body.setBuffer_ready (b : Body) (n : Nat) (v : Buffer) : (b.setBuffer n v).ready = b.ready := rfl
@[simp] theorem Body.setBuffer_windows (b : Body) (n : Nat) (v : Buffer) : (b.setBuffer n v).windows = b.windows := rfl
@[simp] theorem Body.setBuffer_leaves (b : Body) (n : Nat) (v : Buffer) : (b.setBuffer n v).leaves = b.leaves := rfl
@[simp] theorem Body.setBuffer_banks (b : Body) (n : Nat) (v : Buffer) : (b.setBuffer n v).banks = b.banks := rfl
@[simp] theorem Body.setBuffer_purges (b : Body) (n : Nat) (v : Buffer) : (b.setBuffer n v).purges = b.purges := rfl
@[simp] theorem Body.setBuffer_catalog (b : Body) (n : Nat) (v : Buffer) : (b.setBuffer n v).catalog = b.catalog := rfl
@[simp] theorem Body.setBuffer_nextSerial (b : Body) (n : Nat) (v : Buffer) : (b.setBuffer n v).nextSerial = b.nextSerial := rfl
@[simp] theorem Body.setBuffer_accounts (b : Body) (n : Nat) (v : Buffer) : (b.setBuffer n v).accounts = b.accounts := rfl
@[simp] theorem Body.setBuffer_attention (b : Body) (n : Nat) (v : Buffer) : (b.setBuffer n v).attention = b.attention := rfl
@[simp] theorem Body.setBuffer_draws (b : Body) (n : Nat) (v : Buffer) : (b.setBuffer n v).draws = b.draws := rfl
/-- Reading back after `setBuffer`. -/
@[simp] theorem Body.setBuffer_buffer (b : Body) (n : Nat) (v : Buffer) (m : Nat) :
    (b.setBuffer n v).buffer m = if m = n then v else b.buffer m := Table.read_write ..
@[simp] theorem Body.setBuffer_session (b : Body) (n : Nat) (v : Buffer) (m : Nat) : (b.setBuffer n v).session m = b.session m := rfl
@[simp] theorem Body.setBuffer_leaf (b : Body) (n : Nat) (v : Buffer) (m : Nat) : (b.setBuffer n v).leaf m = b.leaf m := rfl
@[simp] theorem Body.setBuffer_bank (b : Body) (n : Nat) (v : Buffer) (m : Nat) : (b.setBuffer n v).bank m = b.bank m := rfl
@[simp] theorem Body.setBuffer_slot (b : Body) (n : Nat) (v : Buffer) (m : Nat) : (b.setBuffer n v).slot m = b.slot m := rfl
@[simp] theorem Body.setBuffer_account (b : Body) (n : Nat) (v : Buffer) (m : Nat) : (b.setBuffer n v).account m = b.account m := rfl
@[simp] theorem Body.setBuffer_attends (b : Body) (n : Nat) (v : Buffer) (m : Nat) : (b.setBuffer n v).attends m = b.attends m := rfl
@[simp] theorem Body.setBuffer_doc (b : Body) (n : Nat) (v : Buffer) (m : Nat) : (b.setBuffer n v).doc m = b.doc m := rfl

@[simp] theorem Body.setLeaf_sessions (b : Body) (n : Nat) (v : Leaf) : (b.setLeaf n v).sessions = b.sessions := rfl
@[simp] theorem Body.setLeaf_buffers (b : Body) (n : Nat) (v : Leaf) : (b.setLeaf n v).buffers = b.buffers := rfl
@[simp] theorem Body.setLeaf_ready (b : Body) (n : Nat) (v : Leaf) : (b.setLeaf n v).ready = b.ready := rfl
@[simp] theorem Body.setLeaf_windows (b : Body) (n : Nat) (v : Leaf) : (b.setLeaf n v).windows = b.windows := rfl
@[simp] theorem Body.setLeaf_banks (b : Body) (n : Nat) (v : Leaf) : (b.setLeaf n v).banks = b.banks := rfl
@[simp] theorem Body.setLeaf_purges (b : Body) (n : Nat) (v : Leaf) : (b.setLeaf n v).purges = b.purges := rfl
@[simp] theorem Body.setLeaf_catalog (b : Body) (n : Nat) (v : Leaf) : (b.setLeaf n v).catalog = b.catalog := rfl
@[simp] theorem Body.setLeaf_nextSerial (b : Body) (n : Nat) (v : Leaf) : (b.setLeaf n v).nextSerial = b.nextSerial := rfl
@[simp] theorem Body.setLeaf_accounts (b : Body) (n : Nat) (v : Leaf) : (b.setLeaf n v).accounts = b.accounts := rfl
@[simp] theorem Body.setLeaf_attention (b : Body) (n : Nat) (v : Leaf) : (b.setLeaf n v).attention = b.attention := rfl
@[simp] theorem Body.setLeaf_draws (b : Body) (n : Nat) (v : Leaf) : (b.setLeaf n v).draws = b.draws := rfl
/-- Reading back after `setLeaf`. -/
@[simp] theorem Body.setLeaf_leaf (b : Body) (n : Nat) (v : Leaf) (m : Nat) :
    (b.setLeaf n v).leaf m = if m = n then v else b.leaf m := Table.read_write ..
@[simp] theorem Body.setLeaf_session (b : Body) (n : Nat) (v : Leaf) (m : Nat) : (b.setLeaf n v).session m = b.session m := rfl
@[simp] theorem Body.setLeaf_buffer (b : Body) (n : Nat) (v : Leaf) (m : Nat) : (b.setLeaf n v).buffer m = b.buffer m := rfl
@[simp] theorem Body.setLeaf_bank (b : Body) (n : Nat) (v : Leaf) (m : Nat) : (b.setLeaf n v).bank m = b.bank m := rfl
@[simp] theorem Body.setLeaf_slot (b : Body) (n : Nat) (v : Leaf) (m : Nat) : (b.setLeaf n v).slot m = b.slot m := rfl
@[simp] theorem Body.setLeaf_account (b : Body) (n : Nat) (v : Leaf) (m : Nat) : (b.setLeaf n v).account m = b.account m := rfl
@[simp] theorem Body.setLeaf_attends (b : Body) (n : Nat) (v : Leaf) (m : Nat) : (b.setLeaf n v).attends m = b.attends m := rfl
@[simp] theorem Body.setLeaf_doc (b : Body) (n : Nat) (v : Leaf) (m : Nat) : (b.setLeaf n v).doc m = b.doc m := rfl

@[simp] theorem Body.setBank_sessions (b : Body) (n : Nat) (v : Bank) : (b.setBank n v).sessions = b.sessions := rfl
@[simp] theorem Body.setBank_buffers (b : Body) (n : Nat) (v : Bank) : (b.setBank n v).buffers = b.buffers := rfl
@[simp] theorem Body.setBank_ready (b : Body) (n : Nat) (v : Bank) : (b.setBank n v).ready = b.ready := rfl
@[simp] theorem Body.setBank_windows (b : Body) (n : Nat) (v : Bank) : (b.setBank n v).windows = b.windows := rfl
@[simp] theorem Body.setBank_leaves (b : Body) (n : Nat) (v : Bank) : (b.setBank n v).leaves = b.leaves := rfl
@[simp] theorem Body.setBank_purges (b : Body) (n : Nat) (v : Bank) : (b.setBank n v).purges = b.purges := rfl
@[simp] theorem Body.setBank_catalog (b : Body) (n : Nat) (v : Bank) : (b.setBank n v).catalog = b.catalog := rfl
@[simp] theorem Body.setBank_nextSerial (b : Body) (n : Nat) (v : Bank) : (b.setBank n v).nextSerial = b.nextSerial := rfl
@[simp] theorem Body.setBank_accounts (b : Body) (n : Nat) (v : Bank) : (b.setBank n v).accounts = b.accounts := rfl
@[simp] theorem Body.setBank_attention (b : Body) (n : Nat) (v : Bank) : (b.setBank n v).attention = b.attention := rfl
@[simp] theorem Body.setBank_draws (b : Body) (n : Nat) (v : Bank) : (b.setBank n v).draws = b.draws := rfl
/-- Reading back after `setBank`. -/
@[simp] theorem Body.setBank_bank (b : Body) (n : Nat) (v : Bank) (m : Nat) :
    (b.setBank n v).bank m = if m = n then v else b.bank m := Table.read_write ..
@[simp] theorem Body.setBank_session (b : Body) (n : Nat) (v : Bank) (m : Nat) : (b.setBank n v).session m = b.session m := rfl
@[simp] theorem Body.setBank_buffer (b : Body) (n : Nat) (v : Bank) (m : Nat) : (b.setBank n v).buffer m = b.buffer m := rfl
@[simp] theorem Body.setBank_leaf (b : Body) (n : Nat) (v : Bank) (m : Nat) : (b.setBank n v).leaf m = b.leaf m := rfl
@[simp] theorem Body.setBank_slot (b : Body) (n : Nat) (v : Bank) (m : Nat) : (b.setBank n v).slot m = b.slot m := rfl
@[simp] theorem Body.setBank_account (b : Body) (n : Nat) (v : Bank) (m : Nat) : (b.setBank n v).account m = b.account m := rfl
@[simp] theorem Body.setBank_attends (b : Body) (n : Nat) (v : Bank) (m : Nat) : (b.setBank n v).attends m = b.attends m := rfl
@[simp] theorem Body.setBank_doc (b : Body) (n : Nat) (v : Bank) (m : Nat) : (b.setBank n v).doc m = b.doc m := rfl

@[simp] theorem Body.setSlot_sessions (b : Body) (n : Nat) (v : Slot) : (b.setSlot n v).sessions = b.sessions := rfl
@[simp] theorem Body.setSlot_buffers (b : Body) (n : Nat) (v : Slot) : (b.setSlot n v).buffers = b.buffers := rfl
@[simp] theorem Body.setSlot_ready (b : Body) (n : Nat) (v : Slot) : (b.setSlot n v).ready = b.ready := rfl
@[simp] theorem Body.setSlot_windows (b : Body) (n : Nat) (v : Slot) : (b.setSlot n v).windows = b.windows := rfl
@[simp] theorem Body.setSlot_leaves (b : Body) (n : Nat) (v : Slot) : (b.setSlot n v).leaves = b.leaves := rfl
@[simp] theorem Body.setSlot_banks (b : Body) (n : Nat) (v : Slot) : (b.setSlot n v).banks = b.banks := rfl
@[simp] theorem Body.setSlot_purges (b : Body) (n : Nat) (v : Slot) : (b.setSlot n v).purges = b.purges := rfl
@[simp] theorem Body.setSlot_nextSerial (b : Body) (n : Nat) (v : Slot) : (b.setSlot n v).nextSerial = b.nextSerial := rfl
@[simp] theorem Body.setSlot_accounts (b : Body) (n : Nat) (v : Slot) : (b.setSlot n v).accounts = b.accounts := rfl
@[simp] theorem Body.setSlot_attention (b : Body) (n : Nat) (v : Slot) : (b.setSlot n v).attention = b.attention := rfl
@[simp] theorem Body.setSlot_draws (b : Body) (n : Nat) (v : Slot) : (b.setSlot n v).draws = b.draws := rfl
/-- Reading back after `setSlot`. -/
@[simp] theorem Body.setSlot_slot (b : Body) (n : Nat) (v : Slot) (m : Nat) :
    (b.setSlot n v).slot m = if m = n then v else b.slot m := Table.read_write ..
@[simp] theorem Body.setSlot_session (b : Body) (n : Nat) (v : Slot) (m : Nat) : (b.setSlot n v).session m = b.session m := rfl
@[simp] theorem Body.setSlot_buffer (b : Body) (n : Nat) (v : Slot) (m : Nat) : (b.setSlot n v).buffer m = b.buffer m := rfl
@[simp] theorem Body.setSlot_leaf (b : Body) (n : Nat) (v : Slot) (m : Nat) : (b.setSlot n v).leaf m = b.leaf m := rfl
@[simp] theorem Body.setSlot_bank (b : Body) (n : Nat) (v : Slot) (m : Nat) : (b.setSlot n v).bank m = b.bank m := rfl
@[simp] theorem Body.setSlot_account (b : Body) (n : Nat) (v : Slot) (m : Nat) : (b.setSlot n v).account m = b.account m := rfl
@[simp] theorem Body.setSlot_attends (b : Body) (n : Nat) (v : Slot) (m : Nat) : (b.setSlot n v).attends m = b.attends m := rfl

@[simp] theorem Body.setAccount_sessions (b : Body) (n : Nat) (v : Nat) : (b.setAccount n v).sessions = b.sessions := rfl
@[simp] theorem Body.setAccount_buffers (b : Body) (n : Nat) (v : Nat) : (b.setAccount n v).buffers = b.buffers := rfl
@[simp] theorem Body.setAccount_ready (b : Body) (n : Nat) (v : Nat) : (b.setAccount n v).ready = b.ready := rfl
@[simp] theorem Body.setAccount_windows (b : Body) (n : Nat) (v : Nat) : (b.setAccount n v).windows = b.windows := rfl
@[simp] theorem Body.setAccount_leaves (b : Body) (n : Nat) (v : Nat) : (b.setAccount n v).leaves = b.leaves := rfl
@[simp] theorem Body.setAccount_banks (b : Body) (n : Nat) (v : Nat) : (b.setAccount n v).banks = b.banks := rfl
@[simp] theorem Body.setAccount_purges (b : Body) (n : Nat) (v : Nat) : (b.setAccount n v).purges = b.purges := rfl
@[simp] theorem Body.setAccount_catalog (b : Body) (n : Nat) (v : Nat) : (b.setAccount n v).catalog = b.catalog := rfl
@[simp] theorem Body.setAccount_nextSerial (b : Body) (n : Nat) (v : Nat) : (b.setAccount n v).nextSerial = b.nextSerial := rfl
@[simp] theorem Body.setAccount_attention (b : Body) (n : Nat) (v : Nat) : (b.setAccount n v).attention = b.attention := rfl
@[simp] theorem Body.setAccount_draws (b : Body) (n : Nat) (v : Nat) : (b.setAccount n v).draws = b.draws := rfl
/-- Reading back after `setAccount`. -/
@[simp] theorem Body.setAccount_account (b : Body) (n : Nat) (v : Nat) (m : Nat) :
    (b.setAccount n v).account m = if m = n then v else b.account m := Table.read_write ..
@[simp] theorem Body.setAccount_session (b : Body) (n : Nat) (v : Nat) (m : Nat) : (b.setAccount n v).session m = b.session m := rfl
@[simp] theorem Body.setAccount_buffer (b : Body) (n : Nat) (v : Nat) (m : Nat) : (b.setAccount n v).buffer m = b.buffer m := rfl
@[simp] theorem Body.setAccount_leaf (b : Body) (n : Nat) (v : Nat) (m : Nat) : (b.setAccount n v).leaf m = b.leaf m := rfl
@[simp] theorem Body.setAccount_bank (b : Body) (n : Nat) (v : Nat) (m : Nat) : (b.setAccount n v).bank m = b.bank m := rfl
@[simp] theorem Body.setAccount_slot (b : Body) (n : Nat) (v : Nat) (m : Nat) : (b.setAccount n v).slot m = b.slot m := rfl
@[simp] theorem Body.setAccount_attends (b : Body) (n : Nat) (v : Nat) (m : Nat) : (b.setAccount n v).attends m = b.attends m := rfl
@[simp] theorem Body.setAccount_doc (b : Body) (n : Nat) (v : Nat) (m : Nat) : (b.setAccount n v).doc m = b.doc m := rfl

@[simp] theorem Body.setAttention_sessions (b : Body) (n : Nat) (v : Bool) : (b.setAttention n v).sessions = b.sessions := rfl
@[simp] theorem Body.setAttention_buffers (b : Body) (n : Nat) (v : Bool) : (b.setAttention n v).buffers = b.buffers := rfl
@[simp] theorem Body.setAttention_ready (b : Body) (n : Nat) (v : Bool) : (b.setAttention n v).ready = b.ready := rfl
@[simp] theorem Body.setAttention_windows (b : Body) (n : Nat) (v : Bool) : (b.setAttention n v).windows = b.windows := rfl
@[simp] theorem Body.setAttention_leaves (b : Body) (n : Nat) (v : Bool) : (b.setAttention n v).leaves = b.leaves := rfl
@[simp] theorem Body.setAttention_banks (b : Body) (n : Nat) (v : Bool) : (b.setAttention n v).banks = b.banks := rfl
@[simp] theorem Body.setAttention_purges (b : Body) (n : Nat) (v : Bool) : (b.setAttention n v).purges = b.purges := rfl
@[simp] theorem Body.setAttention_catalog (b : Body) (n : Nat) (v : Bool) : (b.setAttention n v).catalog = b.catalog := rfl
@[simp] theorem Body.setAttention_nextSerial (b : Body) (n : Nat) (v : Bool) : (b.setAttention n v).nextSerial = b.nextSerial := rfl
@[simp] theorem Body.setAttention_accounts (b : Body) (n : Nat) (v : Bool) : (b.setAttention n v).accounts = b.accounts := rfl
@[simp] theorem Body.setAttention_draws (b : Body) (n : Nat) (v : Bool) : (b.setAttention n v).draws = b.draws := rfl
/-- Reading back after `setAttention`. -/
@[simp] theorem Body.setAttention_attends (b : Body) (n : Nat) (v : Bool) (m : Nat) :
    (b.setAttention n v).attends m = if m = n then v else b.attends m := Table.read_write ..
@[simp] theorem Body.setAttention_session (b : Body) (n : Nat) (v : Bool) (m : Nat) : (b.setAttention n v).session m = b.session m := rfl
@[simp] theorem Body.setAttention_buffer (b : Body) (n : Nat) (v : Bool) (m : Nat) : (b.setAttention n v).buffer m = b.buffer m := rfl
@[simp] theorem Body.setAttention_leaf (b : Body) (n : Nat) (v : Bool) (m : Nat) : (b.setAttention n v).leaf m = b.leaf m := rfl
@[simp] theorem Body.setAttention_bank (b : Body) (n : Nat) (v : Bool) (m : Nat) : (b.setAttention n v).bank m = b.bank m := rfl
@[simp] theorem Body.setAttention_slot (b : Body) (n : Nat) (v : Bool) (m : Nat) : (b.setAttention n v).slot m = b.slot m := rfl
@[simp] theorem Body.setAttention_account (b : Body) (n : Nat) (v : Bool) (m : Nat) : (b.setAttention n v).account m = b.account m := rfl
@[simp] theorem Body.setAttention_doc (b : Body) (n : Nat) (v : Bool) (m : Nat) : (b.setAttention n v).doc m = b.doc m := rfl

/-- Reading a document back after its slot is set. -/
@[simp] theorem Body.setSlot_doc (b : Body) (n : Nat) (v : Slot) (m : Nat) :
    (b.setSlot n v).doc m = if m = n then v.doc else b.doc m := by
  simp only [Body.doc, Body.setSlot_slot]; split_ifs <;> rfl

/-- Reading a document back after it is replaced. -/
@[simp] theorem Body.setDoc_doc (b : Body) (n : Nat) (d : Document) (m : Nat) :
    (b.setDoc n d).doc m = if m = n then some d else b.doc m := by simp [Body.setDoc]

end Sys2Proof.Machine
end

