-- ==== Sys2Proof/Laws/Bus.lean ====
section
/-! SUPPORT. What a request can do: it is met by silence, answered at the bus, or reaches its owner. -/

namespace Sys2Proof.Machine

/-- A request that is heard, permitted and well formed reaches its owner. -/
theorem request_taken {s : State} {h : Head} {role : Role} {op : Op} {formed : Role → Bool} {owner : Role → State → Taken}
    (hh : Heard s h role) (hn : role ≠ .none) (hp : op.permits role = true) (hf : formed role = true) :
    request s h op formed owner =
      .next ((owner role s.nextPacket).state.reply role op (owner role s.nextPacket).verdict (owner role s.nextPacket).block) := by
  have h1 : s.hears = true := by simp [State.hears, hh.running, hh.listens]
  have h2 : (!s.hears || h.target.toNat != s.tables.hub) = false := by simp [h1, hh.target]
  unfold request
  rw [if_neg (by simp [hh.free]), h2, hh.role]
  simp [busCheck, hn, hp, hf, hh.running]

/-- A request answered at the bus by the first check that fails (R173). -/
theorem request_checked {s : State} {h : Head} {op : Op} {formed : Role → Bool} {owner : Role → State → Taken} {v : Verdict}
    (hf : s.txn.held = false) (hl : s.hears = true) (ht : h.target.toNat = s.tables.hub)
    (hc : busCheck s.recovery.part (s.tables.role h.sender.toNat) op (formed (s.tables.role h.sender.toNat)) = some v) :
    request s h op formed owner = .next (s.nextPacket.reply (s.tables.role h.sender.toNat) op v .none) := by
  unfold request
  rw [if_neg (by simp [hf]), if_neg (by simp [hl, ht])]
  simp only [hc]

/-- Another hub's packet, or one at the broadcast target, is met by silence (R172). -/
theorem request_silent {s : State} {h : Head} {op : Op} {formed : Role → Bool} {owner : Role → State → Taken}
    (hf : s.txn.held = false) (ht : h.target.toNat ≠ s.tables.hub) : request s h op formed owner = .next s.nextPacket := by
  unfold request
  rw [if_neg (by simp [hf]), if_pos (by simp [ht])]

/-- The three ways a request that does not fault can go. -/
theorem request_next {s t : State} {h : Head} {op : Op} {formed : Role → Bool} {owner : Role → State → Taken}
    (hr : request s h op formed owner = .next t) :
    t = s.nextPacket ∨ (∃ role v, t = s.nextPacket.reply role op v .none) ∨
      ∃ role, op.permits role = true ∧ formed role = true ∧ (s.recovery.part = .running ∨ op = .status) ∧
        t = (owner role s.nextPacket).state.reply role op (owner role s.nextPacket).verdict (owner role s.nextPacket).block := by
  unfold request at hr
  split_ifs at hr
  · exact Or.inl (by cases hr; rfl)
  · simp only at hr
    split at hr
    · rename_i v _
      exact Or.inr (Or.inl ⟨_, v, by cases hr; rfl⟩)
    · rename_i hc
      refine Or.inr (Or.inr ⟨s.tables.role h.sender.toNat, ?_, ?_, ?_, by cases hr; rfl⟩)
      all_goals
        unfold busCheck at hc
        split_ifs at hc
        simp_all
      tauto

/-- A quantity that the answer does not touch and the owner keeps is kept by the request. -/
theorem request_keeps {β : Type} {s t : State} {h : Head} {op : Op} {formed : Role → Bool} {owner : Role → State → Taken}
    (f : State → β) (hq : f s.nextPacket = f s) (hy : ∀ u r v k, f (State.reply u r op v k) = f u)
    (ho : ∀ role, op.permits role = true → formed role = true → f (owner role s.nextPacket).state = f s)
    (hr : request s h op formed owner = .next t) : f t = f s := by
  rcases request_next hr with rfl | ⟨r, v, rfl⟩ | ⟨r, hp, hf, _, rfl⟩
  · exact hq
  · rw [hy, hq]
  · rw [hy, ho r hp hf]

/-- A law that the answer does not touch and the owner keeps is kept by the request. -/
theorem request_preserves {s t : State} {h : Head} {op : Op} {formed : Role → Bool} {owner : Role → State → Taken}
    (P : State → Prop) (hq : P s → P s.nextPacket) (hy : ∀ u r v k, P u → P (State.reply u r op v k))
    (ho : ∀ role, op.permits role = true → formed role = true → P s.nextPacket → P (owner role s.nextPacket).state)
    (hs : P s) (hr : request s h op formed owner = .next t) : P t := by
  rcases request_next hr with rfl | ⟨r, v, rfl⟩ | ⟨r, hp, hf, _, rfl⟩
  · exact hq hs
  · exact hy _ _ _ _ (hq hs)
  · exact hy _ _ _ _ (ho r hp hf (hq hs))

/-- The handle check that passes hands the document to the owner (R2). -/
theorem onDocument_named {s : State} {slot : BitVec 13} {generation : BitVec 8} {d : Document} (owner : Document → Taken)
    (hn : Names s.body slot generation d) : onDocument s slot generation owner = owner d := by
  simp [onDocument, Body.handle, hn.doc, hn.generation]

/-- A document request leaves the state alone or does what its owner does with the document named (R2). -/
theorem onDocument_cases (s : State) (slot : BitVec 13) (generation : BitVec 8) (owner : Document → Taken) :
    (onDocument s slot generation owner).state = s ∨
      ∃ d, s.body.doc slot.toNat = some d ∧ onDocument s slot generation owner = owner d := by
  unfold onDocument Body.handle
  split
  · exact Or.inl rfl
  · rename_i d hd
    split at hd <;> try cases hd
    rename_i d' hd'
    split_ifs at hd
    cases hd
    exact Or.inr ⟨d, hd', rfl⟩

end Sys2Proof.Machine
end

