-- ==== Sys2Proof/Laws/Ops.lean ====
section
/-! SUPPORT. What each shared operation of the body leaves alone: one lemma per field it keeps. A proof cites these and
unfolds no operation. -/

namespace Sys2Proof.Machine

/-- A quantity that every step of a fold keeps is kept by the fold. -/
theorem foldl_keeps {α β γ : Type} (f : β → γ) (g : β → α → β) (h : ∀ b a, f (g b a) = f b) (l : List α) (b : β) :
    f (l.foldl g b) = f b := by
  induction l generalizing b with
  | nil => rfl
  | cons a l ih => rw [List.foldl_cons, ih, h]

/-- A law that every step of a fold keeps is kept by the fold. -/
theorem foldl_preserves {α β : Type} (P : β → Prop) (g : β → α → β) (h : ∀ b a, P b → P (g b a)) (l : List α) (b : β)
    (hb : P b) : P (l.foldl g b) := by
  induction l generalizing b with
  | nil => exact hb
  | cons a l ih => exact ih _ (h _ _ hb)

/-! `setDoc` -/

@[simp] theorem Body.setDoc_sessions (b : Body) (n : Nat) (d : Document) : (b.setDoc n d).sessions = b.sessions := rfl
@[simp] theorem Body.setDoc_buffers (b : Body) (n : Nat) (d : Document) : (b.setDoc n d).buffers = b.buffers := rfl
@[simp] theorem Body.setDoc_ready (b : Body) (n : Nat) (d : Document) : (b.setDoc n d).ready = b.ready := rfl
@[simp] theorem Body.setDoc_windows (b : Body) (n : Nat) (d : Document) : (b.setDoc n d).windows = b.windows := rfl
@[simp] theorem Body.setDoc_leaves (b : Body) (n : Nat) (d : Document) : (b.setDoc n d).leaves = b.leaves := rfl
@[simp] theorem Body.setDoc_banks (b : Body) (n : Nat) (d : Document) : (b.setDoc n d).banks = b.banks := rfl
@[simp] theorem Body.setDoc_purges (b : Body) (n : Nat) (d : Document) : (b.setDoc n d).purges = b.purges := rfl
@[simp] theorem Body.setDoc_nextSerial (b : Body) (n : Nat) (d : Document) : (b.setDoc n d).nextSerial = b.nextSerial := rfl
@[simp] theorem Body.setDoc_accounts (b : Body) (n : Nat) (d : Document) : (b.setDoc n d).accounts = b.accounts := rfl
@[simp] theorem Body.setDoc_attention (b : Body) (n : Nat) (d : Document) : (b.setDoc n d).attention = b.attention := rfl
@[simp] theorem Body.setDoc_draws (b : Body) (n : Nat) (d : Document) : (b.setDoc n d).draws = b.draws := rfl

/-! `updDoc` -/

@[simp] theorem Body.updDoc_sessions (b : Body) (n : Nat) (g : Document → Document) : (b.updDoc n g).sessions = b.sessions := by
  unfold Body.updDoc; split <;> rfl
@[simp] theorem Body.updDoc_buffers (b : Body) (n : Nat) (g : Document → Document) : (b.updDoc n g).buffers = b.buffers := by
  unfold Body.updDoc; split <;> rfl
@[simp] theorem Body.updDoc_ready (b : Body) (n : Nat) (g : Document → Document) : (b.updDoc n g).ready = b.ready := by
  unfold Body.updDoc; split <;> rfl
@[simp] theorem Body.updDoc_windows (b : Body) (n : Nat) (g : Document → Document) : (b.updDoc n g).windows = b.windows := by
  unfold Body.updDoc; split <;> rfl
@[simp] theorem Body.updDoc_leaves (b : Body) (n : Nat) (g : Document → Document) : (b.updDoc n g).leaves = b.leaves := by
  unfold Body.updDoc; split <;> rfl
@[simp] theorem Body.updDoc_banks (b : Body) (n : Nat) (g : Document → Document) : (b.updDoc n g).banks = b.banks := by
  unfold Body.updDoc; split <;> rfl
@[simp] theorem Body.updDoc_purges (b : Body) (n : Nat) (g : Document → Document) : (b.updDoc n g).purges = b.purges := by
  unfold Body.updDoc; split <;> rfl
@[simp] theorem Body.updDoc_nextSerial (b : Body) (n : Nat) (g : Document → Document) : (b.updDoc n g).nextSerial = b.nextSerial := by
  unfold Body.updDoc; split <;> rfl
@[simp] theorem Body.updDoc_accounts (b : Body) (n : Nat) (g : Document → Document) : (b.updDoc n g).accounts = b.accounts := by
  unfold Body.updDoc; split <;> rfl
@[simp] theorem Body.updDoc_attention (b : Body) (n : Nat) (g : Document → Document) : (b.updDoc n g).attention = b.attention := by
  unfold Body.updDoc; split <;> rfl
@[simp] theorem Body.updDoc_draws (b : Body) (n : Nat) (g : Document → Document) : (b.updDoc n g).draws = b.draws := by
  unfold Body.updDoc; split <;> rfl

/-! `charge` -/

@[simp] theorem Body.charge_sessions (b : Body) (d n : Nat) : (b.charge d n).sessions = b.sessions := rfl
@[simp] theorem Body.charge_buffers (b : Body) (d n : Nat) : (b.charge d n).buffers = b.buffers := rfl
@[simp] theorem Body.charge_ready (b : Body) (d n : Nat) : (b.charge d n).ready = b.ready := rfl
@[simp] theorem Body.charge_windows (b : Body) (d n : Nat) : (b.charge d n).windows = b.windows := rfl
@[simp] theorem Body.charge_leaves (b : Body) (d n : Nat) : (b.charge d n).leaves = b.leaves := rfl
@[simp] theorem Body.charge_banks (b : Body) (d n : Nat) : (b.charge d n).banks = b.banks := rfl
@[simp] theorem Body.charge_purges (b : Body) (d n : Nat) : (b.charge d n).purges = b.purges := rfl
@[simp] theorem Body.charge_catalog (b : Body) (d n : Nat) : (b.charge d n).catalog = b.catalog := rfl
@[simp] theorem Body.charge_nextSerial (b : Body) (d n : Nat) : (b.charge d n).nextSerial = b.nextSerial := rfl
@[simp] theorem Body.charge_attention (b : Body) (d n : Nat) : (b.charge d n).attention = b.attention := rfl
@[simp] theorem Body.charge_draws (b : Body) (d n : Nat) : (b.charge d n).draws = b.draws := rfl

/-! `discharge` -/

@[simp] theorem Body.discharge_sessions (b : Body) (d n : Nat) : (b.discharge d n).sessions = b.sessions := rfl
@[simp] theorem Body.discharge_buffers (b : Body) (d n : Nat) : (b.discharge d n).buffers = b.buffers := rfl
@[simp] theorem Body.discharge_ready (b : Body) (d n : Nat) : (b.discharge d n).ready = b.ready := rfl
@[simp] theorem Body.discharge_windows (b : Body) (d n : Nat) : (b.discharge d n).windows = b.windows := rfl
@[simp] theorem Body.discharge_leaves (b : Body) (d n : Nat) : (b.discharge d n).leaves = b.leaves := rfl
@[simp] theorem Body.discharge_banks (b : Body) (d n : Nat) : (b.discharge d n).banks = b.banks := rfl
@[simp] theorem Body.discharge_purges (b : Body) (d n : Nat) : (b.discharge d n).purges = b.purges := rfl
@[simp] theorem Body.discharge_catalog (b : Body) (d n : Nat) : (b.discharge d n).catalog = b.catalog := rfl
@[simp] theorem Body.discharge_nextSerial (b : Body) (d n : Nat) : (b.discharge d n).nextSerial = b.nextSerial := rfl
@[simp] theorem Body.discharge_attention (b : Body) (d n : Nat) : (b.discharge d n).attention = b.attention := rfl
@[simp] theorem Body.discharge_draws (b : Body) (d n : Nat) : (b.discharge d n).draws = b.draws := rfl

/-! `callAttention` -/

@[simp] theorem Body.callAttention_sessions (b : Body) (d : Nat) : (b.callAttention d).sessions = b.sessions := rfl
@[simp] theorem Body.callAttention_buffers (b : Body) (d : Nat) : (b.callAttention d).buffers = b.buffers := rfl
@[simp] theorem Body.callAttention_ready (b : Body) (d : Nat) : (b.callAttention d).ready = b.ready := rfl
@[simp] theorem Body.callAttention_windows (b : Body) (d : Nat) : (b.callAttention d).windows = b.windows := rfl
@[simp] theorem Body.callAttention_leaves (b : Body) (d : Nat) : (b.callAttention d).leaves = b.leaves := rfl
@[simp] theorem Body.callAttention_banks (b : Body) (d : Nat) : (b.callAttention d).banks = b.banks := rfl
@[simp] theorem Body.callAttention_purges (b : Body) (d : Nat) : (b.callAttention d).purges = b.purges := rfl
@[simp] theorem Body.callAttention_catalog (b : Body) (d : Nat) : (b.callAttention d).catalog = b.catalog := rfl
@[simp] theorem Body.callAttention_nextSerial (b : Body) (d : Nat) : (b.callAttention d).nextSerial = b.nextSerial := rfl
@[simp] theorem Body.callAttention_accounts (b : Body) (d : Nat) : (b.callAttention d).accounts = b.accounts := rfl
@[simp] theorem Body.callAttention_draws (b : Body) (d : Nat) : (b.callAttention d).draws = b.draws := rfl

/-! `chargeLead` -/

@[simp] theorem Body.chargeLead_sessions (b : Body) (n : Nat) : (b.chargeLead n).sessions = b.sessions := by
  unfold Body.chargeLead; split
  · split <;> rfl
  · rfl
@[simp] theorem Body.chargeLead_buffers (b : Body) (n : Nat) : (b.chargeLead n).buffers = b.buffers := by
  unfold Body.chargeLead; split
  · split <;> rfl
  · rfl
@[simp] theorem Body.chargeLead_ready (b : Body) (n : Nat) : (b.chargeLead n).ready = b.ready := by
  unfold Body.chargeLead; split
  · split <;> rfl
  · rfl
@[simp] theorem Body.chargeLead_windows (b : Body) (n : Nat) : (b.chargeLead n).windows = b.windows := by
  unfold Body.chargeLead; split
  · split <;> rfl
  · rfl
@[simp] theorem Body.chargeLead_leaves (b : Body) (n : Nat) : (b.chargeLead n).leaves = b.leaves := by
  unfold Body.chargeLead; split
  · split <;> rfl
  · rfl
@[simp] theorem Body.chargeLead_banks (b : Body) (n : Nat) : (b.chargeLead n).banks = b.banks := by
  unfold Body.chargeLead; split
  · split <;> rfl
  · rfl
@[simp] theorem Body.chargeLead_purges (b : Body) (n : Nat) : (b.chargeLead n).purges = b.purges := by
  unfold Body.chargeLead; split
  · split <;> rfl
  · rfl
@[simp] theorem Body.chargeLead_nextSerial (b : Body) (n : Nat) : (b.chargeLead n).nextSerial = b.nextSerial := by
  unfold Body.chargeLead; split
  · split <;> rfl
  · rfl
@[simp] theorem Body.chargeLead_attention (b : Body) (n : Nat) : (b.chargeLead n).attention = b.attention := by
  unfold Body.chargeLead; split
  · split <;> rfl
  · rfl
@[simp] theorem Body.chargeLead_draws (b : Body) (n : Nat) : (b.chargeLead n).draws = b.draws := by
  unfold Body.chargeLead; split
  · split <;> rfl
  · rfl

/-! `dischargeLead` -/

@[simp] theorem Body.dischargeLead_sessions (b : Body) (n : Nat) : (b.dischargeLead n).sessions = b.sessions := by
  unfold Body.dischargeLead; split
  · split <;> rfl
  · rfl
@[simp] theorem Body.dischargeLead_buffers (b : Body) (n : Nat) : (b.dischargeLead n).buffers = b.buffers := by
  unfold Body.dischargeLead; split
  · split <;> rfl
  · rfl
@[simp] theorem Body.dischargeLead_ready (b : Body) (n : Nat) : (b.dischargeLead n).ready = b.ready := by
  unfold Body.dischargeLead; split
  · split <;> rfl
  · rfl
@[simp] theorem Body.dischargeLead_windows (b : Body) (n : Nat) : (b.dischargeLead n).windows = b.windows := by
  unfold Body.dischargeLead; split
  · split <;> rfl
  · rfl
@[simp] theorem Body.dischargeLead_leaves (b : Body) (n : Nat) : (b.dischargeLead n).leaves = b.leaves := by
  unfold Body.dischargeLead; split
  · split <;> rfl
  · rfl
@[simp] theorem Body.dischargeLead_banks (b : Body) (n : Nat) : (b.dischargeLead n).banks = b.banks := by
  unfold Body.dischargeLead; split
  · split <;> rfl
  · rfl
@[simp] theorem Body.dischargeLead_purges (b : Body) (n : Nat) : (b.dischargeLead n).purges = b.purges := by
  unfold Body.dischargeLead; split
  · split <;> rfl
  · rfl
@[simp] theorem Body.dischargeLead_nextSerial (b : Body) (n : Nat) : (b.dischargeLead n).nextSerial = b.nextSerial := by
  unfold Body.dischargeLead; split
  · split <;> rfl
  · rfl
@[simp] theorem Body.dischargeLead_attention (b : Body) (n : Nat) : (b.dischargeLead n).attention = b.attention := by
  unfold Body.dischargeLead; split
  · split <;> rfl
  · rfl
@[simp] theorem Body.dischargeLead_draws (b : Body) (n : Nat) : (b.dischargeLead n).draws = b.draws := by
  unfold Body.dischargeLead; split
  · split <;> rfl
  · rfl

/-! `freeSlot` -/

@[simp] theorem Body.freeSlot_sessions (b : Body) (n : Nat) : (b.freeSlot n).sessions = b.sessions := rfl
@[simp] theorem Body.freeSlot_buffers (b : Body) (n : Nat) : (b.freeSlot n).buffers = b.buffers := rfl
@[simp] theorem Body.freeSlot_ready (b : Body) (n : Nat) : (b.freeSlot n).ready = b.ready := rfl
@[simp] theorem Body.freeSlot_windows (b : Body) (n : Nat) : (b.freeSlot n).windows = b.windows := rfl
@[simp] theorem Body.freeSlot_leaves (b : Body) (n : Nat) : (b.freeSlot n).leaves = b.leaves := rfl
@[simp] theorem Body.freeSlot_banks (b : Body) (n : Nat) : (b.freeSlot n).banks = b.banks := rfl
@[simp] theorem Body.freeSlot_nextSerial (b : Body) (n : Nat) : (b.freeSlot n).nextSerial = b.nextSerial := rfl
@[simp] theorem Body.freeSlot_accounts (b : Body) (n : Nat) : (b.freeSlot n).accounts = b.accounts := rfl
@[simp] theorem Body.freeSlot_attention (b : Body) (n : Nat) : (b.freeSlot n).attention = b.attention := rfl
@[simp] theorem Body.freeSlot_draws (b : Body) (n : Nat) : (b.freeSlot n).draws = b.draws := rfl

/-! `releaseBuffer` -/

@[simp] theorem Body.releaseBuffer_leaves (b : Body) (i : Nat) : (b.releaseBuffer i).leaves = b.leaves := by
  unfold Body.releaseBuffer; dsimp only; split <;> rfl
@[simp] theorem Body.releaseBuffer_banks (b : Body) (i : Nat) : (b.releaseBuffer i).banks = b.banks := by
  unfold Body.releaseBuffer; dsimp only; split <;> rfl
@[simp] theorem Body.releaseBuffer_purges (b : Body) (i : Nat) : (b.releaseBuffer i).purges = b.purges := by
  unfold Body.releaseBuffer; dsimp only; split <;> rfl
@[simp] theorem Body.releaseBuffer_catalog (b : Body) (i : Nat) : (b.releaseBuffer i).catalog = b.catalog := by
  unfold Body.releaseBuffer; dsimp only; split <;> rfl
@[simp] theorem Body.releaseBuffer_nextSerial (b : Body) (i : Nat) : (b.releaseBuffer i).nextSerial = b.nextSerial := by
  unfold Body.releaseBuffer; dsimp only; split <;> rfl
@[simp] theorem Body.releaseBuffer_accounts (b : Body) (i : Nat) : (b.releaseBuffer i).accounts = b.accounts := by
  unfold Body.releaseBuffer; dsimp only; split <;> rfl
@[simp] theorem Body.releaseBuffer_attention (b : Body) (i : Nat) : (b.releaseBuffer i).attention = b.attention := by
  unfold Body.releaseBuffer; dsimp only; split <;> rfl
@[simp] theorem Body.releaseBuffer_draws (b : Body) (i : Nat) : (b.releaseBuffer i).draws = b.draws := by
  unfold Body.releaseBuffer; dsimp only; split <;> rfl

/-! `makeReady` -/

@[simp] theorem Body.makeReady_sessions (b : Body) (i : Nat) : (b.makeReady i).sessions = b.sessions := by
  unfold Body.makeReady; dsimp only; split <;> rfl
@[simp] theorem Body.makeReady_windows (b : Body) (i : Nat) : (b.makeReady i).windows = b.windows := by
  unfold Body.makeReady; dsimp only; split <;> rfl
@[simp] theorem Body.makeReady_banks (b : Body) (i : Nat) : (b.makeReady i).banks = b.banks := by
  unfold Body.makeReady; dsimp only; split <;> rfl
@[simp] theorem Body.makeReady_purges (b : Body) (i : Nat) : (b.makeReady i).purges = b.purges := by
  unfold Body.makeReady; dsimp only; split <;> rfl
@[simp] theorem Body.makeReady_catalog (b : Body) (i : Nat) : (b.makeReady i).catalog = b.catalog := by
  unfold Body.makeReady; dsimp only; split <;> rfl
@[simp] theorem Body.makeReady_nextSerial (b : Body) (i : Nat) : (b.makeReady i).nextSerial = b.nextSerial := by
  unfold Body.makeReady; dsimp only; split <;> rfl
@[simp] theorem Body.makeReady_accounts (b : Body) (i : Nat) : (b.makeReady i).accounts = b.accounts := by
  unfold Body.makeReady; dsimp only; split <;> rfl
@[simp] theorem Body.makeReady_attention (b : Body) (i : Nat) : (b.makeReady i).attention = b.attention := by
  unfold Body.makeReady; dsimp only; split <;> rfl
@[simp] theorem Body.makeReady_draws (b : Body) (i : Nat) : (b.makeReady i).draws = b.draws := by
  unfold Body.makeReady; dsimp only; split <;> rfl

/-! `popBlank` -/

@[simp] theorem Body.popBlank_sessions (b : Body) (k : Nat) : (b.popBlank k).sessions = b.sessions := rfl
@[simp] theorem Body.popBlank_buffers (b : Body) (k : Nat) : (b.popBlank k).buffers = b.buffers := rfl
@[simp] theorem Body.popBlank_ready (b : Body) (k : Nat) : (b.popBlank k).ready = b.ready := rfl
@[simp] theorem Body.popBlank_windows (b : Body) (k : Nat) : (b.popBlank k).windows = b.windows := rfl
@[simp] theorem Body.popBlank_leaves (b : Body) (k : Nat) : (b.popBlank k).leaves = b.leaves := rfl
@[simp] theorem Body.popBlank_purges (b : Body) (k : Nat) : (b.popBlank k).purges = b.purges := rfl
@[simp] theorem Body.popBlank_catalog (b : Body) (k : Nat) : (b.popBlank k).catalog = b.catalog := rfl
@[simp] theorem Body.popBlank_nextSerial (b : Body) (k : Nat) : (b.popBlank k).nextSerial = b.nextSerial := rfl
@[simp] theorem Body.popBlank_accounts (b : Body) (k : Nat) : (b.popBlank k).accounts = b.accounts := rfl
@[simp] theorem Body.popBlank_attention (b : Body) (k : Nat) : (b.popBlank k).attention = b.attention := rfl
@[simp] theorem Body.popBlank_draws (b : Body) (k : Nat) : (b.popBlank k).draws = b.draws := rfl

/-! `pushBlank` -/

@[simp] theorem Body.pushBlank_sessions (b : Body) (l : Nat) : (b.pushBlank l).sessions = b.sessions := rfl
@[simp] theorem Body.pushBlank_buffers (b : Body) (l : Nat) : (b.pushBlank l).buffers = b.buffers := rfl
@[simp] theorem Body.pushBlank_ready (b : Body) (l : Nat) : (b.pushBlank l).ready = b.ready := rfl
@[simp] theorem Body.pushBlank_windows (b : Body) (l : Nat) : (b.pushBlank l).windows = b.windows := rfl
@[simp] theorem Body.pushBlank_leaves (b : Body) (l : Nat) : (b.pushBlank l).leaves = b.leaves := rfl
@[simp] theorem Body.pushBlank_purges (b : Body) (l : Nat) : (b.pushBlank l).purges = b.purges := rfl
@[simp] theorem Body.pushBlank_catalog (b : Body) (l : Nat) : (b.pushBlank l).catalog = b.catalog := rfl
@[simp] theorem Body.pushBlank_nextSerial (b : Body) (l : Nat) : (b.pushBlank l).nextSerial = b.nextSerial := rfl
@[simp] theorem Body.pushBlank_accounts (b : Body) (l : Nat) : (b.pushBlank l).accounts = b.accounts := rfl
@[simp] theorem Body.pushBlank_attention (b : Body) (l : Nat) : (b.pushBlank l).attention = b.attention := rfl
@[simp] theorem Body.pushBlank_draws (b : Body) (l : Nat) : (b.pushBlank l).draws = b.draws := rfl

/-! `returnBlank` -/

@[simp] theorem Body.returnBlank_sessions (b : Body) (l : Nat) : (b.returnBlank l).sessions = b.sessions := rfl
@[simp] theorem Body.returnBlank_buffers (b : Body) (l : Nat) : (b.returnBlank l).buffers = b.buffers := rfl
@[simp] theorem Body.returnBlank_ready (b : Body) (l : Nat) : (b.returnBlank l).ready = b.ready := rfl
@[simp] theorem Body.returnBlank_windows (b : Body) (l : Nat) : (b.returnBlank l).windows = b.windows := rfl
@[simp] theorem Body.returnBlank_leaves (b : Body) (l : Nat) : (b.returnBlank l).leaves = b.leaves := rfl
@[simp] theorem Body.returnBlank_purges (b : Body) (l : Nat) : (b.returnBlank l).purges = b.purges := rfl
@[simp] theorem Body.returnBlank_catalog (b : Body) (l : Nat) : (b.returnBlank l).catalog = b.catalog := rfl
@[simp] theorem Body.returnBlank_nextSerial (b : Body) (l : Nat) : (b.returnBlank l).nextSerial = b.nextSerial := rfl
@[simp] theorem Body.returnBlank_accounts (b : Body) (l : Nat) : (b.returnBlank l).accounts = b.accounts := rfl
@[simp] theorem Body.returnBlank_attention (b : Body) (l : Nat) : (b.returnBlank l).attention = b.attention := rfl
@[simp] theorem Body.returnBlank_draws (b : Body) (l : Nat) : (b.returnBlank l).draws = b.draws := rfl

/-! `setOp` -/

@[simp] theorem Body.setOp_sessions (b : Body) (k : Nat) (o : BankOp) : (b.setOp k o).sessions = b.sessions := rfl
@[simp] theorem Body.setOp_buffers (b : Body) (k : Nat) (o : BankOp) : (b.setOp k o).buffers = b.buffers := rfl
@[simp] theorem Body.setOp_ready (b : Body) (k : Nat) (o : BankOp) : (b.setOp k o).ready = b.ready := rfl
@[simp] theorem Body.setOp_windows (b : Body) (k : Nat) (o : BankOp) : (b.setOp k o).windows = b.windows := rfl
@[simp] theorem Body.setOp_leaves (b : Body) (k : Nat) (o : BankOp) : (b.setOp k o).leaves = b.leaves := rfl
@[simp] theorem Body.setOp_purges (b : Body) (k : Nat) (o : BankOp) : (b.setOp k o).purges = b.purges := rfl
@[simp] theorem Body.setOp_catalog (b : Body) (k : Nat) (o : BankOp) : (b.setOp k o).catalog = b.catalog := rfl
@[simp] theorem Body.setOp_nextSerial (b : Body) (k : Nat) (o : BankOp) : (b.setOp k o).nextSerial = b.nextSerial := rfl
@[simp] theorem Body.setOp_accounts (b : Body) (k : Nat) (o : BankOp) : (b.setOp k o).accounts = b.accounts := rfl
@[simp] theorem Body.setOp_attention (b : Body) (k : Nat) (o : BankOp) : (b.setOp k o).attention = b.attention := rfl
@[simp] theorem Body.setOp_draws (b : Body) (k : Nat) (o : BankOp) : (b.setOp k o).draws = b.draws := rfl

/-! `voidLeaf` -/

@[simp] theorem Body.voidLeaf_sessions (b : Body) (l : Nat) : (b.voidLeaf l).sessions = b.sessions := rfl
@[simp] theorem Body.voidLeaf_buffers (b : Body) (l : Nat) : (b.voidLeaf l).buffers = b.buffers := rfl
@[simp] theorem Body.voidLeaf_ready (b : Body) (l : Nat) : (b.voidLeaf l).ready = b.ready := rfl
@[simp] theorem Body.voidLeaf_windows (b : Body) (l : Nat) : (b.voidLeaf l).windows = b.windows := rfl
@[simp] theorem Body.voidLeaf_purges (b : Body) (l : Nat) : (b.voidLeaf l).purges = b.purges := rfl
@[simp] theorem Body.voidLeaf_catalog (b : Body) (l : Nat) : (b.voidLeaf l).catalog = b.catalog := rfl
@[simp] theorem Body.voidLeaf_nextSerial (b : Body) (l : Nat) : (b.voidLeaf l).nextSerial = b.nextSerial := rfl
@[simp] theorem Body.voidLeaf_accounts (b : Body) (l : Nat) : (b.voidLeaf l).accounts = b.accounts := rfl
@[simp] theorem Body.voidLeaf_attention (b : Body) (l : Nat) : (b.voidLeaf l).attention = b.attention := rfl
@[simp] theorem Body.voidLeaf_draws (b : Body) (l : Nat) : (b.voidLeaf l).draws = b.draws := rfl

/-! `allocate` -/

@[simp] theorem Body.allocate_ready (b : Body) (k : Nat) (p : Place) (l i : Nat) : (b.allocate k p l i).ready = b.ready := rfl
@[simp] theorem Body.allocate_windows (b : Body) (k : Nat) (p : Place) (l i : Nat) : (b.allocate k p l i).windows = b.windows := rfl
@[simp] theorem Body.allocate_purges (b : Body) (k : Nat) (p : Place) (l i : Nat) : (b.allocate k p l i).purges = b.purges := rfl
@[simp] theorem Body.allocate_catalog (b : Body) (k : Nat) (p : Place) (l i : Nat) : (b.allocate k p l i).catalog = b.catalog := rfl
@[simp] theorem Body.allocate_nextSerial (b : Body) (k : Nat) (p : Place) (l i : Nat) : (b.allocate k p l i).nextSerial = b.nextSerial := rfl
@[simp] theorem Body.allocate_accounts (b : Body) (k : Nat) (p : Place) (l i : Nat) : (b.allocate k p l i).accounts = b.accounts := rfl
@[simp] theorem Body.allocate_attention (b : Body) (k : Nat) (p : Place) (l i : Nat) : (b.allocate k p l i).attention = b.attention := rfl
@[simp] theorem Body.allocate_draws (b : Body) (k : Nat) (p : Place) (l i : Nat) : (b.allocate k p l i).draws = b.draws := rfl

/-! `addObligation` -/

@[simp] theorem Body.addObligation_sessions (b : Body) (t : Tables) (run n d : Nat) (k : ObKind) (c : Nat) : (b.addObligation t run n d k c).sessions = b.sessions := by
  unfold Body.addObligation; split <;> rfl
@[simp] theorem Body.addObligation_buffers (b : Body) (t : Tables) (run n d : Nat) (k : ObKind) (c : Nat) : (b.addObligation t run n d k c).buffers = b.buffers := by
  unfold Body.addObligation; split <;> rfl
@[simp] theorem Body.addObligation_ready (b : Body) (t : Tables) (run n d : Nat) (k : ObKind) (c : Nat) : (b.addObligation t run n d k c).ready = b.ready := by
  unfold Body.addObligation; split <;> rfl
@[simp] theorem Body.addObligation_windows (b : Body) (t : Tables) (run n d : Nat) (k : ObKind) (c : Nat) : (b.addObligation t run n d k c).windows = b.windows := by
  unfold Body.addObligation; split <;> rfl
@[simp] theorem Body.addObligation_leaves (b : Body) (t : Tables) (run n d : Nat) (k : ObKind) (c : Nat) : (b.addObligation t run n d k c).leaves = b.leaves := by
  unfold Body.addObligation; split <;> rfl
@[simp] theorem Body.addObligation_banks (b : Body) (t : Tables) (run n d : Nat) (k : ObKind) (c : Nat) : (b.addObligation t run n d k c).banks = b.banks := by
  unfold Body.addObligation; split <;> rfl
@[simp] theorem Body.addObligation_purges (b : Body) (t : Tables) (run n d : Nat) (k : ObKind) (c : Nat) : (b.addObligation t run n d k c).purges = b.purges := by
  unfold Body.addObligation; split <;> rfl
@[simp] theorem Body.addObligation_nextSerial (b : Body) (t : Tables) (run n d : Nat) (k : ObKind) (c : Nat) : (b.addObligation t run n d k c).nextSerial = b.nextSerial := by
  unfold Body.addObligation; split <;> rfl
@[simp] theorem Body.addObligation_draws (b : Body) (t : Tables) (run n d : Nat) (k : ObKind) (c : Nat) : (b.addObligation t run n d k c).draws = b.draws := by
  unfold Body.addObligation; split <;> rfl

/-! `moveAccounts` -/

@[simp] theorem Body.moveAccounts_sessions (b : Body) (x y : List Obligation) : (b.moveAccounts x y).sessions = b.sessions := by
  unfold Body.moveAccounts; apply foldl_keeps (fun c : Body => c.sessions); intros; rfl
@[simp] theorem Body.moveAccounts_buffers (b : Body) (x y : List Obligation) : (b.moveAccounts x y).buffers = b.buffers := by
  unfold Body.moveAccounts; apply foldl_keeps (fun c : Body => c.buffers); intros; rfl
@[simp] theorem Body.moveAccounts_ready (b : Body) (x y : List Obligation) : (b.moveAccounts x y).ready = b.ready := by
  unfold Body.moveAccounts; apply foldl_keeps (fun c : Body => c.ready); intros; rfl
@[simp] theorem Body.moveAccounts_windows (b : Body) (x y : List Obligation) : (b.moveAccounts x y).windows = b.windows := by
  unfold Body.moveAccounts; apply foldl_keeps (fun c : Body => c.windows); intros; rfl
@[simp] theorem Body.moveAccounts_leaves (b : Body) (x y : List Obligation) : (b.moveAccounts x y).leaves = b.leaves := by
  unfold Body.moveAccounts; apply foldl_keeps (fun c : Body => c.leaves); intros; rfl
@[simp] theorem Body.moveAccounts_banks (b : Body) (x y : List Obligation) : (b.moveAccounts x y).banks = b.banks := by
  unfold Body.moveAccounts; apply foldl_keeps (fun c : Body => c.banks); intros; rfl
@[simp] theorem Body.moveAccounts_purges (b : Body) (x y : List Obligation) : (b.moveAccounts x y).purges = b.purges := by
  unfold Body.moveAccounts; apply foldl_keeps (fun c : Body => c.purges); intros; rfl
@[simp] theorem Body.moveAccounts_catalog (b : Body) (x y : List Obligation) : (b.moveAccounts x y).catalog = b.catalog := by
  unfold Body.moveAccounts; apply foldl_keeps (fun c : Body => c.catalog); intros; rfl
@[simp] theorem Body.moveAccounts_nextSerial (b : Body) (x y : List Obligation) : (b.moveAccounts x y).nextSerial = b.nextSerial := by
  unfold Body.moveAccounts; apply foldl_keeps (fun c : Body => c.nextSerial); intros; rfl
@[simp] theorem Body.moveAccounts_attention (b : Body) (x y : List Obligation) : (b.moveAccounts x y).attention = b.attention := by
  unfold Body.moveAccounts; apply foldl_keeps (fun c : Body => c.attention); intros; rfl
@[simp] theorem Body.moveAccounts_draws (b : Body) (x y : List Obligation) : (b.moveAccounts x y).draws = b.draws := by
  unfold Body.moveAccounts; apply foldl_keeps (fun c : Body => c.draws); intros; rfl

/-! `closeDocument` -/

@[simp] theorem Body.closeDocument_sessions (b : Body) (t : Tables) (tb : Timebase) (n : Nat) (e : Ending) : (b.closeDocument t tb n e).sessions = b.sessions := by
  unfold Body.closeDocument; split
  · dsimp only; split_ifs <;> simp
  · rfl
@[simp] theorem Body.closeDocument_buffers (b : Body) (t : Tables) (tb : Timebase) (n : Nat) (e : Ending) : (b.closeDocument t tb n e).buffers = b.buffers := by
  unfold Body.closeDocument; split
  · dsimp only; split_ifs <;> simp
  · rfl
@[simp] theorem Body.closeDocument_ready (b : Body) (t : Tables) (tb : Timebase) (n : Nat) (e : Ending) : (b.closeDocument t tb n e).ready = b.ready := by
  unfold Body.closeDocument; split
  · dsimp only; split_ifs <;> simp
  · rfl
@[simp] theorem Body.closeDocument_windows (b : Body) (t : Tables) (tb : Timebase) (n : Nat) (e : Ending) : (b.closeDocument t tb n e).windows = b.windows := by
  unfold Body.closeDocument; split
  · dsimp only; split_ifs <;> simp
  · rfl
@[simp] theorem Body.closeDocument_leaves (b : Body) (t : Tables) (tb : Timebase) (n : Nat) (e : Ending) : (b.closeDocument t tb n e).leaves = b.leaves := by
  unfold Body.closeDocument; split
  · dsimp only; split_ifs <;> simp
  · rfl
@[simp] theorem Body.closeDocument_banks (b : Body) (t : Tables) (tb : Timebase) (n : Nat) (e : Ending) : (b.closeDocument t tb n e).banks = b.banks := by
  unfold Body.closeDocument; split
  · dsimp only; split_ifs <;> simp
  · rfl
@[simp] theorem Body.closeDocument_nextSerial (b : Body) (t : Tables) (tb : Timebase) (n : Nat) (e : Ending) : (b.closeDocument t tb n e).nextSerial = b.nextSerial := by
  unfold Body.closeDocument; split
  · dsimp only; split_ifs <;> simp
  · rfl
@[simp] theorem Body.closeDocument_attention (b : Body) (t : Tables) (tb : Timebase) (n : Nat) (e : Ending) : (b.closeDocument t tb n e).attention = b.attention := by
  unfold Body.closeDocument; split
  · dsimp only; split_ifs <;> simp
  · rfl
@[simp] theorem Body.closeDocument_draws (b : Body) (t : Tables) (tb : Timebase) (n : Nat) (e : Ending) : (b.closeDocument t tb n e).draws = b.draws := by
  unfold Body.closeDocument; split
  · dsimp only; split_ifs <;> simp
  · rfl

/-! `orphan` -/

@[simp] theorem Body.orphan_sessions (b : Body) (i : Nat) : (b.orphan i).sessions = b.sessions := rfl
@[simp] theorem Body.orphan_ready (b : Body) (i : Nat) : (b.orphan i).ready = b.ready := rfl
@[simp] theorem Body.orphan_windows (b : Body) (i : Nat) : (b.orphan i).windows = b.windows := rfl
@[simp] theorem Body.orphan_leaves (b : Body) (i : Nat) : (b.orphan i).leaves = b.leaves := rfl
@[simp] theorem Body.orphan_banks (b : Body) (i : Nat) : (b.orphan i).banks = b.banks := rfl
@[simp] theorem Body.orphan_purges (b : Body) (i : Nat) : (b.orphan i).purges = b.purges := rfl
@[simp] theorem Body.orphan_catalog (b : Body) (i : Nat) : (b.orphan i).catalog = b.catalog := rfl
@[simp] theorem Body.orphan_nextSerial (b : Body) (i : Nat) : (b.orphan i).nextSerial = b.nextSerial := rfl
@[simp] theorem Body.orphan_accounts (b : Body) (i : Nat) : (b.orphan i).accounts = b.accounts := rfl
@[simp] theorem Body.orphan_attention (b : Body) (i : Nat) : (b.orphan i).attention = b.attention := rfl
@[simp] theorem Body.orphan_draws (b : Body) (i : Nat) : (b.orphan i).draws = b.draws := rfl

/-! `orphans` -/

@[simp] theorem Body.orphans_sessions (b : Body) (q : List Nat) : (q.foldl Body.orphan b).sessions = b.sessions := by
  apply foldl_keeps (fun c : Body => c.sessions); intros; rfl
@[simp] theorem Body.orphans_ready (b : Body) (q : List Nat) : (q.foldl Body.orphan b).ready = b.ready := by
  apply foldl_keeps (fun c : Body => c.ready); intros; rfl
@[simp] theorem Body.orphans_windows (b : Body) (q : List Nat) : (q.foldl Body.orphan b).windows = b.windows := by
  apply foldl_keeps (fun c : Body => c.windows); intros; rfl
@[simp] theorem Body.orphans_leaves (b : Body) (q : List Nat) : (q.foldl Body.orphan b).leaves = b.leaves := by
  apply foldl_keeps (fun c : Body => c.leaves); intros; rfl
@[simp] theorem Body.orphans_banks (b : Body) (q : List Nat) : (q.foldl Body.orphan b).banks = b.banks := by
  apply foldl_keeps (fun c : Body => c.banks); intros; rfl
@[simp] theorem Body.orphans_purges (b : Body) (q : List Nat) : (q.foldl Body.orphan b).purges = b.purges := by
  apply foldl_keeps (fun c : Body => c.purges); intros; rfl
@[simp] theorem Body.orphans_catalog (b : Body) (q : List Nat) : (q.foldl Body.orphan b).catalog = b.catalog := by
  apply foldl_keeps (fun c : Body => c.catalog); intros; rfl
@[simp] theorem Body.orphans_nextSerial (b : Body) (q : List Nat) : (q.foldl Body.orphan b).nextSerial = b.nextSerial := by
  apply foldl_keeps (fun c : Body => c.nextSerial); intros; rfl
@[simp] theorem Body.orphans_accounts (b : Body) (q : List Nat) : (q.foldl Body.orphan b).accounts = b.accounts := by
  apply foldl_keeps (fun c : Body => c.accounts); intros; rfl
@[simp] theorem Body.orphans_attention (b : Body) (q : List Nat) : (q.foldl Body.orphan b).attention = b.attention := by
  apply foldl_keeps (fun c : Body => c.attention); intros; rfl
@[simp] theorem Body.orphans_draws (b : Body) (q : List Nat) : (q.foldl Body.orphan b).draws = b.draws := by
  apply foldl_keeps (fun c : Body => c.draws); intros; rfl

/-! `closeSession` -/

@[simp] theorem Body.closeSession_windows (b : Body) (t : Tables) (tb : Timebase) (k : Nat) (e : Ending) : (b.closeSession t tb k e).windows = b.windows := by
  unfold Body.closeSession; dsimp only
  split_ifs <;> (try rfl) <;> simp only [Body.setSession_windows, Body.orphans_windows] <;> split <;> simp
@[simp] theorem Body.closeSession_banks (b : Body) (t : Tables) (tb : Timebase) (k : Nat) (e : Ending) : (b.closeSession t tb k e).banks = b.banks := by
  unfold Body.closeSession; dsimp only
  split_ifs <;> (try rfl) <;> simp only [Body.setSession_banks, Body.orphans_banks] <;> split <;> simp
@[simp] theorem Body.closeSession_nextSerial (b : Body) (t : Tables) (tb : Timebase) (k : Nat) (e : Ending) : (b.closeSession t tb k e).nextSerial = b.nextSerial := by
  unfold Body.closeSession; dsimp only
  split_ifs <;> (try rfl) <;> simp only [Body.setSession_nextSerial, Body.orphans_nextSerial] <;> split <;> simp
@[simp] theorem Body.closeSession_attention (b : Body) (t : Tables) (tb : Timebase) (k : Nat) (e : Ending) : (b.closeSession t tb k e).attention = b.attention := by
  unfold Body.closeSession; dsimp only
  split_ifs <;> (try rfl) <;> simp only [Body.setSession_attention, Body.orphans_attention] <;> split <;> simp
@[simp] theorem Body.closeSession_draws (b : Body) (t : Tables) (tb : Timebase) (k : Nat) (e : Ending) : (b.closeSession t tb k e).draws = b.draws := by
  unfold Body.closeSession; dsimp only
  split_ifs <;> (try rfl) <;> simp only [Body.setSession_draws, Body.orphans_draws] <;> split <;> simp

/-! `closeSessions` -/

@[simp] theorem Body.closeSessions_windows (b : Body) (t : Tables) (tb : Timebase) (ks : List Nat) (e : Ending) : (b.closeSessions t tb ks e).windows = b.windows := by
  unfold Body.closeSessions; exact foldl_keeps (fun c : Body => c.windows) _ (fun c k => Body.closeSession_windows c t tb k e) _ b
@[simp] theorem Body.closeSessions_banks (b : Body) (t : Tables) (tb : Timebase) (ks : List Nat) (e : Ending) : (b.closeSessions t tb ks e).banks = b.banks := by
  unfold Body.closeSessions; exact foldl_keeps (fun c : Body => c.banks) _ (fun c k => Body.closeSession_banks c t tb k e) _ b
@[simp] theorem Body.closeSessions_nextSerial (b : Body) (t : Tables) (tb : Timebase) (ks : List Nat) (e : Ending) : (b.closeSessions t tb ks e).nextSerial = b.nextSerial := by
  unfold Body.closeSessions; exact foldl_keeps (fun c : Body => c.nextSerial) _ (fun c k => Body.closeSession_nextSerial c t tb k e) _ b
@[simp] theorem Body.closeSessions_attention (b : Body) (t : Tables) (tb : Timebase) (ks : List Nat) (e : Ending) : (b.closeSessions t tb ks e).attention = b.attention := by
  unfold Body.closeSessions; exact foldl_keeps (fun c : Body => c.attention) _ (fun c k => Body.closeSession_attention c t tb k e) _ b
@[simp] theorem Body.closeSessions_draws (b : Body) (t : Tables) (tb : Timebase) (ks : List Nat) (e : Ending) : (b.closeSessions t tb ks e).draws = b.draws := by
  unfold Body.closeSessions; exact foldl_keeps (fun c : Body => c.draws) _ (fun c k => Body.closeSession_draws c t tb k e) _ b

/-! `cutPage` -/

@[simp] theorem Body.cutPage_windows (b : Body) (k : Nat) (st : SessState) : (b.cutPage k st).windows = b.windows := by
  unfold Body.cutPage; dsimp only; split <;> simp
@[simp] theorem Body.cutPage_banks (b : Body) (k : Nat) (st : SessState) : (b.cutPage k st).banks = b.banks := by
  unfold Body.cutPage; dsimp only; split <;> simp
@[simp] theorem Body.cutPage_purges (b : Body) (k : Nat) (st : SessState) : (b.cutPage k st).purges = b.purges := by
  unfold Body.cutPage; dsimp only; split <;> simp
@[simp] theorem Body.cutPage_nextSerial (b : Body) (k : Nat) (st : SessState) : (b.cutPage k st).nextSerial = b.nextSerial := by
  unfold Body.cutPage; dsimp only; split <;> simp
@[simp] theorem Body.cutPage_accounts (b : Body) (k : Nat) (st : SessState) : (b.cutPage k st).accounts = b.accounts := by
  unfold Body.cutPage; dsimp only; split <;> simp
@[simp] theorem Body.cutPage_attention (b : Body) (k : Nat) (st : SessState) : (b.cutPage k st).attention = b.attention := by
  unfold Body.cutPage; dsimp only; split <;> simp
@[simp] theorem Body.cutPage_draws (b : Body) (k : Nat) (st : SessState) : (b.cutPage k st).draws = b.draws := by
  unfold Body.cutPage; dsimp only; split <;> simp

/-! `releaseSlot` -/

@[simp] theorem Body.releaseSlot_leaves (b : Body) (n p i : Nat) : (b.releaseSlot n p i).leaves = b.leaves := by
  unfold Body.releaseSlot; dsimp only; split <;> simp
@[simp] theorem Body.releaseSlot_banks (b : Body) (n p i : Nat) : (b.releaseSlot n p i).banks = b.banks := by
  unfold Body.releaseSlot; dsimp only; split <;> simp
@[simp] theorem Body.releaseSlot_purges (b : Body) (n p i : Nat) : (b.releaseSlot n p i).purges = b.purges := by
  unfold Body.releaseSlot; dsimp only; split <;> simp
@[simp] theorem Body.releaseSlot_nextSerial (b : Body) (n p i : Nat) : (b.releaseSlot n p i).nextSerial = b.nextSerial := by
  unfold Body.releaseSlot; dsimp only; split <;> simp
@[simp] theorem Body.releaseSlot_accounts (b : Body) (n p i : Nat) : (b.releaseSlot n p i).accounts = b.accounts := by
  unfold Body.releaseSlot; dsimp only; split <;> simp
@[simp] theorem Body.releaseSlot_attention (b : Body) (n p i : Nat) : (b.releaseSlot n p i).attention = b.attention := by
  unfold Body.releaseSlot; dsimp only; split <;> simp
@[simp] theorem Body.releaseSlot_draws (b : Body) (n p i : Nat) : (b.releaseSlot n p i).draws = b.draws := by
  unfold Body.releaseSlot; dsimp only; split <;> simp

/-! `advancePurge` -/

@[simp] theorem Body.advancePurge_leaves (b : Body) (n : Nat) : (b.advancePurge n).leaves = b.leaves := by
  unfold Body.advancePurge; split
  · rename_i d _
    have h := foldl_keeps (fun c : Body => c.leaves) (fun acc (s : Nat × Nat × LeafSlot) => acc.releaseSlot n s.1 s.2.1)
      (fun c s => Body.releaseSlot_leaves c n s.1 s.2.1) d.unplacedAtCursor b
    dsimp only at h ⊢; split <;> (try split_ifs) <;> simp_all
  · rfl
@[simp] theorem Body.advancePurge_banks (b : Body) (n : Nat) : (b.advancePurge n).banks = b.banks := by
  unfold Body.advancePurge; split
  · rename_i d _
    have h := foldl_keeps (fun c : Body => c.banks) (fun acc (s : Nat × Nat × LeafSlot) => acc.releaseSlot n s.1 s.2.1)
      (fun c s => Body.releaseSlot_banks c n s.1 s.2.1) d.unplacedAtCursor b
    dsimp only at h ⊢; split <;> (try split_ifs) <;> simp_all
  · rfl
@[simp] theorem Body.advancePurge_nextSerial (b : Body) (n : Nat) : (b.advancePurge n).nextSerial = b.nextSerial := by
  unfold Body.advancePurge; split
  · rename_i d _
    have h := foldl_keeps (fun c : Body => c.nextSerial) (fun acc (s : Nat × Nat × LeafSlot) => acc.releaseSlot n s.1 s.2.1)
      (fun c s => Body.releaseSlot_nextSerial c n s.1 s.2.1) d.unplacedAtCursor b
    dsimp only at h ⊢; split <;> (try split_ifs) <;> simp_all
  · rfl
@[simp] theorem Body.advancePurge_accounts (b : Body) (n : Nat) : (b.advancePurge n).accounts = b.accounts := by
  unfold Body.advancePurge; split
  · rename_i d _
    have h := foldl_keeps (fun c : Body => c.accounts) (fun acc (s : Nat × Nat × LeafSlot) => acc.releaseSlot n s.1 s.2.1)
      (fun c s => Body.releaseSlot_accounts c n s.1 s.2.1) d.unplacedAtCursor b
    dsimp only at h ⊢; split <;> (try split_ifs) <;> simp_all
  · rfl
@[simp] theorem Body.advancePurge_attention (b : Body) (n : Nat) : (b.advancePurge n).attention = b.attention := by
  unfold Body.advancePurge; split
  · rename_i d _
    have h := foldl_keeps (fun c : Body => c.attention) (fun acc (s : Nat × Nat × LeafSlot) => acc.releaseSlot n s.1 s.2.1)
      (fun c s => Body.releaseSlot_attention c n s.1 s.2.1) d.unplacedAtCursor b
    dsimp only at h ⊢; split <;> (try split_ifs) <;> simp_all
  · rfl
@[simp] theorem Body.advancePurge_draws (b : Body) (n : Nat) : (b.advancePurge n).draws = b.draws := by
  unfold Body.advancePurge; split
  · rename_i d _
    have h := foldl_keeps (fun c : Body => c.draws) (fun acc (s : Nat × Nat × LeafSlot) => acc.releaseSlot n s.1 s.2.1)
      (fun c s => Body.releaseSlot_draws c n s.1 s.2.1) d.unplacedAtCursor b
    dsimp only at h ⊢; split <;> (try split_ifs) <;> simp_all
  · rfl

/-! `startPurge` -/

@[simp] theorem Body.startPurge_leaves (b : Body) (n : Nat) : (b.startPurge n).leaves = b.leaves := by
  unfold Body.startPurge; simp
@[simp] theorem Body.startPurge_banks (b : Body) (n : Nat) : (b.startPurge n).banks = b.banks := by
  unfold Body.startPurge; simp
@[simp] theorem Body.startPurge_nextSerial (b : Body) (n : Nat) : (b.startPurge n).nextSerial = b.nextSerial := by
  unfold Body.startPurge; simp
@[simp] theorem Body.startPurge_accounts (b : Body) (n : Nat) : (b.startPurge n).accounts = b.accounts := by
  unfold Body.startPurge; simp
@[simp] theorem Body.startPurge_attention (b : Body) (n : Nat) : (b.startPurge n).attention = b.attention := by
  unfold Body.startPurge; simp
@[simp] theorem Body.startPurge_draws (b : Body) (n : Nat) : (b.startPurge n).draws = b.draws := by
  unfold Body.startPurge; simp

/-! `dropWindow` -/

@[simp] theorem Body.dropWindow_leaves (b : Body) (l : Nat) : (b.dropWindow l).leaves = b.leaves := by
  unfold Body.dropWindow; split
  · split_ifs <;> simp
  · rfl
@[simp] theorem Body.dropWindow_banks (b : Body) (l : Nat) : (b.dropWindow l).banks = b.banks := by
  unfold Body.dropWindow; split
  · split_ifs <;> simp
  · rfl
@[simp] theorem Body.dropWindow_purges (b : Body) (l : Nat) : (b.dropWindow l).purges = b.purges := by
  unfold Body.dropWindow; split
  · split_ifs <;> simp
  · rfl
@[simp] theorem Body.dropWindow_catalog (b : Body) (l : Nat) : (b.dropWindow l).catalog = b.catalog := by
  unfold Body.dropWindow; split
  · split_ifs <;> simp
  · rfl
@[simp] theorem Body.dropWindow_nextSerial (b : Body) (l : Nat) : (b.dropWindow l).nextSerial = b.nextSerial := by
  unfold Body.dropWindow; split
  · split_ifs <;> simp
  · rfl
@[simp] theorem Body.dropWindow_accounts (b : Body) (l : Nat) : (b.dropWindow l).accounts = b.accounts := by
  unfold Body.dropWindow; split
  · split_ifs <;> simp
  · rfl
@[simp] theorem Body.dropWindow_attention (b : Body) (l : Nat) : (b.dropWindow l).attention = b.attention := by
  unfold Body.dropWindow; split
  · split_ifs <;> simp
  · rfl
@[simp] theorem Body.dropWindow_draws (b : Body) (l : Nat) : (b.dropWindow l).draws = b.draws := by
  unfold Body.dropWindow; split
  · split_ifs <;> simp
  · rfl

/-! `startProgram` -/

@[simp] theorem Body.startProgram_sessions (b : Body) (k i l : Nat) : (b.startProgram k i l).sessions = b.sessions := rfl
@[simp] theorem Body.startProgram_ready (b : Body) (k i l : Nat) : (b.startProgram k i l).ready = b.ready := rfl
@[simp] theorem Body.startProgram_windows (b : Body) (k i l : Nat) : (b.startProgram k i l).windows = b.windows := rfl
@[simp] theorem Body.startProgram_purges (b : Body) (k i l : Nat) : (b.startProgram k i l).purges = b.purges := rfl
@[simp] theorem Body.startProgram_catalog (b : Body) (k i l : Nat) : (b.startProgram k i l).catalog = b.catalog := rfl
@[simp] theorem Body.startProgram_nextSerial (b : Body) (k i l : Nat) : (b.startProgram k i l).nextSerial = b.nextSerial := rfl
@[simp] theorem Body.startProgram_accounts (b : Body) (k i l : Nat) : (b.startProgram k i l).accounts = b.accounts := rfl
@[simp] theorem Body.startProgram_attention (b : Body) (k i l : Nat) : (b.startProgram k i l).attention = b.attention := rfl
@[simp] theorem Body.startProgram_draws (b : Body) (k i l : Nat) : (b.startProgram k i l).draws = b.draws := rfl

/-! `startReplace` -/

@[simp] theorem Body.startReplace_sessions (b : Body) (k i : Nat) : (b.startReplace k i).sessions = b.sessions := by
  unfold Body.startReplace; split <;> simp
@[simp] theorem Body.startReplace_ready (b : Body) (k i : Nat) : (b.startReplace k i).ready = b.ready := by
  unfold Body.startReplace; split <;> simp
@[simp] theorem Body.startReplace_windows (b : Body) (k i : Nat) : (b.startReplace k i).windows = b.windows := by
  unfold Body.startReplace; split <;> simp
@[simp] theorem Body.startReplace_purges (b : Body) (k i : Nat) : (b.startReplace k i).purges = b.purges := by
  unfold Body.startReplace; split <;> simp
@[simp] theorem Body.startReplace_nextSerial (b : Body) (k i : Nat) : (b.startReplace k i).nextSerial = b.nextSerial := by
  unfold Body.startReplace; split <;> simp
@[simp] theorem Body.startReplace_accounts (b : Body) (k i : Nat) : (b.startReplace k i).accounts = b.accounts := by
  unfold Body.startReplace; split <;> simp
@[simp] theorem Body.startReplace_attention (b : Body) (k i : Nat) : (b.startReplace k i).attention = b.attention := by
  unfold Body.startReplace; split <;> simp
@[simp] theorem Body.startReplace_draws (b : Body) (k i : Nat) : (b.startReplace k i).draws = b.draws := by
  unfold Body.startReplace; split <;> simp

/-! `startFetch` -/

@[simp] theorem Body.startFetch_sessions (b : Body) (k i : Nat) : (b.startFetch k i).sessions = b.sessions := rfl
@[simp] theorem Body.startFetch_buffers (b : Body) (k i : Nat) : (b.startFetch k i).buffers = b.buffers := rfl
@[simp] theorem Body.startFetch_ready (b : Body) (k i : Nat) : (b.startFetch k i).ready = b.ready := rfl
@[simp] theorem Body.startFetch_windows (b : Body) (k i : Nat) : (b.startFetch k i).windows = b.windows := rfl
@[simp] theorem Body.startFetch_leaves (b : Body) (k i : Nat) : (b.startFetch k i).leaves = b.leaves := rfl
@[simp] theorem Body.startFetch_purges (b : Body) (k i : Nat) : (b.startFetch k i).purges = b.purges := rfl
@[simp] theorem Body.startFetch_catalog (b : Body) (k i : Nat) : (b.startFetch k i).catalog = b.catalog := rfl
@[simp] theorem Body.startFetch_nextSerial (b : Body) (k i : Nat) : (b.startFetch k i).nextSerial = b.nextSerial := rfl
@[simp] theorem Body.startFetch_accounts (b : Body) (k i : Nat) : (b.startFetch k i).accounts = b.accounts := rfl
@[simp] theorem Body.startFetch_attention (b : Body) (k i : Nat) : (b.startFetch k i).attention = b.attention := rfl
@[simp] theorem Body.startFetch_draws (b : Body) (k i : Nat) : (b.startFetch k i).draws = b.draws := rfl

/-! `startErase` -/

@[simp] theorem Body.startErase_sessions (b : Body) (k l : Nat) : (b.startErase k l).sessions = b.sessions := rfl
@[simp] theorem Body.startErase_buffers (b : Body) (k l : Nat) : (b.startErase k l).buffers = b.buffers := rfl
@[simp] theorem Body.startErase_ready (b : Body) (k l : Nat) : (b.startErase k l).ready = b.ready := rfl
@[simp] theorem Body.startErase_windows (b : Body) (k l : Nat) : (b.startErase k l).windows = b.windows := rfl
@[simp] theorem Body.startErase_purges (b : Body) (k l : Nat) : (b.startErase k l).purges = b.purges := rfl
@[simp] theorem Body.startErase_catalog (b : Body) (k l : Nat) : (b.startErase k l).catalog = b.catalog := rfl
@[simp] theorem Body.startErase_nextSerial (b : Body) (k l : Nat) : (b.startErase k l).nextSerial = b.nextSerial := rfl
@[simp] theorem Body.startErase_accounts (b : Body) (k l : Nat) : (b.startErase k l).accounts = b.accounts := rfl
@[simp] theorem Body.startErase_attention (b : Body) (k l : Nat) : (b.startErase k l).attention = b.attention := rfl
@[simp] theorem Body.startErase_draws (b : Body) (k l : Nat) : (b.startErase k l).draws = b.draws := rfl

/-! `startVoidMark` -/

@[simp] theorem Body.startVoidMark_nextSerial (b : Body) (k n p i l : Nat) : (b.startVoidMark k n p i l).nextSerial = b.nextSerial := by
  unfold Body.startVoidMark; simp
@[simp] theorem Body.startVoidMark_accounts (b : Body) (k n p i l : Nat) : (b.startVoidMark k n p i l).accounts = b.accounts := by
  unfold Body.startVoidMark; simp
@[simp] theorem Body.startVoidMark_attention (b : Body) (k n p i l : Nat) : (b.startVoidMark k n p i l).attention = b.attention := by
  unfold Body.startVoidMark; simp
@[simp] theorem Body.startVoidMark_draws (b : Body) (k n p i l : Nat) : (b.startVoidMark k n p i l).draws = b.draws := by
  unfold Body.startVoidMark; simp

/-! `startWork` -/

@[simp] theorem Body.startWork_nextSerial (b : Body) (k : Nat) (x : Work) : (b.startWork k x).nextSerial = b.nextSerial := by
  cases x <;> simp [Body.startWork]
@[simp] theorem Body.startWork_accounts (b : Body) (k : Nat) (x : Work) : (b.startWork k x).accounts = b.accounts := by
  cases x <;> simp [Body.startWork]
@[simp] theorem Body.startWork_attention (b : Body) (k : Nat) (x : Work) : (b.startWork k x).attention = b.attention := by
  cases x <;> simp [Body.startWork]
@[simp] theorem Body.startWork_draws (b : Body) (k : Nat) (x : Work) : (b.startWork k x).draws = b.draws := by
  cases x <;> simp [Body.startWork]

/-! `startChosen` -/

@[simp] theorem Body.startChosen_nextSerial (b : Body) (part : PartState) (floor k : Nat) : (b.startChosen part floor k).nextSerial = b.nextSerial := by
  unfold Body.startChosen; split <;> simp
@[simp] theorem Body.startChosen_accounts (b : Body) (part : PartState) (floor k : Nat) : (b.startChosen part floor k).accounts = b.accounts := by
  unfold Body.startChosen; split <;> simp
@[simp] theorem Body.startChosen_attention (b : Body) (part : PartState) (floor k : Nat) : (b.startChosen part floor k).attention = b.attention := by
  unfold Body.startChosen; split <;> simp
@[simp] theorem Body.startChosen_draws (b : Body) (part : PartState) (floor k : Nat) : (b.startChosen part floor k).draws = b.draws := by
  unfold Body.startChosen; split <;> simp

/-! `arbitrateFor` -/

@[simp] theorem Body.arbitrateFor_nextSerial (b : Body) (part : PartState) (floor fuel : Nat) : (Body.arbitrateFor part floor fuel b).nextSerial = b.nextSerial := by
  induction fuel generalizing b with
  | zero => rfl
  | succ fuel ih => unfold Body.arbitrateFor; split <;> simp [ih]
@[simp] theorem Body.arbitrateFor_accounts (b : Body) (part : PartState) (floor fuel : Nat) : (Body.arbitrateFor part floor fuel b).accounts = b.accounts := by
  induction fuel generalizing b with
  | zero => rfl
  | succ fuel ih => unfold Body.arbitrateFor; split <;> simp [ih]
@[simp] theorem Body.arbitrateFor_attention (b : Body) (part : PartState) (floor fuel : Nat) : (Body.arbitrateFor part floor fuel b).attention = b.attention := by
  induction fuel generalizing b with
  | zero => rfl
  | succ fuel ih => unfold Body.arbitrateFor; split <;> simp [ih]

/-! `arbitrate` -/

@[simp] theorem Body.arbitrate_nextSerial (b : Body) (part : PartState) (floor : Nat) : (b.arbitrate part floor).nextSerial = b.nextSerial := Body.arbitrateFor_nextSerial ..
@[simp] theorem Body.arbitrate_accounts (b : Body) (part : PartState) (floor : Nat) : (b.arbitrate part floor).accounts = b.accounts := Body.arbitrateFor_accounts ..
@[simp] theorem Body.arbitrate_attention (b : Body) (part : PartState) (floor : Nat) : (b.arbitrate part floor).attention = b.attention := Body.arbitrateFor_attention ..

/-! `startPurges` -/

@[simp] theorem Body.startPurges_nextSerial (b : Body) (part : PartState) (floor fuel : Nat) (l : List Nat) : (Body.startPurges part floor fuel l b).nextSerial = b.nextSerial := by
  induction fuel generalizing b l with
  | zero => cases l <;> rfl
  | succ fuel ih =>
    rcases l with _ | ⟨n, _ | ⟨m, l⟩⟩
    · rfl
    · simp [Body.startPurges, ih]
    · simp [Body.startPurges, ih]
@[simp] theorem Body.startPurges_accounts (b : Body) (part : PartState) (floor fuel : Nat) (l : List Nat) : (Body.startPurges part floor fuel l b).accounts = b.accounts := by
  induction fuel generalizing b l with
  | zero => cases l <;> rfl
  | succ fuel ih =>
    rcases l with _ | ⟨n, _ | ⟨m, l⟩⟩
    · rfl
    · simp [Body.startPurges, ih]
    · simp [Body.startPurges, ih]
@[simp] theorem Body.startPurges_attention (b : Body) (part : PartState) (floor fuel : Nat) (l : List Nat) : (Body.startPurges part floor fuel l b).attention = b.attention := by
  induction fuel generalizing b l with
  | zero => cases l <;> rfl
  | succ fuel ih =>
    rcases l with _ | ⟨n, _ | ⟨m, l⟩⟩
    · rfl
    · simp [Body.startPurges, ih]
    · simp [Body.startPurges, ih]

/-! `startDuePurges` -/

@[simp] theorem Body.startDuePurges_nextSerial (b : Body) (part : PartState) (floor clock : Nat) : (b.startDuePurges part floor clock).nextSerial = b.nextSerial := by
  unfold Body.startDuePurges; split_ifs <;> simp
@[simp] theorem Body.startDuePurges_accounts (b : Body) (part : PartState) (floor clock : Nat) : (b.startDuePurges part floor clock).accounts = b.accounts := by
  unfold Body.startDuePurges; split_ifs <;> simp
@[simp] theorem Body.startDuePurges_attention (b : Body) (part : PartState) (floor clock : Nat) : (b.startDuePurges part floor clock).attention = b.attention := by
  unfold Body.startDuePurges; split_ifs <;> simp

/-! `purgeIfDue` -/

@[simp] theorem Body.purgeIfDue_leaves (b : Body) (part : PartState) (clock n : Nat) : (b.purgeIfDue part clock n).leaves = b.leaves := by
  unfold Body.purgeIfDue; split
  · split_ifs <;> simp
  · rfl
@[simp] theorem Body.purgeIfDue_banks (b : Body) (part : PartState) (clock n : Nat) : (b.purgeIfDue part clock n).banks = b.banks := by
  unfold Body.purgeIfDue; split
  · split_ifs <;> simp
  · rfl
@[simp] theorem Body.purgeIfDue_nextSerial (b : Body) (part : PartState) (clock n : Nat) : (b.purgeIfDue part clock n).nextSerial = b.nextSerial := by
  unfold Body.purgeIfDue; split
  · split_ifs <;> simp
  · rfl
@[simp] theorem Body.purgeIfDue_accounts (b : Body) (part : PartState) (clock n : Nat) : (b.purgeIfDue part clock n).accounts = b.accounts := by
  unfold Body.purgeIfDue; split
  · split_ifs <;> simp
  · rfl
@[simp] theorem Body.purgeIfDue_attention (b : Body) (part : PartState) (clock n : Nat) : (b.purgeIfDue part clock n).attention = b.attention := by
  unfold Body.purgeIfDue; split
  · split_ifs <;> simp
  · rfl
@[simp] theorem Body.purgeIfDue_draws (b : Body) (part : PartState) (clock n : Nat) : (b.purgeIfDue part clock n).draws = b.draws := by
  unfold Body.purgeIfDue; split
  · split_ifs <;> simp
  · rfl

end Sys2Proof.Machine
end

