-- ==== Sys2Proof/Laws/Catalog.lean ====
section
/-! SUPPORT. What the operations of the body do to the catalog's identities: every document after is the document that
stood in its slot before, with the same call and the same hold list; the next serial stays. -/

namespace Sys2Proof.Machine

/-- The same call: serial, open time, called extension and caller identity, and the same hold list. -/
structure Document.SameCall (d e : Document) : Prop where
  serial : e.serial = d.serial
  openTime : e.openTime = d.openTime
  extension : e.extension = d.extension
  caller : e.caller = d.caller
  holds : e.holds = d.holds

theorem Document.SameCall.refl (d : Document) : d.SameCall d := ⟨rfl, rfl, rfl, rfl, rfl⟩

theorem Document.SameCall.trans {d e f : Document} (h : d.SameCall e) (k : e.SameCall f) : d.SameCall f :=
  ⟨k.serial.trans h.serial, k.openTime.trans h.openTime, k.extension.trans h.extension, k.caller.trans h.caller,
    k.holds.trans h.holds⟩

/-- No document appears, none changes its call, the next serial stays, and generations stay in range. -/
structure Kept (b c : Body) : Prop where
  doc : ∀ n e, c.doc n = some e → ∃ d, b.doc n = some d ∧ d.SameCall e
  nextSerial : c.nextSerial = b.nextSerial
  generation : ∀ n, (b.slot n).generation < 256 → (c.slot n).generation < 256

theorem Kept.refl (b : Body) : Kept b b := ⟨fun _ e h => ⟨e, h, .refl e⟩, rfl, fun _ h => h⟩

theorem Kept.trans {a b c : Body} (h : Kept a b) (k : Kept b c) : Kept a c := by
  refine ⟨fun n e he => ?_, k.nextSerial.trans h.nextSerial, fun n hn => k.generation n (h.generation n hn)⟩
  obtain ⟨d, hd, hde⟩ := k.doc n e he
  obtain ⟨f, hf, hfd⟩ := h.doc n d hd
  exact ⟨f, hf, hfd.trans hde⟩

/-- An operation that touches neither catalog nor next serial. -/
theorem Kept.of_catalog {b c : Body} (h : c.catalog = b.catalog) (hs : c.nextSerial = b.nextSerial) : Kept b c := by
  have hslot : ∀ n, c.slot n = b.slot n := fun n => by unfold Body.slot; rw [h]
  exact ⟨fun n e he => ⟨e, by rw [← he]; unfold Body.doc; rw [hslot], .refl e⟩, hs, fun n hn => by rwa [hslot]⟩

/-- An operation followed by one that touches neither catalog nor next serial. -/
theorem Kept.same {a b c : Body} (h : Kept a b) (hc : c.catalog = b.catalog) (hs : c.nextSerial = b.nextSerial) :
    Kept a c := h.trans (.of_catalog hc hs)

theorem Kept.foldl {α : Type} {g : Body → α → Body} (h : ∀ b a, Kept b (g b a)) (l : List α) (b : Body) :
    Kept b (l.foldl g b) := by
  induction l generalizing b with
  | nil => exact .refl b
  | cons a l ih => exact (h b a).trans (ih _)

theorem Kept.setDoc {b : Body} {n : Nat} {d e : Document} (hd : b.doc n = some d) (h : d.SameCall e) :
    Kept b (b.setDoc n e) := by
  refine ⟨fun m f hf => ?_, rfl, fun m hm => ?_⟩
  · rw [Body.setDoc_doc] at hf
    split_ifs at hf with hmn
    · cases hf; subst hmn; exact ⟨d, hd, h⟩
    · exact ⟨f, hf, .refl f⟩
  · simp only [Body.setDoc, Body.setSlot_slot]; split_ifs with hmn
    · subst hmn; exact hm
    · exact hm

theorem Kept.updDoc (b : Body) (n : Nat) {g : Document → Document} (h : ∀ d : Document, d.SameCall (g d)) : Kept b (b.updDoc n g) := by
  unfold Body.updDoc
  split
  · rename_i d hd; exact .setDoc hd (h d)
  · exact .refl b

theorem Kept.freeSlot (b : Body) (n : Nat) : Kept b (b.freeSlot n) := by
  refine ⟨fun m e he => ?_, rfl, fun m hm => ?_⟩
  · have : (b.freeSlot n).doc m = if m = n then none else b.doc m := by
      show (b.setSlot n _).doc m = _; simp
    rw [this] at he
    split_ifs at he
    exact ⟨e, he, .refl e⟩
  · show ((b.setSlot n ⟨((b.slot n).generation + 1) % 256, none⟩).slot m).generation < 256
    rw [Body.setSlot_slot]; split_ifs
    · exact Nat.mod_lt _ (by norm_num)
    · exact hm

theorem Kept.setSession (b : Body) (n : Nat) (v : Session) : Kept b (b.setSession n v) := .of_catalog rfl rfl
theorem Kept.setBuffer (b : Body) (n : Nat) (v : Buffer) : Kept b (b.setBuffer n v) := .of_catalog rfl rfl
theorem Kept.setLeaf (b : Body) (n : Nat) (v : Leaf) : Kept b (b.setLeaf n v) := .of_catalog rfl rfl
theorem Kept.setBank (b : Body) (n : Nat) (v : Bank) : Kept b (b.setBank n v) := .of_catalog rfl rfl
theorem Kept.setAccount (b : Body) (n v : Nat) : Kept b (b.setAccount n v) := .of_catalog rfl rfl
theorem Kept.setAttention (b : Body) (n : Nat) (v : Bool) : Kept b (b.setAttention n v) := .of_catalog rfl rfl
theorem Kept.orphan (b : Body) (i : Nat) : Kept b (b.orphan i) := .of_catalog rfl rfl

/-! ### The shared operations -/

theorem Kept.chargeLead (b : Body) (n : Nat) : Kept b (b.chargeLead n) := by
  unfold Body.chargeLead
  split
  · rename_i d hd
    split
    · exact Kept.same (b := b.setDoc n { d with obligations := chargeFirst (fun c => c + 1) d.obligations })
        (.setDoc hd ⟨rfl, rfl, rfl, rfl, rfl⟩) rfl rfl
    · exact .refl b
  · exact .refl b

theorem Kept.dischargeLead (b : Body) (n : Nat) : Kept b (b.dischargeLead n) := by
  unfold Body.dischargeLead
  split
  · rename_i d hd
    split
    · exact Kept.same (b := b.setDoc n { d with obligations := chargeFirst (fun c => c - 1) d.obligations })
        (.setDoc hd ⟨rfl, rfl, rfl, rfl, rfl⟩) rfl rfl
    · exact .refl b
  · exact .refl b

theorem Document.updPage_sameCall (d : Document) (p : Nat) (f : Page → Page) : d.SameCall (d.updPage p f) :=
  ⟨rfl, rfl, rfl, rfl, rfl⟩

theorem Document.retainRaise_sameCall (t : Tables) (d : Document) (n : Nat) : d.SameCall (Document.retainRaise t d n) :=
  ⟨rfl, rfl, rfl, rfl, rfl⟩

theorem Document.retainResolve_sameCall (t : Tables) (v : Nat) (d : Document) : d.SameCall (Document.retainResolve t v d) := by
  unfold Document.retainResolve; split_ifs <;> exact ⟨rfl, rfl, rfl, rfl, rfl⟩

theorem Document.retainAtClose_sameCall (t : Tables) (d : Document) (r : Stamp) : d.SameCall (Document.retainAtClose t d r) := by
  unfold Document.retainAtClose; dsimp only; split_ifs <;> exact ⟨rfl, rfl, rfl, rfl, rfl⟩

theorem Kept.addObligation (t : Tables) (run : Nat) (b : Body) (n d : Nat) (k : ObKind) (c : Nat) :
    Kept b (b.addObligation t run n d k c) := by
  unfold Body.addObligation
  split
  · rename_i e he
    refine Kept.same (b := b.setDoc n _) (.setDoc he ?_) rfl rfl
    exact Document.SameCall.trans (by exact ⟨rfl, rfl, rfl, rfl, rfl⟩) (Document.retainRaise_sameCall t _ d)
  · exact .refl b

theorem Kept.closeDocument (t : Tables) (tb : Timebase) (b : Body) (n : Nat) (e : Ending) :
    Kept b (b.closeDocument t tb n e) := by
  unfold Body.closeDocument
  split
  · rename_i d hd
    dsimp only
    split_ifs
    · exact .freeSlot b n
    · refine Kept.same (b := b.setDoc n (d.stampClose e ⟨tb.clock, tb.trusted⟩ |>.distribute t tb.run
        ⟨tb.clock, tb.trusted⟩)) (.setDoc hd ?_) (by simp) (by simp)
      exact Document.SameCall.trans (e := { d.stampClose e ⟨tb.clock, tb.trusted⟩ with
        state := .distributing, obligations := t.setDeadlines tb.run (d.stampClose e ⟨tb.clock, tb.trusted⟩).apportioned })
        ⟨rfl, rfl, rfl, rfl, rfl⟩ (Document.retainAtClose_sameCall ..)
  · exact .refl b

theorem Kept.makeReady (b : Body) (i : Nat) : Kept b (b.makeReady i) := .of_catalog (by simp) (by simp)

theorem Kept.releaseBuffer (b : Body) (i : Nat) : Kept b (b.releaseBuffer i) := .of_catalog (by simp) (by simp)

theorem Kept.voidLeaf (b : Body) (l : Nat) : Kept b (b.voidLeaf l) := .of_catalog rfl rfl

theorem Kept.closeSession (t : Tables) (tb : Timebase) (b : Body) (k : Nat) (e : Ending) :
    Kept b (b.closeSession t tb k e) := by
  unfold Body.closeSession
  dsimp only
  split_ifs
  · exact .refl b
  all_goals
    refine Kept.trans ?_ (.setSession _ _ _)
    refine Kept.trans ?_ (Kept.foldl Kept.orphan _ _)
    split
    · refine Kept.trans ?_ (.closeDocument ..)
      first | exact .makeReady b _ | exact .refl b
    · first | exact .makeReady b _ | exact .refl b

theorem Kept.closeSessions (t : Tables) (tb : Timebase) (b : Body) (ks : List Nat) (e : Ending) :
    Kept b (b.closeSessions t tb ks e) :=
  Kept.foldl (g := fun c k => c.closeSession t tb k e) (fun c k => .closeSession t tb c k e) ks b

theorem Kept.cutPage (b : Body) (k : Nat) (st : SessState) : Kept b (b.cutPage k st) := by
  unfold Body.cutPage
  dsimp only
  refine Kept.trans ?_ (.setSession _ _ _)
  refine Kept.trans ?_ (.makeReady _ _)
  split
  · exact .updDoc b _ (fun d => Document.updPage_sameCall d _ _)
  · exact .refl b

/-! ### Purges and the arbiters -/

theorem Kept.releaseSlot (b : Body) (n p i : Nat) : Kept b (b.releaseSlot n p i) := by
  unfold Body.releaseSlot
  dsimp only
  have h := Kept.updDoc b n (g := fun d => { d.setLeafSlot p i .released with retained := d.retained - 1 })
    (fun d => by exact ⟨rfl, rfl, rfl, rfl, rfl⟩)
  split
  · exact h.trans (.releaseBuffer _ _)
  · exact h

theorem Kept.advancePurge (b : Body) (n : Nat) : Kept b (b.advancePurge n) := by
  unfold Body.advancePurge
  split
  · rename_i d hd
    dsimp only
    have h : Kept b (d.unplacedAtCursor.foldl (fun acc s => acc.releaseSlot n s.1 s.2.1) b) :=
      Kept.foldl (g := fun (acc : Body) (s : Nat × Nat × LeafSlot) => acc.releaseSlot n s.1 s.2.1) (fun c s => .releaseSlot c n s.1 s.2.1) _ b
    split
    · split_ifs
      · exact h.trans (.freeSlot _ _)
      · exact h
    · exact h
  · exact .refl b

theorem Kept.startPurge (b : Body) (n : Nat) : Kept b (b.startPurge n) := by
  unfold Body.startPurge
  dsimp only
  refine Kept.trans ?_ (.advancePurge _ _)
  exact Kept.same (b := b.updDoc n (fun d => { d with state := .purging }))
    (.updDoc b n (fun d => ⟨rfl, rfl, rfl, rfl, rfl⟩)) rfl rfl

theorem Kept.dropWindow (b : Body) (l : Nat) : Kept b (b.dropWindow l) := .of_catalog (by simp) (by simp)

theorem Kept.startReplace (b : Body) (k i : Nat) : Kept b (b.startReplace k i) := by
  unfold Body.startReplace
  split
  · rename_i l p _ _
    refine Kept.same (b := ((b.popBlank k).setLeaf l ⟨.blank, some p, some i⟩).updDoc p.slot
      (fun d => d.updLeafSlot p.page p.index (.filled l))) ?_ rfl rfl
    refine Kept.trans (b := (b.popBlank k).setLeaf l ⟨.blank, some p, some i⟩) (.of_catalog rfl rfl) ?_
    exact .updDoc _ _ (fun d => Document.updPage_sameCall d _ _)
  · exact .refl b

theorem Kept.startVoidMark (b : Body) (k n p i l : Nat) : Kept b (b.startVoidMark k n p i l) := by
  unfold Body.startVoidMark
  dsimp only
  refine Kept.trans ?_ (.advancePurge _ _)
  refine Kept.trans ?_ (.dropWindow _ _)
  refine Kept.trans ?_ (.releaseSlot _ _ _ _)
  exact .of_catalog rfl rfl

theorem Kept.startWork (b : Body) (k : Nat) (x : Work) : Kept b (b.startWork k x) := by
  cases x with
  | program i l => exact .of_catalog rfl rfl
  | fetch i => exact .of_catalog rfl rfl
  | erase l => exact .of_catalog rfl rfl
  | replace i => exact .startReplace b k i
  | voidMark n p i l => exact .startVoidMark b k n p i l

theorem Kept.startChosen (b : Body) (part : PartState) (floor k : Nat) : Kept b (b.startChosen part floor k) := by
  unfold Body.startChosen
  split
  · exact .startWork b k _
  · exact .refl b

theorem Kept.arbitrateFor (part : PartState) (floor fuel : Nat) (b : Body) :
    Kept b (Body.arbitrateFor part floor fuel b) := by
  induction fuel generalizing b with
  | zero => exact .refl b
  | succ fuel ih =>
    unfold Body.arbitrateFor
    split
    · exact .refl b
    · exact (Kept.startChosen b part floor _).trans (ih _)
    · dsimp only
      refine Kept.trans ?_ (ih _)
      refine Kept.trans ?_ (.startChosen _ part floor _)
      exact .of_catalog rfl rfl

theorem Kept.arbitrate (b : Body) (part : PartState) (floor : Nat) : Kept b (b.arbitrate part floor) :=
  .arbitrateFor part floor 4 b

theorem Kept.startPurges (part : PartState) (floor fuel : Nat) (l : List Nat) (b : Body) :
    Kept b (Body.startPurges part floor fuel l b) := by
  induction fuel generalizing b l with
  | zero => cases l <;> exact .refl b
  | succ fuel ih =>
    rcases l with _ | ⟨n, _ | ⟨m, l⟩⟩
    · exact .refl b
    · unfold Body.startPurges
      refine Kept.trans ?_ (ih _ _)
      refine Kept.trans ?_ (.arbitrate _ _ _)
      exact .startPurge b n
    · unfold Body.startPurges
      dsimp only
      refine Kept.trans ?_ (ih _ _)
      refine Kept.trans ?_ (.arbitrate _ _ _)
      refine Kept.trans ?_ (.startPurge _ _)
      exact .of_catalog rfl rfl

theorem Kept.startDuePurges (b : Body) (part : PartState) (floor clock : Nat) :
    Kept b (b.startDuePurges part floor clock) := by
  unfold Body.startDuePurges
  split_ifs
  · exact .startPurges ..
  · exact .refl b

theorem Kept.purgeIfDue (b : Body) (part : PartState) (clock n : Nat) : Kept b (b.purgeIfDue part clock n) := by
  unfold Body.purgeIfDue
  split
  · split_ifs
    · exact .startPurge b n
    · exact .refl b
  · exact .refl b

theorem Kept.retainResolve (t : Tables) (v : Nat) (b : Body) : Kept b (b.retainResolve t v) := by
  exact Kept.foldl (g := fun (c : Body) (e : Nat × Document) => c.updDoc e.1 (Document.retainResolve t v))
    (fun c e => .updDoc c e.1 (fun d => Document.retainResolve_sameCall t v d)) _ b

end Sys2Proof.Machine
end

