-- ==== Sys2Proof/Laws/Codec.lean ====
section
/-! SUPPORT. Fields packed and read back: what is written in a sequence of fields is what is read from it. -/

namespace Sys2Proof.Machine

@[simp] theorem length_bitsOf (w v : Nat) : (bitsOf w v).length = w := by
  induction w with
  | zero => rfl
  | succ w ih => simp [bitsOf, ih]

theorem foldl_numberOf (bits : List Bool) (acc : Nat) :
    bits.foldl (fun acc b => 2 * acc + b.toNat) acc = acc * 2 ^ bits.length + numberOf bits := by
  induction bits generalizing acc with
  | nil => simp [numberOf]
  | cons b bs ih =>
    have h := ih (2 * 0 + b.toNat)
    simp only [numberOf, List.foldl_cons, List.length_cons] at ih h ⊢
    rw [ih, h]; ring

theorem numberOf_cons (b : Bool) (bs : List Bool) : numberOf (b :: bs) = b.toNat * 2 ^ bs.length + numberOf bs := by
  have h := foldl_numberOf bs (2 * 0 + b.toNat)
  simpa [numberOf] using h

theorem numberOf_lt (bits : List Bool) : numberOf bits < 2 ^ bits.length := by
  induction bits with
  | nil => simp [numberOf]
  | cons b bs ih =>
    rw [numberOf_cons, List.length_cons, pow_succ]
    cases b <;> simp <;> omega

/-- The number that a value's low bits spell. -/
theorem numberOf_bitsOf (w v : Nat) : numberOf (bitsOf w v) = v % 2 ^ w := by
  induction w with
  | zero => simp [bitsOf, numberOf, Nat.mod_one]
  | succ w ih =>
    have h2 : v % 2 ^ (w + 1) = v % 2 ^ w + 2 ^ w * (v / 2 ^ w % 2) := by rw [pow_succ, Nat.mod_mul]
    have h3 : (v.testBit w).toNat = v / 2 ^ w % 2 := Nat.toNat_testBit v w
    rw [bitsOf, numberOf_cons, ih, length_bitsOf, h2, h3]
    ring

theorem testBit_lt_append (x y n i : Nat) (hy : y < 2 ^ n) (hi : i < n) : (x * 2 ^ n + y).testBit i = y.testBit i := by
  rw [Nat.mul_comm]; rw [Nat.testBit_two_pow_mul_add x hy]; simp [hi]

/-- The low bits of a number with a multiple of the next power of two added. -/
theorem bitsOf_add (w n x y : Nat) (h : w ≤ n) (hy : y < 2 ^ n) : bitsOf w (x * 2 ^ n + y) = bitsOf w y := by
  induction w with
  | zero => rfl
  | succ w ih => rw [bitsOf, bitsOf, ih (by omega), testBit_lt_append x y n w hy (by omega)]

/-- The bits of the number that bits spell. -/
theorem bitsOf_numberOf (bits : List Bool) : bitsOf bits.length (numberOf bits) = bits := by
  induction bits with
  | nil => rfl
  | cons b bs ih =>
    rw [List.length_cons, bitsOf, numberOf_cons, bitsOf_add _ _ _ _ (le_refl _) (numberOf_lt bs), ih]
    congr 1
    have h := numberOf_lt bs
    cases b
    · simp [Nat.testBit_lt_two_pow h]
    · simp [Nat.testBit_two_pow_add_eq, Nat.testBit_lt_two_pow h]

/-! ### Fields -/

theorem fieldBits_cons (f : Field) (fs : List Field) : fieldBits (f :: fs) = bitsOf f.1 f.2 ++ fieldBits fs := rfl

@[simp] theorem length_fieldBits (fs : List Field) : (fieldBits fs).length = (fs.map (fun f => f.1)).sum := by
  induction fs with
  | nil => rfl
  | cons f fs ih => simp [fieldBits_cons, ih]

/-- Fields are read back as they were written. -/
theorem readFields_fieldBits (fs : List Field) (rest : List Bool) (h : ∀ f ∈ fs, f.2 < 2 ^ f.1) :
    readFields (fs.map (fun f => f.1)) (fieldBits fs ++ rest) = fs.map (fun f => f.2) := by
  induction fs with
  | nil => rfl
  | cons f fs ih =>
    have hf : f.2 < 2 ^ f.1 := h f List.mem_cons_self
    rw [fieldBits_cons, List.append_assoc, List.map_cons, List.map_cons, readFields]
    have h1 : (bitsOf f.1 f.2 ++ (fieldBits fs ++ rest)).take f.1 = bitsOf f.1 f.2 := by
      rw [List.take_append_of_le_length (by simp)]; simp
    have h2 : (bitsOf f.1 f.2 ++ (fieldBits fs ++ rest)).drop f.1 = fieldBits fs ++ rest := by
      rw [List.drop_append_of_le_length (by simp)]; simp
    rw [h1, h2, numberOf_bitsOf, Nat.mod_eq_of_lt hf, ih (fun g hg => h g (List.mem_cons_of_mem _ hg))]

/-! ### Words -/

@[simp] theorem length_wordsFrom (n : Nat) (bits : List Bool) : (wordsFrom n bits).length = n := by
  induction n generalizing bits with
  | zero => rfl
  | succ n ih => simp [wordsFrom, ih]

theorem bitsOf_wordFrom (bits : List Bool) : bitsOf 16 (wordFrom bits).toNat = (bits ++ List.replicate 16 false).take 16 := by
  have hl : ((bits ++ List.replicate 16 false).take 16).length = 16 := by simp
  have hn := numberOf_lt ((bits ++ List.replicate 16 false).take 16)
  rw [hl] at hn
  unfold wordFrom
  rw [BitVec.toNat_ofNat, Nat.mod_eq_of_lt hn]
  have h := bitsOf_numberOf ((bits ++ List.replicate 16 false).take 16)
  rwa [hl] at h

/-- The bits of the words that carry a sequence of bits: the sequence, then zeros. -/
theorem wordBits_wordsFrom (n : Nat) (bits : List Bool) (h : bits.length ≤ 16 * n) :
    wordBits (wordsFrom n bits) = bits ++ List.replicate (16 * n - bits.length) false := by
  induction n generalizing bits with
  | zero =>
    have : bits = [] := List.length_eq_zero_iff.1 (by omega)
    subst this; rfl
  | succ n ih =>
    have hw : wordBits (wordsFrom (n + 1) bits) = bitsOf 16 (wordFrom bits).toNat ++ wordBits (wordsFrom n (bits.drop 16)) := rfl
    rw [hw, bitsOf_wordFrom, ih (bits.drop 16) (by simp; omega)]
    rcases Nat.lt_or_ge bits.length 16 with hb | hb
    · rw [List.drop_eq_nil_of_le (by omega), List.take_append, List.take_of_length_le (by omega)]
      simp only [List.take_replicate, List.nil_append, List.length_nil, List.append_assoc, List.replicate_append_replicate]
      congr 2; omega
    · rw [List.take_append_of_le_length hb, ← List.append_assoc, List.take_append_drop]
      simp only [List.length_drop]
      congr 2; omega

end Sys2Proof.Machine
end

