-- ==== Sys2Proof/Laws/Flash.lean ====
section
/-! SUPPORT. The flash array: what its operations read and write, and that each keeps the canonical form. -/

namespace Sys2Proof.Machine

/-! ### One byte -/

@[simp] theorem Memory.read_write (m : Memory) (a x : Nat) (v : Byte) :
    Memory.read (Memory.write m a v) x = if x = a then v else Memory.read m x := Table.read_write ..

theorem Memory.wf_write {m : Memory} (h : Memory.wf m) (a : Nat) (v : Byte) : Memory.wf (Memory.write m a v) :=
  Table.wf_write a v h

/-! ### Runs of bytes -/

/-- Reading after a run of bytes is written: the byte of the run inside it, the old byte outside. -/
theorem Memory.read_writeBytes (m : Memory) (a x : Nat) (bytes : List Byte) :
    Memory.read (Memory.writeBytes m a bytes) x =
      if a ≤ x ∧ x < a + bytes.length then bytes.getD (x - a) 0 else Memory.read m x := by
  induction bytes generalizing m a with
  | nil => simp [Memory.writeBytes]
  | cons v vs ih =>
    rw [Memory.writeBytes, ih, Memory.read_write]
    rcases Nat.lt_trichotomy x a with h | h | h
    · rw [if_neg (by omega), if_neg (by omega), if_neg (by simp; omega)]
    · subst h
      rw [if_neg (by omega), if_pos rfl, if_pos (by simp)]
      simp
    · by_cases hx : x < a + 1 + vs.length
      · rw [if_pos (by omega), if_pos (by simp; omega)]
        obtain ⟨k, rfl⟩ : ∃ k, x = a + 1 + k := ⟨x - (a + 1), by omega⟩
        have h1 : a + 1 + k - (a + 1) = k := by omega
        have h2 : a + 1 + k - a = k + 1 := by omega
        rw [h1, h2, List.getD_cons_succ]
      · rw [if_neg (by omega), if_neg (by omega), if_neg (by simp; omega)]

theorem Memory.wf_writeBytes {m : Memory} (h : Memory.wf m) (a : Nat) (bytes : List Byte) :
    Memory.wf (Memory.writeBytes m a bytes) := by
  induction bytes generalizing m a with
  | nil => exact h
  | cons v vs ih => exact ih (Memory.wf_write h a v) (a + 1)

theorem Memory.length_readBytes (m : Memory) (a n : Nat) : (Memory.readBytes m a n).length = n := by
  induction n generalizing a with
  | zero => rfl
  | succ n ih => simp [Memory.readBytes, ih]

/-- Reading after a leaf is erased. -/
theorem Memory.read_eraseLeaf (m : Memory) (leaf x : Nat) :
    Memory.read (Memory.eraseLeaf m leaf) x =
      if x / Config.leafBytes = leaf then Memory.erasedByte else Memory.read m x := by
  have h := Table.read_filter_key Memory.erasedByte m (fun a => decide (a / Config.leafBytes ≠ leaf)) x
  unfold Memory.read Memory.eraseLeaf
  rw [h]
  by_cases hx : x / Config.leafBytes = leaf <;> simp [hx]

theorem Memory.wf_eraseLeaf {m : Memory} (h : Memory.wf m) (leaf : Nat) : Memory.wf (Memory.eraseLeaf m leaf) :=
  Table.wf_filter _ h

/-! ### Spare areas -/

@[simp] theorem Flash.setSpare_spareOf (f : Flash) (n m : Nat) (v : Spare) :
    (f.setSpare n v).spareOf m = if m = n then v else f.spareOf m := Table.read_write ..

@[simp] theorem Flash.setSpare_data (f : Flash) (n : Nat) (v : Spare) : (f.setSpare n v).data = f.data := rfl
@[simp] theorem Flash.voidMarked_data (f : Flash) (n : Nat) : (f.voidMarked n).data = f.data := rfl
@[simp] theorem Flash.voidFailed_data (f : Flash) (n : Nat) : (f.voidFailed n).data = f.data := rfl
@[simp] theorem Flash.voidCut_data (f : Flash) (n : Nat) : (f.voidCut n).data = f.data := rfl

theorem Flash.lawful_setSpare {f : Flash} (h : f.lawful) (n : Nat) (v : Spare) : (f.setSpare n v).lawful :=
  ⟨h.1, Table.wf_write n v h.2⟩

/-! ### Every operation keeps the canonical form -/

theorem Flash.lawful_programmed {f : Flash} (h : f.lawful) (n : Nat) (w : List Word) (d : List Byte) :
    (f.programmed n w d).lawful := ⟨Memory.wf_writeBytes h.1 _ d, (Flash.lawful_setSpare h n _).2⟩

theorem Flash.lawful_voidMarked {f : Flash} (h : f.lawful) (n : Nat) : (f.voidMarked n).lawful :=
  Flash.lawful_setSpare h n _

theorem Flash.lawful_erased {f : Flash} (h : f.lawful) (n : Nat) : (f.erased n).lawful :=
  ⟨Memory.wf_eraseLeaf h.1 n, (Flash.lawful_setSpare h n Spare.erased).2⟩

theorem Flash.lawful_leaves {f : Flash} (h : f.lawful) (n : Nat) (v : Spare) : (f.leaves n v).lawful := by
  have hd := Memory.wf_writeBytes h.1 (dataAddress n 0) (freeData f.draws)
  unfold Flash.leaves
  generalize Memory.writeBytes f.data (dataAddress n 0) (freeData f.draws) = m at hd ⊢
  exact ⟨hd, (Flash.lawful_setSpare h n v).2⟩

theorem Flash.lawful_leavesSpare {f : Flash} (h : f.lawful) (n : Nat) (v : Spare) : (f.leavesSpare n v).lawful :=
  ⟨h.1, (Flash.lawful_setSpare h n v).2⟩

theorem Flash.lawful_programFailed {f : Flash} (h : f.lawful) (n : Nat) (w : List Word) : (f.programFailed n w).lawful :=
  Flash.lawful_leaves h n _

theorem Flash.lawful_programCut {f : Flash} (h : f.lawful) (n : Nat) (w : List Word) : (f.programCut n w).lawful :=
  Flash.lawful_leaves h n _

theorem Flash.lawful_voidFailed {f : Flash} (h : f.lawful) (n : Nat) : (f.voidFailed n).lawful :=
  Flash.lawful_leavesSpare h n _

theorem Flash.lawful_voidCut {f : Flash} (h : f.lawful) (n : Nat) : (f.voidCut n).lawful :=
  Flash.lawful_leavesSpare h n _

theorem Flash.lawful_eraseFailed {f : Flash} (h : f.lawful) (n : Nat) : (f.eraseFailed n).lawful :=
  Flash.lawful_leaves h n _

theorem Flash.lawful_eraseCut {f : Flash} (h : f.lawful) (n : Nat) : (f.eraseCut n).lawful := Flash.lawful_leaves h n _

theorem Flash.lawful_cutOff {f : Flash} (h : f.lawful) (op : BankOp) : (f.cutOff op).lawful := by
  cases op with
  | none => exact h
  | fetch i => exact h
  | program i l w => exact Flash.lawful_programCut h l w
  | voidMark l => exact Flash.lawful_voidCut h l
  | erase l => exact Flash.lawful_eraseCut h l

/-- Reset's memory has the canonical form. -/
theorem Flash.lawful_reset : State.reset.flash.lawful := ⟨Table.wf_nil _, Table.wf_nil _⟩

end Sys2Proof.Machine
end

