-- ==== Sys2Proof/Laws/Requests.lean ====
section
/-! SUPPORT. Every request but APPEND is one `request` whose form check is the range of its fields. -/

namespace Sys2Proof.Machine

/-- The bus check for form of a request agrees with the ranges of its fields (R173 step 3). -/
abbrev FormOf (c : Instr) (op : Op) (formed : Role → Bool) : Prop :=
  ∀ role, op.permits role = true → (formed role = true ↔ fieldsInRange role c)

@[simp] theorem length_digitsOf (n v : Nat) : (digitsOf n v).length = n := by
  induction n with
  | zero => rfl
  | succ n ih => simp [digitsOf, ih]

theorem extensionOf_isSome (e : BitVec 24) :
    (extensionOf e).isSome = true ↔ (∀ d ∈ digitsOf 6 e.toNat, d ≤ 9) ∨ ∀ d ∈ digitsOf 6 e.toNat, d = 15 := by
  unfold extensionOf
  dsimp only
  split_ifs with h1 h2
  · simp only [Option.isSome_some, true_iff]; exact Or.inl (by simpa using h1)
  · simp only [Option.isSome_some, true_iff]; simp only [List.all_eq_true, decide_eq_true_eq] at h2; exact Or.inr h2
  · simp only [Option.isSome_none, Bool.false_eq_true, false_iff, not_or]
    simp only [List.all_eq_true, decide_eq_true_eq] at h1 h2
    exact ⟨h1, h2⟩

theorem identityOf_isSome (l : BitVec 5) (v : BitVec 80) :
    (identityOf l v).isSome = true ↔ l.toNat ≤ 20 ∧ 15 ∉ (digitsOf 20 v.toNat).take l.toNat := by
  unfold identityOf
  dsimp only
  split_ifs with h1 h2 h3
  · simp only [Option.isSome_none, Bool.false_eq_true, false_iff, not_and]; omega
  · simp only [Option.isSome_none, Bool.false_eq_true, false_iff, not_and, not_not]
    intro _
    simpa using h2
  · simp only [Option.isSome_some, true_iff]
    exact ⟨by omega, by rw [h3]; simp⟩
  · simp only [Option.isSome_some, true_iff]
    exact ⟨by omega, by simpa using h2⟩

theorem patternOf_isSome (v : BitVec 24) : (patternOf v).isSome = true ↔ ∀ p ∈ digitsOf 6 v.toNat, p ≤ 9 ∨ p = 14 := by
  unfold patternOf
  dsimp only
  split_ifs with h
  · simp only [Option.isSome_some, true_iff]
    simp only [List.all_eq_true, Bool.or_eq_true, decide_eq_true_eq] at h
    exact h
  · simp only [Option.isSome_none, Bool.false_eq_true, false_iff]
    simp only [List.all_eq_true, Bool.or_eq_true, decide_eq_true_eq] at h
    exact h

theorem densityOf_isSome (n : Nat) : (densityOf n).isSome = true ↔ n ≤ 2 := by
  rcases n with _ | _ | _ | n <;> simp [densityOf]

theorem widthOf_isSome (n : Nat) : (widthOf n).isSome = true ↔ n ≤ 2 := by
  rcases n with _ | _ | _ | n <;> simp [widthOf]

theorem closeEndingOf_isSome (n : Nat) : (closeEndingOf n).isSome = true ↔ n ≤ 2 := by
  rcases n with _ | _ | _ | n <;> simp [closeEndingOf]

theorem routeRoleOf_isSome (n : Nat) : (routeRoleOf n).isSome = true ↔ n ≤ 1 := by
  rcases n with _ | _ | n <;> simp [routeRoleOf]

theorem yesNoOf_isSome (n : Nat) : (yesNoOf n).isSome = true ↔ n ≤ 1 := by
  rcases n with _ | _ | n <;> simp [yesNoOf]

theorem roleOf_isSome (n v : Nat) : (roleOf n v).isSome = true ↔ n ≤ 3 ∧ (n = 1 → v ≤ 3) ∧ (n = 2 → v ≤ 15) := by
  rcases n with _ | _ | _ | _ | n
  · simp [roleOf]
  · simp only [roleOf]; split_ifs <;> simp <;> omega
  · simp only [roleOf]; split_ifs <;> simp <;> omega
  · simp [roleOf]
  · simp [roleOf]

theorem of_request {c : Instr} {h : Head} {op : Op} {formed : Role → Bool} {owner : Role → State → Taken}
    (he : ∀ s, exec c s = request s h op formed owner) (hf : FormOf c op formed) :
    ∃ formed owner, FormOf c op formed ∧ ∀ s, exec c s = request s h op formed owner := ⟨formed, owner, hf, he⟩

/-- Every request but APPEND is a `request` with the form check of its fields' ranges. -/
theorem exec_request {c : Instr} {h : Head} {op : Op} (hr : requestOf c = some (h, op)) (ha : op ≠ .append) :
    ∃ formed owner, FormOf c op formed ∧ ∀ s, exec c s = request s h op formed owner := by
  cases c <;> simp only [requestOf, Option.some.injEq, Prod.mk.injEq, reduceCtorEq] at hr <;> obtain ⟨rfl, rfl⟩ := hr
  case append => exact absurd rfl ha
  all_goals
    apply of_request
    case he =>
      intro s
      dsimp only [exec]
      first
      | (unfold execOpenCall; exact rfl)
      | (unfold execPageBegin; exact rfl)
      | (unfold execPageEnd; exact rfl)
      | (unfold execCloseCall; exact rfl)
      | (unfold execEndSession; exact rfl)
      | (unfold execList; exact rfl)
      | (unfold execDescribe; exact rfl)
      | (unfold execRead; exact rfl)
      | (unfold execRelease; exact rfl)
      | (unfold execForward; exact rfl)
      | (unfold execHold; exact rfl)
      | (unfold execUnhold; exact rfl)
      | (unfold execSetNode; exact rfl)
      | (unfold execSetRoute; exact rfl)
      | (unfold execClearRoute; exact rfl)
      | (unfold execSetDepartment; exact rfl)
      | (unfold execSetLimits; exact rfl)
      | (unfold execSetClock; exact rfl)
      | (unfold execStatus; exact rfl)
      | (unfold execUnknownOperation; exact rfl)
    intro role hp
  case openCall =>
    simp only [Bool.and_eq_true, extensionOf_isSome, identityOf_isSome, fieldsInRange]
  case pageBegin => simp only [Bool.and_eq_true, densityOf_isSome, widthOf_isSome, fieldsInRange]
  case closeCall => simp only [closeEndingOf_isSome, fieldsInRange]
  case list =>
    cases role with
    | department d => simp [fieldsInRange]
    | records =>
      simp only [fieldsInRange, departmentInRange, decide_eq_true_eq, reduceCtorEq, exists_false, false_or]
      unfold Config.departments; omega
    | none => simp [Op.permits] at hp
    | line i => simp [Op.permits] at hp
  case setRoute =>
    simp only [fieldsInRange, departmentInRange, Bool.and_eq_true, decide_eq_true_eq, patternOf_isSome, routeRoleOf_isSome]
    unfold Config.routes Config.departments
    constructor
    · rintro ⟨⟨⟨h1, h2⟩, h3⟩, h4⟩; exact ⟨by omega, h2, by omega, h4⟩
    · rintro ⟨h1, h2, h3, h4⟩; exact ⟨⟨⟨by omega, h2⟩, by omega⟩, h4⟩
  all_goals
    simp only [fieldsInRange, slotInRange, pageInRange, countInRange, departmentInRange, Bool.and_eq_true,
      decide_eq_true_eq, roleOf_isSome, yesNoOf_isSome, Bool.false_eq_true]
    try unfold Config.slots
    try unfold Config.sessions
    try unfold Config.routes
    try unfold Config.departments
    try omega

end Sys2Proof.Machine
end

