-- ==== Sys2Proof/Laws/Frames.lean ====
section
/-! SUPPORT. What the requests leave alone outside the body: for each owner, the tables, the timebase, the recovery unit,
the flash array, the bus reset input and the queue. -/

namespace Sys2Proof.Machine

/-- Everything outside the body, the bus and what is sent is the same. -/
structure SameOutside (s t : State) : Prop where
  tables : t.tables = s.tables
  time : t.time = s.time
  recovery : t.recovery = s.recovery
  flash : t.flash = s.flash
  resetHeld : t.resetHeld = s.resetHeld
  pending : t.pending = s.pending

theorem SameOutside.refl (s : State) : SameOutside s s := ⟨rfl, rfl, rfl, rfl, rfl, rfl⟩

theorem SameOutside.trans {s t u : State} (h : SameOutside s t) (k : SameOutside t u) : SameOutside s u :=
  ⟨k.tables.trans h.tables, k.time.trans h.time, k.recovery.trans h.recovery, k.flash.trans h.flash,
    k.resetHeld.trans h.resetHeld, k.pending.trans h.pending⟩

theorem SameOutside.quiet (s : State) : SameOutside s s.quiet := ⟨rfl, rfl, rfl, rfl, rfl, rfl⟩
theorem SameOutside.nextPacket (s : State) : SameOutside s s.nextPacket := ⟨rfl, rfl, rfl, rfl, rfl, rfl⟩
theorem SameOutside.reply (s : State) (r : Role) (o : Op) (v : Verdict) (k : Block) : SameOutside s (s.reply r o v k) :=
  ⟨rfl, rfl, rfl, rfl, rfl, rfl⟩
theorem SameOutside.withBody (s : State) (f : Body → Body) : SameOutside s (s.withBody f) := ⟨rfl, rfl, rfl, rfl, rfl, rfl⟩
theorem SameOutside.arbitrate (s : State) : SameOutside s s.arbitrate := ⟨rfl, rfl, rfl, rfl, rfl, rfl⟩
theorem SameOutside.discard (s : State) (r : Role) (v : Verdict) : SameOutside s (s.discard r v) :=
  ⟨rfl, rfl, rfl, rfl, rfl, rfl⟩
theorem SameOutside.close (s : State) (k : Nat) (e : Ending) : SameOutside s (s.close k e) := ⟨rfl, rfl, rfl, rfl, rfl, rfl⟩
theorem SameOutside.moveDeadline (s : State) (k : Nat) : SameOutside s (s.moveDeadline k) := by
  unfold State.moveDeadline; split_ifs
  · exact .refl s
  · exact .withBody s _
theorem SameOutside.resume (s : State) : SameOutside s s.resume := by
  unfold State.resume; dsimp only; split_ifs <;> exact ⟨rfl, rfl, rfl, rfl, rfl, rfl⟩

/-- A change of the body and then the arbiters' choices. -/
theorem SameOutside.act (s : State) (f : Body → Body) : SameOutside s (s.withBody f).arbitrate := ⟨rfl, rfl, rfl, rfl, rfl, rfl⟩

/-- A request keeps what its owner keeps. -/
theorem SameOutside.request {s t : State} {h : Head} {op : Op} {formed : Role → Bool} {owner : Role → State → Taken}
    (ho : ∀ role u, SameOutside u (owner role u).state) (hr : Machine.request s h op formed owner = .next t) :
    SameOutside s t := by
  rcases request_next hr with rfl | ⟨r, v, rfl⟩ | ⟨r, _, _, _, rfl⟩
  · exact .nextPacket s
  · exact (SameOutside.nextPacket s).trans (.reply _ _ _ _ _)
  · exact ((SameOutside.nextPacket s).trans (ho r _)).trans (.reply _ _ _ _ _)

/-- A document request keeps what its owner keeps. -/
theorem SameOutside.onDocument (s : State) (slot : BitVec 13) (generation : BitVec 8) {owner : Document → Taken}
    (ho : ∀ d, SameOutside s (owner d).state) : SameOutside s (Machine.onDocument s slot generation owner).state := by
  rcases onDocument_cases s slot generation owner with h | ⟨d, _, h⟩
  · rw [h]; exact .refl s
  · rw [h]; exact ho d

/-- A line request keeps what its owner keeps. -/
theorem SameOutside.lineOwner (channel : BitVec 3) {owner : Nat → Session → State → Taken}
    (ho : ∀ k c s, SameOutside s (owner k c s).state) (role : Role) (s : State) :
    SameOutside s (Machine.lineOwner channel owner role s).state :=
  (SameOutside.moveDeadline s _).trans (ho _ _ _)

theorem SameOutside.turnedAway (s : State) (v : Verdict) : SameOutside s (Taken.turnedAway s v).state := .refl s

/-! ### The owners -/

theorem ownOpenCall_outside (e c : Option (List Nat)) (k : Nat) (x : Session) (s : State) :
    SameOutside s (ownOpenCall e c k x s).state := by
  unfold ownOpenCall
  try dsimp only
  repeat' split
  all_goals first | exact ⟨rfl, rfl, rfl, rfl, rfl, rfl⟩

theorem ownPageBegin_outside (d : Density) (w : PageWidth) (c k : Nat) (x : Session) (s : State) :
    SameOutside s (ownPageBegin d w c k x s).state := by
  unfold ownPageBegin
  try dsimp only
  repeat' split
  all_goals first | exact ⟨rfl, rfl, rfl, rfl, rfl, rfl⟩

theorem ownPageEnd_outside (a b k : Nat) (x : Session) (s : State) :
    SameOutside s (ownPageEnd a b k x s).state := by
  unfold ownPageEnd
  try dsimp only
  repeat' split
  all_goals first | exact ⟨rfl, rfl, rfl, rfl, rfl, rfl⟩

theorem ownCloseCall_outside (e : Ending) (k : Nat) (x : Session) (s : State) :
    SameOutside s (ownCloseCall e k x s).state := by
  unfold ownCloseCall
  try dsimp only
  repeat' split
  all_goals first | exact ⟨rfl, rfl, rfl, rfl, rfl, rfl⟩

theorem readPage_outside (r : Role) (n p : Nat) (g : Page) (o c : Nat) (s : State) :
    SameOutside s (readPage r n p g o c s).state := by
  unfold readPage
  try dsimp only
  repeat' split
  all_goals first | exact ⟨rfl, rfl, rfl, rfl, rfl, rfl⟩

theorem readDocument_outside (r : Role) (n : Nat) (d : Document) (p o c : Nat) (s : State) :
    SameOutside s (readDocument r n d p o c s).state := by
  unfold readDocument
  try dsimp only
  repeat' split
  all_goals first | exact ⟨rfl, rfl, rfl, rfl, rfl, rfl⟩ | exact readPage_outside ..

theorem ownRelease_outside (a : Bool) (r : Role) (n : Nat) (d : Document) (s : State) :
    SameOutside s (ownRelease a r n d s).state := by
  unfold ownRelease
  try dsimp only
  repeat' split
  all_goals first | exact ⟨rfl, rfl, rfl, rfl, rfl, rfl⟩

theorem ownForward_outside (a n : Nat) (d : Document) (s : State) :
    SameOutside s (ownForward a n d s).state := by
  unfold ownForward
  try dsimp only
  repeat' split
  all_goals first | exact ⟨rfl, rfl, rfl, rfl, rfl, rfl⟩

theorem ownHold_outside (a n : Nat) (d : Document) (s : State) :
    SameOutside s (ownHold a n d s).state := by
  unfold ownHold
  try dsimp only
  repeat' split
  all_goals first | exact ⟨rfl, rfl, rfl, rfl, rfl, rfl⟩

theorem ownUnhold_outside (a n : Nat) (d : Document) (s : State) :
    SameOutside s (ownUnhold a n d s).state := by
  unfold ownUnhold
  try dsimp only
  repeat' split
  all_goals first | exact ⟨rfl, rfl, rfl, rfl, rfl, rfl⟩

/-- The state in which APPEND's owner leaves the part. -/
def AppendChoice.state : AppendChoice → State
  | .away s _ => s
  | .await s _ => s

theorem ownAppend_outside (a k : Nat) (x : Session) (s : State) : SameOutside s (ownAppend a k x s).state := by
  unfold ownAppend
  try dsimp only
  repeat' split
  all_goals exact ⟨rfl, rfl, rfl, rfl, rfl, rfl⟩

/-- APPEND's request keeps everything outside the body and the bus. -/
theorem execAppend_outside {h : Head} {channel : BitVec 3} {count : BitVec 9} {s t : State}
    (hr : execAppend h channel count s = .next t) : SameOutside s t := by
  unfold execAppend at hr
  split_ifs at hr
  · cases hr; exact .nextPacket s
  · dsimp only at hr
    split at hr
    · cases hr; exact (SameOutside.nextPacket s).trans (.discard _ _ _)
    · have h1 := (SameOutside.nextPacket s).trans (.moveDeadline s.nextPacket (sessionOf (s.tables.role h.sender.toNat) channel))
      have h2 := ownAppend_outside count.toNat (sessionOf (s.tables.role h.sender.toNat) channel)
        ((s.nextPacket.moveDeadline (sessionOf (s.tables.role h.sender.toNat) channel)).body.session
          (sessionOf (s.tables.role h.sender.toNat) channel))
        (s.nextPacket.moveDeadline (sessionOf (s.tables.role h.sender.toNat) channel))
      split at hr
      · rename_i w x hw
        rw [hw] at h2
        cases hr
        exact (h1.trans h2).trans (.discard _ _ _)
      · rename_i w x hw
        rw [hw] at h2
        cases hr
        exact (h1.trans h2).trans ⟨rfl, rfl, rfl, rfl, rfl, rfl⟩

end Sys2Proof.Machine
end

