-- ==== Sys2Proof/Laws/Meanings.lean ====
section
/-! SUPPORT. The effects of the meanings keep every call of the catalog, apart from the admission of a call, HOLD and
UNHOLD, and the rebuild. -/

namespace Sys2Proof.Machine

/-! ### Intake -/

theorem Document.updLastPage_sameCall (d : Document) (f : Page → Page) : d.SameCall (d.updLastPage f) :=
  Document.updPage_sameCall d _ f

theorem Kept.allocate (b : Body) (k : Nat) (p : Place) (l i : Nat) : Kept b (b.allocate k p l i) := .of_catalog rfl rfl

theorem Kept.beginPage {b : Body} {k n : Nat} {d : Document} (hd : b.doc n = some d) (page : Page) (i l : Nat) :
    Kept b (b.beginPage k n d page i l) := by
  unfold Body.beginPage
  dsimp only
  refine Kept.trans ?_ (.setSession _ _ _)
  refine Kept.trans ?_ (.chargeLead _ _)
  refine Kept.trans (.allocate b k ⟨n, d.pages.length + 1, 0⟩ l i) ?_
  exact .setDoc (d := d) hd ⟨rfl, rfl, rfl, rfl, rfl⟩

theorem Kept.rollOver {b : Body} {k n : Nat} {d : Document} (hd : b.doc n = some d) (i l : Nat) :
    Kept b (b.rollOver k n d i l) := by
  unfold Body.rollOver
  dsimp only
  refine Kept.trans ?_ (.chargeLead _ _)
  refine Kept.trans (.allocate b k ⟨n, d.pages.length,
    ((d.page d.pages.length).map (fun p => p.slots.length)).getD 0⟩ l i) ?_
  exact .setDoc (d := d) hd (Document.updLastPage_sameCall d _)

theorem Kept.fill (b : Body) (i : Nat) (bytes : List Byte) : Kept b (b.fill i bytes) := .of_catalog rfl rfl

theorem Kept.growPage (b : Body) (n count : Nat) : Kept b (b.growPage n count) :=
  .updDoc b n (fun d => Document.updLastPage_sameCall d _)

theorem Kept.returnReserved (b : Body) (n i : Nat) : Kept b (b.returnReserved n i) := by
  unfold Body.returnReserved
  dsimp only
  have h : Kept b (((b.updDoc n (fun d => d.updLastPage (fun p => { p with slots := p.slots.dropLast }))).dischargeLead
      n).releaseBuffer i) := by
    refine Kept.trans ?_ (.releaseBuffer _ _)
    refine Kept.trans ?_ (.dischargeLead _ _)
    exact .updDoc b n (fun d => Document.updLastPage_sameCall d _)
  split
  · exact h.same rfl rfl
  · exact h

theorem Kept.settleAppend (b : Body) (a : AppendInFlight) (bytes : List Byte) : Kept b (b.settleAppend a bytes) := by
  unfold Body.settleAppend
  dsimp only
  split_ifs
  · refine Kept.trans ?_ (.returnReserved _ _ _)
    exact (Kept.fill b _ _).trans (.growPage _ _ _)
  · refine Kept.trans ?_ (.growPage _ _ _)
    refine Kept.trans ?_ (.fill _ _ _)
    exact (Kept.fill b _ _).trans (.makeReady _ _)
  · exact (Kept.fill b _ _).trans (.growPage _ _ _)

theorem Kept.endPage (b : Body) (k n x y : Nat) : Kept b (b.endPage k n x y) := by
  unfold Body.endPage
  dsimp only
  refine Kept.trans ?_ (.setSession _ _ _)
  refine Kept.trans ?_ (.makeReady _ _)
  exact .updDoc b n (fun d => Document.updLastPage_sameCall d _)

/-! ### Delivery -/

theorem Kept.openObligation (b : Body) (role : Role) (n : Nat) : Kept b (b.openObligation role n) := by
  unfold Body.openObligation
  split
  · exact .updDoc b n (fun d => ⟨rfl, rfl, rfl, rfl, rfl⟩)
  all_goals exact .refl b

theorem Kept.touchWindow (b : Body) (i : Nat) : Kept b (b.touchWindow i) := .of_catalog rfl rfl

theorem Kept.fetchInto (b : Body) (i l : Nat) : Kept b (b.fetchInto i l) := .of_catalog rfl rfl

/-! ### Obligations -/

theorem Kept.accept {b : Body} {n : Nat} {d : Document} (hd : b.doc n = some d) (o : Obligation) :
    Kept b (b.accept n d o) := by
  unfold Body.accept
  dsimp only
  refine Kept.same (b := b.setDoc n _) (.setDoc (d := d) hd ?_) rfl rfl
  split_ifs <;> exact ⟨rfl, rfl, rfl, rfl, rfl⟩

theorem Kept.decline (t : Tables) (run : Nat) {b : Body} {n : Nat} {d : Document} (hd : b.doc n = some d) (o : Obligation) :
    Kept b (b.decline t run n d o) := by
  unfold Body.decline
  dsimp only
  refine Kept.trans (b := Body.updDoc _ n (fun e => e.removeObligation o.department)) ?_ (.of_catalog rfl rfl)
  refine Kept.trans ?_ (.updDoc _ n (fun e => ⟨rfl, rfl, rfl, rfl, rfl⟩))
  split_ifs
  · refine Kept.same (b := b.setDoc n _) (.setDoc (d := d) hd ?_) rfl rfl
    exact ⟨rfl, rfl, rfl, rfl, rfl⟩
  · exact .addObligation ..

theorem Kept.forwardTo (t : Tables) (run : Nat) {b : Body} {n : Nat} {d : Document} (hd : b.doc n = some d) (dept : Nat) :
    Kept b (b.forwardTo t run n d dept) := by
  unfold Body.forwardTo
  split
  · refine Kept.same (b := b.setDoc n _) (.setDoc (d := d) hd ?_) rfl rfl
    exact ⟨rfl, rfl, rfl, rfl, rfl⟩
  · exact .addObligation ..
  · exact .addObligation ..
  · refine Kept.trans ?_ (.addObligation ..)
    exact .setDoc (d := d) hd ⟨rfl, rfl, rfl, rfl, rfl⟩

theorem Kept.escalate (t : Tables) (run : Nat) (b : Body) (n dept : Nat) : Kept b (b.escalate t run n dept) := by
  unfold Body.escalate
  dsimp only
  have h : Kept b (b.updDoc n
      (fun d => d.updObligation dept (fun o => { o with escalated := true, deadline := none }))) :=
    .updDoc b n (fun d => ⟨rfl, rfl, rfl, rfl, rfl⟩)
  split
  · split_ifs
    · exact h
    · exact h.trans (.addObligation ..)
  · exact h

theorem Kept.escalateDue (t : Tables) (run : Nat) (b : Body) : Kept b (b.escalateDue t run) :=
  Kept.foldl (g := fun (c : Body) (p : Nat × Nat) => c.escalate t run p.1 p.2) (fun c p => .escalate t run c p.1 p.2) _ b

/-! ### Banks -/

theorem Kept.programDone (b : Body) (k i l : Nat) : Kept b (b.programDone k i l) := by
  unfold Body.programDone
  dsimp only
  refine Kept.trans ?_ (.releaseBuffer _ _)
  exact .of_catalog rfl rfl

theorem Kept.unplace (b : Body) (p : Place) : Kept b (b.unplace p) := by
  unfold Body.unplace
  dsimp only
  have h : Kept b (b.updDoc p.slot (fun d => d.updLeafSlot p.page p.index LeafSlot.lost)) :=
    .updDoc b _ (fun d => Document.updPage_sameCall d _ _)
  split_ifs
  · exact h.trans (.advancePurge _ _)
  · exact h

theorem Kept.programLost (b : Body) (k i l : Nat) : Kept b (b.programLost k i l) := by
  unfold Body.programLost
  dsimp only
  split
  · refine Kept.trans ?_ (.unplace _ _)
    exact .of_catalog rfl rfl
  · exact .of_catalog rfl rfl

theorem Kept.fetchDone (b : Body) (f : Flash) (k i : Nat) : Kept b (b.fetchDone f k i) := by
  unfold Body.fetchDone
  dsimp only
  split_ifs
  · refine Kept.trans ?_ (.releaseBuffer _ _)
    exact .of_catalog rfl rfl
  · exact .of_catalog rfl rfl

theorem Kept.eraseDone (b : Body) (k l : Nat) : Kept b (b.eraseDone k l) := .of_catalog rfl rfl

theorem Kept.eraseLost (b : Body) (k l : Nat) : Kept b (b.eraseLost k l) := .of_catalog rfl rfl

/-! ### Resets and starts -/

theorem Kept.settleCut (b : Body) (txn : Transaction) (words : List Word) : Kept b (b.settleCut txn words) := by
  unfold Body.settleCut
  split
  · exact .settleAppend ..
  all_goals exact .refl b

theorem Kept.resetWindow (b : Body) (i : Nat) : Kept b (b.resetWindow i) := by
  unfold Body.resetWindow
  split_ifs
  · exact .releaseBuffer b i
  · exact .of_catalog rfl rfl

theorem Kept.callObliged (b : Body) : Kept b b.callObliged :=
  Kept.foldl (g := Body.callAttention) (fun _ _ => .of_catalog rfl rfl) _ b

theorem Kept.busReset (t : Tables) (tb : Timebase) (b : Body) : Kept b (b.busReset t tb) := by
  unfold Body.busReset
  dsimp only
  refine Kept.trans ?_ (.callObliged _)
  exact (Kept.closeSessions t tb b _ .busReset).trans (Kept.foldl Kept.resetWindow _ _)

theorem Kept.loseVolatile (b : Body) : Kept b b.loseVolatile := by
  unfold Body.loseVolatile
  dsimp only
  refine Kept.trans ?_ (Kept.foldl (g := fun (acc : Body) (k : Nat) => acc.setSession k { acc.session k with queue := [] })
    (fun _ _ => .setSession _ _ _) _ _)
  refine Kept.trans ?_ (Kept.foldl (g := fun (acc : Body) (k : Nat) => acc.setBank k (acc.bank k).cutOff)
    (fun _ _ => .setBank _ _ _) _ _)
  exact .of_catalog rfl rfl

theorem Kept.reconcileLeaves (b : Body) : Kept b b.reconcileLeaves := by
  unfold Body.reconcileLeaves
  dsimp only
  refine Kept.trans ?_ (Kept.foldl (g := Body.voidFront) (fun _ _ => .of_catalog rfl rfl) _ _)
  refine Kept.trans ?_ (Kept.foldl (g := Body.voidLeaf) (fun _ _ => .of_catalog rfl rfl) _ _)
  refine Kept.trans ?_ (Kept.foldl (g := Body.voidLeaf) (fun _ _ => .of_catalog rfl rfl) _ _)
  exact Kept.foldl (g := Body.blankLeaf) (fun _ _ => .of_catalog rfl rfl) _ _

theorem Document.reconcile_sameCall (b : Body) (d : Document) : d.SameCall (d.reconcile b) := by
  unfold Document.reconcile
  dsimp only
  split_ifs <;> exact ⟨rfl, rfl, rfl, rfl, rfl⟩

theorem Kept.reconcileDocument (b : Body) (n : Nat) : Kept b (b.reconcileDocument n) := by
  unfold Body.reconcileDocument
  split
  · rename_i d hd
    exact Kept.same (b := b.setDoc n (d.reconcile b)) (.setDoc hd (Document.reconcile_sameCall b d)) (by simp) (by simp)
  · exact .refl b

theorem Kept.truncate (b : Body) : Kept b b.truncate := by
  unfold Body.truncate
  exact (Kept.foldl Kept.reconcileDocument _ b).trans (Kept.foldl Kept.voidLeaf _ _)

theorem Kept.warmLeaves (b : Body) : Kept b b.warmLeaves := by
  unfold Body.warmLeaves
  refine Kept.trans ?_ (.reconcileLeaves _)
  have h : ∀ c : Body, Kept c { c with sessions := [] } := fun c => .of_catalog rfl rfl
  exact (Kept.loseVolatile b).trans (h _)

theorem Kept.closeReconciled (t : Tables) (tb : Timebase) (b : Body) : Kept b (b.closeReconciled t tb) := by
  unfold Body.closeReconciled
  dsimp only
  refine Kept.trans ?_ (Kept.foldl Kept.freeSlot _ _)
  refine Kept.trans ?_ (Kept.foldl Kept.freeSlot _ _)
  exact Kept.foldl (g := fun (acc : Body) (n : Nat) => acc.closeDocument t tb n .powerLoss) (fun c n => .closeDocument t tb c n _) _ b

theorem Kept.scanLeaf (f : Flash) (b : Body) (l : Nat) : Kept b (b.scanLeaf f l) := by
  unfold Body.scanLeaf
  split
  · exact Kept.trans (.setLeaf b l Leaf.blank) (.of_catalog rfl rfl)
  · exact .voidLeaf b l
  · exact .setLeaf b l _
  · exact .refl b

/-- What waits for the part to become RUNNING keeps every call. -/
theorem Kept.resume (s : State) : Kept s.body s.resume.body := by
  unfold State.resume
  dsimp only
  have h := Kept.escalateDue s.tables s.time.run s.body
  split_ifs
  · exact h.trans (.arbitrate _ _ _)
  · refine Kept.trans ?_ (.startDuePurges _ _ _ _)
    refine Kept.trans ?_ (.arbitrate _ _ _)
    exact h.same rfl rfl
  · refine Kept.trans ?_ (.arbitrate _ _ _)
    refine Kept.trans ?_ (.startDuePurges _ _ _ _)
    exact h.same rfl rfl

end Sys2Proof.Machine
end

