-- ==== Sys2Proof/Laws/PerInstr.lean ====
section
/-! SUPPORT. The family `Packet`: what a command's request packet carries is within the widths of R181 and names the
command again; one lemma per command. -/

namespace Sys2Proof.Laws.Packet

open Sys2Proof.Machine

/-- The packet of a well-formed command, where it has one: an operation code of 5 bits, one value for each of the
operation's fields and within its width, at most 112 bits in all, and the command is read back from them. -/
def Statement (i : Instr) : Prop :=
  i.wellFormed = true → ∀ h op values, packetOf i = some (h, op, values) →
    op < 32 ∧ (operationWidths op).length = values.length ∧
      (∀ f ∈ (operationWidths op).zip values, f.2 < 2 ^ f.1) ∧ (operationWidths op).sum ≤ 112 ∧
      decodeOperation h op values = some i

theorem openCall h channel extension identityLength identity : Statement (.openCall h channel extension identityLength identity) := by
  intro hw hd op values hp
  cases hp
  refine ⟨by decide, rfl, ?_, by decide, ?_⟩
  · simp [operationWidths]
    refine ⟨BitVec.isLt _, BitVec.isLt _, BitVec.isLt _, BitVec.isLt _⟩
  · simp [decodeOperation]

theorem pageBegin h channel density width coding : Statement (.pageBegin h channel density width coding) := by
  intro hw hd op values hp
  cases hp
  refine ⟨by decide, rfl, ?_, by decide, ?_⟩
  · simp [operationWidths]
    refine ⟨BitVec.isLt _, BitVec.isLt _, BitVec.isLt _, BitVec.isLt _⟩
  · simp [decodeOperation]

theorem append h channel count : Statement (.append h channel count) := by
  intro hw hd op values hp
  cases hp
  refine ⟨by decide, rfl, ?_, by decide, ?_⟩
  · simp [operationWidths]
    refine ⟨BitVec.isLt _, BitVec.isLt _⟩
  · simp [decodeOperation]

theorem appendDataBlockEnd words : Statement (.appendDataBlockEnd words) := by
  intro hw hd op values hp
  cases hp

theorem pageEnd h channel scanlines badLines : Statement (.pageEnd h channel scanlines badLines) := by
  intro hw hd op values hp
  cases hp
  refine ⟨by decide, rfl, ?_, by decide, ?_⟩
  · simp [operationWidths]
    refine ⟨BitVec.isLt _, BitVec.isLt _, BitVec.isLt _⟩
  · simp [decodeOperation]

theorem closeCall h channel ending : Statement (.closeCall h channel ending) := by
  intro hw hd op values hp
  cases hp
  refine ⟨by decide, rfl, ?_, by decide, ?_⟩
  · simp [operationWidths]
    refine ⟨BitVec.isLt _, BitVec.isLt _⟩
  · simp [decodeOperation]

theorem endSession h session : Statement (.endSession h session) := by
  intro hw hd op values hp
  cases hp
  refine ⟨by decide, rfl, ?_, by decide, ?_⟩
  · simp [operationWidths]
    exact BitVec.isLt _
  · simp [decodeOperation]

theorem idleExpiry session : Statement (.idleExpiry session) := by
  intro hw hd op values hp
  cases hp

theorem list h afterSerial department : Statement (.list h afterSerial department) := by
  intro hw hd op values hp
  cases hp
  refine ⟨by decide, rfl, ?_, by decide, ?_⟩
  · simp [operationWidths]
    refine ⟨BitVec.isLt _, BitVec.isLt _⟩
  · simp [decodeOperation]

theorem describe h slot generation firstPage : Statement (.describe h slot generation firstPage) := by
  intro hw hd op values hp
  cases hp
  refine ⟨by decide, rfl, ?_, by decide, ?_⟩
  · simp [operationWidths]
    refine ⟨BitVec.isLt _, BitVec.isLt _, BitVec.isLt _⟩
  · simp [decodeOperation]

theorem read h slot generation page offset count : Statement (.read h slot generation page offset count) := by
  intro hw hd op values hp
  cases hp
  refine ⟨by decide, rfl, ?_, by decide, ?_⟩
  · simp [operationWidths]
    refine ⟨BitVec.isLt _, BitVec.isLt _, BitVec.isLt _, BitVec.isLt _, BitVec.isLt _⟩
  · simp [decodeOperation]

theorem release h slot generation choice : Statement (.release h slot generation choice) := by
  intro hw hd op values hp
  cases hp
  refine ⟨by decide, rfl, ?_, by decide, ?_⟩
  · simp [operationWidths]
    refine ⟨BitVec.isLt _, BitVec.isLt _, BitVec.isLt _⟩
  · simp [decodeOperation]

theorem forward h slot generation department : Statement (.forward h slot generation department) := by
  intro hw hd op values hp
  cases hp
  refine ⟨by decide, rfl, ?_, by decide, ?_⟩
  · simp [operationWidths]
    refine ⟨BitVec.isLt _, BitVec.isLt _, BitVec.isLt _⟩
  · simp [decodeOperation]

theorem hold h slot generation tag : Statement (.hold h slot generation tag) := by
  intro hw hd op values hp
  cases hp
  refine ⟨by decide, rfl, ?_, by decide, ?_⟩
  · simp [operationWidths]
    refine ⟨BitVec.isLt _, BitVec.isLt _, BitVec.isLt _⟩
  · simp [decodeOperation]

theorem unhold h slot generation tag : Statement (.unhold h slot generation tag) := by
  intro hw hd op values hp
  cases hp
  refine ⟨by decide, rfl, ?_, by decide, ?_⟩
  · simp [operationWidths]
    refine ⟨BitVec.isLt _, BitVec.isLt _, BitVec.isLt _⟩
  · simp [decodeOperation]

theorem setNode h node role value : Statement (.setNode h node role value) := by
  intro hw hd op values hp
  cases hp
  refine ⟨by decide, rfl, ?_, by decide, ?_⟩
  · simp [operationWidths]
    refine ⟨BitVec.isLt _, BitVec.isLt _, BitVec.isLt _⟩
  · simp [decodeOperation]

theorem setRoute h index pattern department role : Statement (.setRoute h index pattern department role) := by
  intro hw hd op values hp
  cases hp
  refine ⟨by decide, rfl, ?_, by decide, ?_⟩
  · simp [operationWidths]
    refine ⟨BitVec.isLt _, BitVec.isLt _, BitVec.isLt _, BitVec.isLt _⟩
  · simp [decodeOperation]

theorem clearRoute h index : Statement (.clearRoute h index) := by
  intro hw hd op values hp
  cases hp
  refine ⟨by decide, rfl, ?_, by decide, ?_⟩
  · simp [operationWidths]
    exact BitVec.isLt _
  · simp [decodeOperation]

theorem setDepartment h department enabled quota escalation retention copyAll : Statement (.setDepartment h department enabled quota escalation retention copyAll) := by
  intro hw hd op values hp
  cases hp
  refine ⟨by decide, rfl, ?_, by decide, ?_⟩
  · simp [operationWidths]
    refine ⟨BitVec.isLt _, BitVec.isLt _, BitVec.isLt _, BitVec.isLt _, BitVec.isLt _, BitVec.isLt _⟩
  · simp [decodeOperation]

theorem setLimits h floor idleTimeout : Statement (.setLimits h floor idleTimeout) := by
  intro hw hd op values hp
  cases hp
  refine ⟨by decide, rfl, ?_, by decide, ?_⟩
  · simp [operationWidths]
    refine ⟨BitVec.isLt _, BitVec.isLt _⟩
  · simp [decodeOperation]

theorem setClock h value : Statement (.setClock h value) := by
  intro hw hd op values hp
  cases hp
  have ht : h.target ≠ broadcastTarget := by simpa [Instr.wellFormed] using hw
  refine ⟨by decide, rfl, ?_, by decide, ?_⟩
  · simp [operationWidths]
    exact BitVec.isLt _
  · simp [decodeOperation, ht]

theorem broadcastSetClock sender value : Statement (.broadcastSetClock sender value) := by
  intro hw hd op values hp
  cases hp
  refine ⟨by decide, rfl, ?_, by decide, ?_⟩
  · simp [operationWidths]
    exact BitVec.isLt _
  · simp [decodeOperation]

theorem status h : Statement (.status h) := by
  intro hw hd op values hp
  cases hp
  exact ⟨by decide, rfl, by simp [operationWidths], by decide, rfl⟩

theorem unknownOperation h code : Statement (.unknownOperation h code) := by
  intro hw hd op values hp
  cases hp
  refine ⟨code.isLt, ?_⟩
  obtain ⟨n, hn⟩ : ∃ n, code.toNat = n := ⟨_, rfl⟩
  have hl : n < 32 := hn ▸ code.isLt
  have hc : code = BitVec.ofNat 5 n := by rw [← hn]; simp
  subst hc
  simp only [Instr.wellFormed, hn] at hw ⊢
  interval_cases n <;> first | (exact absurd hw (by decide)) | (exact ⟨rfl, by simp [operationWidths], by decide, rfl⟩)

theorem tick : Statement .tick := by
  intro hw hd op values hp
  cases hp

theorem escalation slot department : Statement (.escalation slot department) := by
  intro hw hd op values hp
  cases hp

theorem retentionDue slot : Statement (.retentionDue slot) := by
  intro hw hd op values hp
  cases hp

theorem programComplete bank : Statement (.programComplete bank) := by
  intro hw hd op values hp
  cases hp

theorem programFail bank : Statement (.programFail bank) := by
  intro hw hd op values hp
  cases hp

theorem fetchComplete bank : Statement (.fetchComplete bank) := by
  intro hw hd op values hp
  cases hp

theorem voidMarkEnd bank completed : Statement (.voidMarkEnd bank completed) := by
  intro hw hd op values hp
  cases hp

theorem eraseEnd bank completed : Statement (.eraseEnd bank completed) := by
  intro hw hd op values hp
  cases hp

theorem busReset words : Statement (.busReset words) := by
  intro hw hd op values hp
  cases hp

theorem powerFailWarning : Statement .powerFailWarning := by
  intro hw hd op values hp
  cases hp

theorem powerFailWithdrawn : Statement .powerFailWithdrawn := by
  intro hw hd op values hp
  cases hp

theorem mainPowerLoss cutsChange : Statement (.mainPowerLoss cutsChange) := by
  intro hw hd op values hp
  cases hp

theorem mainPowerReturn hub recordsNode : Statement (.mainPowerReturn hub recordsNode) := by
  intro hw hd op values hp
  cases hp

theorem warmStartComplete : Statement .warmStartComplete := by
  intro hw hd op values hp
  cases hp

theorem rebuildComplete : Statement .rebuildComplete := by
  intro hw hd op values hp
  cases hp

theorem busResetWithdrawn : Statement .busResetWithdrawn := by
  intro hw hd op values hp
  cases hp

theorem backupSupplyFailure : Statement .backupSupplyFailure := by
  intro hw hd op values hp
  cases hp

theorem headerScanLeafRead : Statement .headerScanLeafRead := by
  intro hw hd op values hp
  cases hp

end Sys2Proof.Laws.Packet
end

