-- ==== Sys2Proof/Tests/Slice0.lean ====
section
/-! SUPPORT. The model's own tests: terms that the check of well-formed commands refuses, worked examples of the manual,
one small step for each command, and for each statement with hypotheses a state and operands that meet them. -/

namespace Sys2Proof.Tests

set_option Elab.async false

open Sys2Proof Sys2Proof.Machine

/-! ### Well-formed commands -/

theorem test_wellFormed_addressed_setClock_not_broadcast : (Instr.setClock ⟨15, 0⟩ 5).wellFormed = false := by decide
theorem test_wellFormed_unknown_operation_names_no_request : (Instr.unknownOperation ⟨1, 0⟩ 3).wellFormed = false := by
  decide
set_option maxRecDepth 4000 in
theorem test_wellFormed_append_block_at_most_128_words :
    (Instr.appendDataBlockEnd (List.replicate 129 0)).wellFormed = false ∧
      (Instr.appendDataBlockEnd (List.replicate 128 0)).wellFormed = true := by decide
set_option maxRecDepth 4000 in
theorem test_wellFormed_reset_block_at_most_128_words : (Instr.busReset (List.replicate 129 0)).wellFormed = false := by
  decide

/-- A packet written out from R181: HOLD (12) from node 5 to hub 2, slot 77, generation 3, tag 700. Word 0 is the target
in four bits, the sender in six and the operation in five, and a zero bit; the fields follow from word 1. -/
theorem test_packet_hold :
    decodePacket [0b0010000101011000#16, 0b0000001001101000#16, 0b0001100000010101#16, 0b1110000000000000#16, 0, 0, 0, 0] =
      some (.hold ⟨2, 5⟩ 77 3 700) := by decide +kernel

/-! ### Worked examples of the manual -/

/-- The CRC of R184's check sequence "123456789" is 29B1 hexadecimal. -/
theorem test_crc_check_value :
    crc16 ((List.range 9).flatMap (fun i => bitsOf 8 (49 + i))) = 0x29B1#16 := by decide +kernel

/-- 9.5: the hold-back sequence, steps 1, 5 and 6, and 9. -/
theorem test_hold_back_sequence :
    (Timebase.mk 500000 true 0 9000000).set 480000 = ⟨500000, true, 20000, 9000000⟩ ∧
      (Timebase.mk 500000 true 1 9014999).tick.tick = ⟨500001, true, 0, 9015001⟩ ∧
      (Timebase.mk 500001 true 0 9015001).set 100000 = ⟨500001, true, 57600, 9015001⟩ ∧
      (Timebase.mk 500001 true 37600 9035001).set 600000 = ⟨600000, true, 0, 9035001⟩ := by decide +kernel

/-- An obligation. -/
def owed (dept : Nat) (kind : ObKind) (charge : Nat) : Obligation := ⟨dept, kind, .pending, 0, none, false, charge⟩

/-- 6.4: 23 leaves among 3 are 8, 8, 7; 2 among 5 are 1, 1, 0, 0, 0; 17 among 16 are 2 and fifteen 1. -/
theorem test_apportionment_table :
    (apportion (23 / 3) (23 % 3) (List.replicate 3 (owed 1 .copy 0))).map (fun o => o.charge) = [8, 8, 7] ∧
      (apportion (2 / 5) (2 % 5) (List.replicate 5 (owed 1 .copy 0))).map (fun o => o.charge) = [1, 1, 0, 0, 0] ∧
      (apportion (17 / 16) (17 % 16) (List.replicate 16 (owed 1 .copy 0))).map (fun o => o.charge) =
        2 :: List.replicate 15 1 := by decide +kernel

/-- 8.2 and its worked example: base 1,000,000,000 and 3,650 days. -/
theorem test_retain_until_example : retainTicks 1000000000 3650 = 21183040000 := by decide +kernel

/-- R84: the bank with the most BLANK leaves, the lowest-numbered of several. -/
theorem test_allocation_rule :
    ({ Body.cold with banks := [(0, ⟨[4], [], [], .none⟩), (2, ⟨[2, 6], [], [], .none⟩), (3, ⟨[3, 7], [], [], .none⟩)] }
      : Body).nextLeaf = some 2 := by decide +kernel

/-- 10.7: documents A and B keep what reached flash, the loss is taken, C loses its only slot. -/
theorem test_warm_start_loss :
    deductCharges 3 [owed 1 .primary 5, owed 2 .copy 0] = [owed 1 .primary 2, owed 2 .copy 0] ∧
      deductRest 3 [owed 1 .primary 5, owed 2 .copy 0] = 0 ∧ deductRest 1 [] = 1 ∧
      (Page.truncate { Body.cold with leaves := [(1000, ⟨.programmed, none, none⟩), (1001, ⟨.programmed, none, none⟩)] }
        ⟨.closed, .normal, .standard, 0, 10500, some (1, 0), [.placed 1000, .placed 1001, .placed 1002]⟩) =
        ⟨.cut, .normal, .standard, 0, 8192, none, [.placed 1000, .placed 1001]⟩ := by decide +kernel

/-! ### A small state

Hub 1; node 0 is the records node, node 1 holds line index 1, nodes 2 and 3 are of departments 3 and 0. Slot 0 is
RECEIVING in session 8 with an OPEN page, slot 4 in session 9 without one; slot 1 is DISTRIBUTING with an overdue
obligation of department 3; slots 2 and 3 are RETAINED past their retain-until, slot 3 held. Every idle bank is without
work. -/

/-- A page of one leaf slot. -/
def sheet (state : PageState) (slot : LeafSlot) : Page := ⟨state, .normal, .standard, 0, 3, none, [slot]⟩

/-- A document; retention base 100 and retain-until 900. -/
def paper (serial : Nat) (state : DocState) (session : Option Nat) (pages : List Page) (os : List Obligation)
    (retained : Nat) (holds : List Nat) : Document :=
  { serial := serial, state := state, ending := none, session := session, extension := none, caller := none,
    openTime := ⟨0, true⟩, receipt := none, pages := pages, obligations := os, retained := retained, base := .known 100,
    departments := [3], retainUntil := .known 900, holds := holds }

def docs : List Document :=
  [paper 1 .receiving (some 8) [sheet .openPage (.placed 8)] [owed 0 .unrouted 1] 0 [],
   paper 2 .distributing none [sheet .closed (.placed 9)] [{ owed 3 .primary 1 with deadline := some 450 }] 0 [],
   paper 3 .retained none [sheet .closed (.placed 10)] [] 1 [],
   paper 4 .retained none [sheet .closed (.placed 11)] [] 1 [7],
   paper 5 .receiving (some 9) [] [owed 0 .unrouted 0] 0 []]

/-- A programmed leaf of a document's only slot. -/
def kept (slot : Nat) : Leaf := ⟨.programmed, some ⟨slot, 1, 0⟩, none⟩

/-- The header of the leaf of slot 1. -/
def header : List Word := (assembleHeader (docs.getD 1 (paper 1 .receiving none [] [] 0 [])) 0 ⟨1, 1, 0⟩ 3).words

def demo : State :=
  { body :=
      { sessions := [(8, ⟨.inPage, some 0, some 400, [0]⟩), (9, ⟨.admitted, some 4, some 9000, []⟩)],
        buffers := [(0, ⟨.filling, some 8, some ⟨0, 1, 0⟩, some (.session 8), [1, 2, 3], false⟩)], ready := [],
        windows := [],
        leaves := [(8, ⟨.filling, some ⟨0, 1, 0⟩, some 0⟩), (9, kept 1), (10, kept 2), (11, kept 3)],
        banks := [(0, ⟨[16, 20], [], [], .none⟩), (1, ⟨[17], [], [], .none⟩)], purges := [],
        catalog := docs.zipIdx.map (fun p => (p.2, ⟨0, some p.1⟩)), nextSerial := 6, accounts := [(0, 1), (3, 1)],
        attention := [(3, true)], draws := 0 },
    tables :=
      { nodes := [(0, .records), (1, .line 1), (2, .department 3), (3, .department 0)],
        depts := [(0, { Dept.coldIntake with nodes := [3] }),
          (3, ⟨true, 65536, 10, 2555, false, [2]⟩), (5, ⟨true, 65536, 10, 2555, false, []⟩)],
        routes := [(0, some ⟨[1, 2, 14, 14, 14, 14], 3, .primary⟩)], floor := 0, idleTimeout := 3840, hub := 1,
        recordsNode := 0 },
    time := ⟨1000, true, 0, 500⟩,
    recovery := ⟨.running, true, true, false, .warm, 65536, 0, 0, 0, 0, 0⟩,
    flash := ⟨[(9 * 4096, 65), (9 * 4096 + 1, 66), (9 * 4096 + 2, 67)], [(9, ⟨header, 0xFFFF#16⟩)], 0⟩,
    txn := .none, resetHeld := false, sent := none, cuts := 0, pending := [] }

/-- The head of a request to hub 1. -/
def from' (node : BitVec 6) : Head := ⟨1, node⟩

/-- The state after a command, if there is one. -/
def after (c : Instr) (s : State) : Option State :=
  match exec c s with
  | .next t => some t
  | .fault _ | .refused _ => none

/-- What a command made of a state. -/
def seen {α : Type} (c : Instr) (s : State) (f : State → α) : Option α := (after c s).map f

/-- The verdict sent. -/
def verdict (s : State) : Option Verdict := s.sent.map (fun m => m.answer.verdict)

/-- The small state with an operation under way on a bank. -/
def busy (k : Nat) (op : BankOp) : State := { demo with body := demo.body.setOp k op }

/-- The small state in another part state. -/
def inPart (p : PartState) (mark pfw : Bool) : State :=
  { demo with recovery := { demo.recovery with part := p, mark := mark, pfw := pfw } }

/-- The small state with session 8 STOPPED. -/
def stopped : State := { demo with body := demo.body.setSession 8 ⟨.stopped, some 0, some 400, []⟩ }

/-- A document of the small state. -/
def doc (n : Nat) : Document := docs.getD n (paper 1 .receiving none [] [] 0 [])

/-! ### One step for each command -/

theorem test_openCall : seen (.openCall (from' 1) 2 0x123456 3 0x12300000000000000000) demo (fun t =>
      ((t.body.session 10).doc, (t.body.doc 5).map (fun d => (d.extension, d.caller)))) =
      some (some 5, some (some [1, 2, 3, 4, 5, 6], some [1, 2, 3])) ∧
    seen (.openCall (from' 1) 2 0x123456 3 0x12300000000000000000) demo verdict =
      some (some (.taken (.openCall 3 .primary 10 5 0 6))) := by decide +kernel
theorem test_pageBegin : seen (.pageBegin (from' 1) 1 1 2 0) demo (fun t =>
      ((t.body.session 9).state, (t.body.leaf 16).state, t.body.account 0, verdict t)) =
    some (.inPage, .filling, 2, some (.taken (.pageBegin 1))) := by decide +kernel
theorem test_append : seen (.append (from' 1) 0 4) demo (fun t => t.txn) =
    some (.appending ⟨8, 4, 4093, false⟩) := by decide +kernel
theorem test_appendDataBlockEnd :
    seen (.appendDataBlockEnd [0x0405#16]) { demo with txn := .appending ⟨8, 4, 4093, false⟩ } (fun t =>
      ((t.body.buffer 0).data, verdict t)) = some ([1, 2, 3, 4, 5], some (.taken (.append 2 5))) := by decide +kernel
theorem test_pageEnd : seen (.pageEnd (from' 1) 0 100 2) (busy 0 (.fetch 9)) (fun t =>
      ((t.body.session 8).state, (t.body.buffer 0).state, t.body.ready, verdict t)) =
    some (.admitted, .ready, [0], some (.taken (.pageEnd 1 3))) := by decide +kernel
theorem test_pageEnd_starts_the_program : seen (.pageEnd (from' 1) 0 100 2) demo (fun t =>
      ((t.body.buffer 0).state, (t.body.leaf 8).state)) = some (.programming, .programming) := by decide +kernel
theorem test_closeCall_discards_an_empty_call : seen (.closeCall (from' 1) 1 0) demo (fun t =>
      ((t.body.session 9).state, t.body.slot 4)) = some (.idle, ⟨1, none⟩) := by decide +kernel
theorem test_endSession : seen (.endSession (from' 0) 8) demo (fun t =>
      ((t.body.doc 0).map (fun d => (d.state, d.ending, d.pages.map (fun p => p.state))), (t.body.buffer 0).holder)) =
    some (some (.distributing, some .forced, [.cut]), some .orphan) := by decide +kernel
theorem test_idleExpiry : seen (.idleExpiry 8) demo (fun t => (t.body.doc 0).map (fun d => (d.ending, d.receipt))) =
    some (some (some .timeout, some ⟨1000, true⟩)) := by decide +kernel
theorem test_idleExpiry_not_yet : exec (.idleExpiry 9) demo = .fault .notDue := rfl
theorem test_list : seen (.list (from' 2) 0 0) demo (fun t => (t.body.attends 3, verdict t)) =
    some (false, some (.taken (.list 1 false))) := by decide +kernel
theorem test_describe : seen (.describe (from' 0) 1 0 1) demo verdict = some (some (.taken .plain)) := by decide +kernel
theorem test_read_misses : seen (.read (from' 2) 1 0 1 0 9) demo (fun t => (t.body.windows, verdict t)) =
    some ([1], some (.defer .fetching)) := by decide +kernel
theorem test_read_live : seen (.read (from' 0) 0 0 1 1 9) demo (fun t => t.sent.map (fun m => m.block)) =
    some (some (.bytes [2, 3])) := by decide +kernel
theorem test_release_accept : seen (.release (from' 2) 1 0 0) (busy 1 (.fetch 9)) (fun t =>
      ((t.body.doc 1).map (fun d => (d.state, d.retained)), t.body.account 3, t.body.purges, verdict t)) =
    some (some (.purging, 1), 0, [1], some (.taken (.release .retained 0))) := by decide +kernel
theorem test_release_decline : seen (.release (from' 2) 1 0 1) demo (fun t =>
      ((t.body.doc 1).map (fun d => d.obligations), t.body.account 0, t.body.attends 0)) =
    some (some [⟨0, .rerouted, .pending, 500, none, false, 1⟩], 2, true) := by decide +kernel
theorem test_forward : seen (.forward (from' 0) 2 0 5) demo (fun t =>
      ((t.body.doc 2).map (fun d => (d.state, d.retained, d.obligations)), verdict t)) =
    some (some (.distributing, 0, [⟨5, .forwarded, .pending, 500, some 38900, false, 1⟩]),
      some (.taken (.forward 1 .distributing))) := by decide +kernel
theorem test_hold : seen (.hold (from' 0) 3 0 5) demo (fun t => (t.body.doc 3).map (fun d => d.holds)) =
    some (some [5, 7]) := by decide +kernel
theorem test_unhold_starts_the_purge : seen (.unhold (from' 0) 3 0 7) (busy 3 (.fetch 9)) (fun t =>
      ((t.body.doc 3).map (fun d => d.state), verdict t)) = some (some .purging, some (.taken (.unhold 0 .purging))) := by
  decide +kernel
theorem test_setNode_withdraws_the_line : seen (.setNode (from' 0) 1 0 0) demo (fun t =>
      (t.tables.role 1, (t.body.session 8).state, (t.body.doc 0).map (fun d => d.ending))) =
    some (.none, .idle, some (some .withdrawn)) := by decide +kernel
theorem test_setRoute : seen (.setRoute (from' 0) 5 0x12EEEE 5 1) demo (fun t => t.tables.route 5) =
    some (some ⟨[1, 2, 14, 14, 14, 14], 5, .copy⟩) := by decide +kernel
theorem test_clearRoute : seen (.clearRoute (from' 0) 0) demo (fun t => t.tables.route 0) = some none := by decide +kernel
theorem test_setDepartment_clamps : seen (.setDepartment (from' 0) 5 0 0 11000 4000 1) demo (fun t => t.tables.dept 5) =
    some ⟨false, 1, 10080, 3650, true, []⟩ := by decide +kernel
theorem test_setLimits_clamps : seen (.setLimits (from' 0) 9000 3) demo (fun t => (t.tables.floor, t.tables.idleTimeout)) =
    some (8192, 320) := by decide +kernel
theorem test_setClock_holds_back : seen (.setClock (from' 0) 400) demo (fun t => (t.time, verdict t)) =
    some (⟨1000, true, 600, 500⟩, some (.taken (.setClock 400 1000 true 600))) := by decide +kernel
theorem test_broadcastSetClock_is_not_answered : seen (.broadcastSetClock 0 400) demo (fun t => (t.time.holdBack, t.sent)) =
    some (600, none) := by decide +kernel
theorem test_status : seen (.status (from' 2)) (inPart .powerFail true true) (fun t =>
      (verdict t, t.sent.map (fun m => m.answer.attention))) = some (some (.taken .plain), some true) := by decide +kernel
theorem test_unknownOperation : seen (.unknownOperation (from' 2) 30) demo verdict = some (some (.denied .malformed)) := by
  decide +kernel
theorem test_tick : seen .tick demo (fun t => t.time) = some ⟨1001, true, 0, 501⟩ := by decide +kernel
theorem test_tick_starts_the_purges_that_are_due : seen .tick demo (fun t =>
      (t.time.clock, t.body.slot 2, (t.body.leaf 10).state, (t.body.doc 3).map (fun d => d.state))) =
    some (1001, ⟨1, none⟩, .voiding, some .retained) := by decide +kernel
theorem test_escalation : seen (.escalation 1 3) demo (fun t => (t.body.doc 1).map (fun d => d.obligations)) =
    some (some [⟨3, .primary, .pending, 0, none, true, 1⟩, ⟨0, .escalated, .pending, 500, none, false, 0⟩]) := by
  decide +kernel
theorem test_retentionDue_voids_the_leaf : seen (.retentionDue 2) demo (fun t =>
      (t.body.slot 2, (t.body.leaf 10).state, (t.body.bank 2).op)) = some (⟨1, none⟩, .voiding, .voidMark 10) := by
  decide +kernel
theorem test_retentionDue_finds_its_purge_started :
    seen (.retentionDue 2) { demo with body := demo.body.updDoc 2 (fun d => { d with state := .purging }) } (fun t =>
      (t.body.purges, t.body.slot 2)) = some ([], ⟨0, some { doc 2 with state := .purging }⟩) := by decide +kernel
theorem test_programComplete : seen (.programComplete 0) (busy 0 (.program 0 8 header)) (fun t =>
      ((t.body.leaf 8).state, (t.body.buffer 0).state, Memory.read t.flash.data (8 * 4096 + 2), t.flash.spareOf 8)) =
    some (.programmed, .free, 3, ⟨header, 0xFFFF#16⟩) := by decide +kernel
theorem test_programFail_waits_for_a_replacement : seen (.programFail 0) (busy 0 (.program 0 8 header)) (fun t =>
      ((t.body.leaf 8).state, (t.body.doc 0).map (fun d => d.pages.map (fun p => p.slots)), (t.body.buffer 0).leaf)) =
    some (.retired, some [[.unplaced]], none) := by decide +kernel
theorem test_fetchComplete :
    seen (.fetchComplete 1)
      { busy 1 (.fetch 1) with body := (busy 1 (.fetch 1)).body.setBuffer 1 ⟨.fetching, some 9, none, some .delivery, [], false⟩ }
      (fun t => t.body.buffer 1) = some ⟨.window, some 9, none, some .delivery, [65, 66, 67], false⟩ := by decide +kernel
theorem test_voidMarkEnd_starts_the_erase : seen (.voidMarkEnd 1 true) (busy 1 (.voidMark 9)) (fun t =>
      ((t.body.leaf 9).state, (t.body.bank 1).op, (t.flash.spareOf 9).classOf)) =
    some (.erasing, .erase 9, .voidMarked) := by decide +kernel
theorem test_eraseEnd : seen (.eraseEnd 1 true) (busy 1 (.erase 9)) (fun t =>
      ((t.body.leaf 9).state, (t.body.bank 1).blank, Memory.read t.flash.data (9 * 4096))) =
    some (.blank, [17, 9], 255) := by decide +kernel
theorem test_busReset : seen (.busReset []) demo (fun t =>
      ((t.body.session 8).state, (t.body.doc 0).map (fun d => d.ending), t.body.attends 0, t.sent, t.resetHeld)) =
    some (.idle, some (some .busReset), true, none, true) := by decide +kernel
/-- An answer of four words that the part is sending. -/
def sending : State := { demo with txn := .sending ⟨⟨12, .taken (.hold 1), false⟩, .none, none⟩ }

theorem test_busReset_ends_what_is_being_sent :
    seen (.busReset []) sending (fun t => (t.txn, t.cuts)) = some (.none, 1) ∧
      (sending.endTransaction.sent = (⟨⟨12, .taken (.hold 1), false⟩, .none, none⟩ : Sent).cutShort (Config.freeWordsGone 0)) ∧
      (⟨⟨12, .taken (.hold 1), false⟩, .none, some 3⟩ : Sent).words.map List.length = [3] ∧
      ((⟨⟨12, .taken (.hold 1), false⟩, .none, none⟩ : Sent).cutShort 4) = none := by
  refine ⟨by decide +kernel, rfl, by decide +kernel, by decide +kernel⟩
theorem test_a_packet_after_an_answer_is_heard : seen (.status (from' 2)) sending verdict = some (some (.taken .plain)) := by
  decide +kernel
/-- R183: every block of a reading but its last holds 128 words. -/
theorem test_status_session_blocks : (readSessions demo.body 500).blocks.map List.length = [128, 114] := by decide +kernel
theorem test_busReset_silences_requests :
    seen (.status (from' 2)) { demo with resetHeld := true } (fun t => t.sent) = some none := by decide +kernel
theorem test_busResetWithdrawn : seen .busResetWithdrawn { demo with resetHeld := true } (fun t => t.resetHeld) =
    some false := rfl
theorem test_powerFailWarning : seen .powerFailWarning demo (fun t => t.recovery.part) = some .powerFail := rfl
theorem test_powerFailWithdrawn : seen .powerFailWithdrawn { inPart .powerFail true true with time := ⟨0, true, 0, 0⟩ }
      (fun t => t.recovery.part) = some .running := by decide +kernel
/-- The small state in POWER_FAIL with its escalation reached and no retain-until. -/
def waiting : State := { inPart .powerFail true true with time := ⟨0, true, 0, 500⟩ }
theorem test_powerFailWithdrawn_fires_the_escalations : seen .powerFailWithdrawn waiting (fun t =>
      ((t.body.doc 1).map (fun d => d.obligations), t.body.attends 0, t.body.account 3)) =
    some (some [⟨3, .primary, .pending, 0, none, true, 1⟩, ⟨0, .escalated, .pending, 500, none, false, 0⟩], true, 1) := by
  decide +kernel
theorem test_mainPowerLoss : seen (.mainPowerLoss false) demo (fun t =>
      (t.recovery.part, t.recovery.mark, t.body.buffers, (t.body.session 8).queue)) = some (.off, true, [], []) := by
  decide +kernel
theorem test_mainPowerReturn_warm : seen (.mainPowerReturn 2 2) (inPart .off true false) (fun t =>
      (t.recovery.part, t.tables.role 2, t.tables.role 0, (t.tables.dept 3).nodes)) =
    some (.starting, .records, .none, []) := by decide +kernel
theorem test_mainPowerReturn_cold : seen (.mainPowerReturn 2 2) (inPart .off false false) (fun t =>
      (t.recovery.part, t.body.catalog, t.time)) = some (.rebuilding, [], ⟨0, false, 0, 0⟩) := by decide +kernel
theorem test_warmStartComplete :
    seen .warmStartComplete { inPart .starting false false with time := ⟨0, true, 0, 0⟩ } (fun t =>
      (t.recovery.part, t.body.slot 0, (t.body.doc 1).map (fun d => d.serial), (t.body.leaf 8).state,
        (t.body.bank 0).blank)) = some (.running, ⟨1, none⟩, some 2, .blank, [16, 20, 8]) := by decide +kernel
theorem test_headerScanLeafRead :
    seen .headerScanLeafRead
      { inPart .rebuilding false false with body := Body.cold, recovery := { demo.recovery with part := .rebuilding, scanned := 5 } }
      (fun t => (t.recovery.scanned, (t.body.bank 1).blank)) = some (6, [5]) := by decide +kernel
theorem test_rebuildComplete :
    seen .rebuildComplete { inPart .rebuilding false false with body := Body.cold } (fun t =>
      (t.recovery.part, t.body.leaf 9, t.body.account 0, t.body.nextSerial)) =
        some (.running, ⟨.programmed, some ⟨0, 1, 0⟩, none⟩, 1, 3) ∧
    seen .rebuildComplete { inPart .rebuilding false false with body := Body.cold } (fun t =>
      (t.body.doc 0).map (fun d => (d.serial, d.ending, d.pages.map (fun p => p.slots)))) =
        some (some (2, some .rebuilt, [[.placed 9]])) := by decide +kernel
theorem test_rebuildComplete_reads_the_headers :
    seen .rebuildComplete { inPart .rebuilding false false with body := Body.cold } (fun t =>
      (t.body.doc 0).map (fun d => (d.extension, d.pages.map (fun p => (p.density, p.width, p.coding))))) =
        some (some (none, [(.normal, .standard, 0)])) := by decide +kernel
theorem test_backupSupplyFailure : seen .backupSupplyFailure (inPart .off true false) (fun t =>
      (t.recovery, t.body.nextSerial)) = some (⟨.off, false, false, false, .cold, 0, 0, 0, 0, 0, 0⟩, 1) := by decide +kernel

/-! ### Statements have states and operands that meet their hypotheses

One theorem for each statement that has hypotheses, with each clause at a boundary of its range. -/

theorem line1 : Heard demo (from' 1) (.line 1) := ⟨rfl, rfl, rfl, rfl, rfl⟩
theorem dept3 : Heard demo (from' 2) (.department 3) := ⟨rfl, rfl, rfl, rfl, rfl⟩
theorem intake : Heard demo (from' 3) (.department 0) := ⟨rfl, rfl, rfl, rfl, rfl⟩
theorem records : Heard demo (from' 0) .records := ⟨rfl, rfl, rfl, rfl, rfl⟩
theorem named (n : Nat) (h : n < 5) : Names demo.body (.ofNat 13 n) 0 (doc n) := by
  interval_cases n <;> exact ⟨by decide, rfl, rfl⟩

/-- A state without documents, sessions and leaves, its clock trusted, with a TICK waiting. -/
def bare : State := { State.reset with body := Body.cold, time := ⟨5, true, 1, 7⟩, pending := [.tick] }

theorem bare_steps : step bare = .next { bare with time := ⟨5, true, 0, 8⟩, pending := [] } := rfl

theorem test_witness_step_on_an_empty_queue : demo.pending = [] ∧ bare.pending ≠ [] := by decide
theorem test_witness_timebase : bare.time.lawful ∧ ∃ t, step bare = .next t :=
  ⟨⟨by decide, by decide, by decide, by decide⟩, _, bare_steps⟩
theorem test_witness_flash : demo.flash.lawful ∧ ∃ t, step { demo with pending := [.tick] } = .next t :=
  ⟨by unfold Flash.lawful; decide +kernel, _, rfl⟩
theorem test_witness_tables : bare.tables.lawful ∧ ∃ t, step bare = .next t := by
  have hd : ∀ d, bare.tables.dept d = if d = 0 then Dept.coldIntake else Dept.cold := fun d => rfl
  refine ⟨⟨by decide, by decide, by decide, by decide, by decide, fun d => ?_, rfl, rfl, rfl, fun i r h => ?_⟩, _,
    bare_steps⟩
  · rw [hd]; split_ifs <;> exact ⟨by decide, by decide, by decide, by decide, by decide⟩
  · cases h
theorem test_witness_node_table : bare.tables.agree ∧ ∃ t, step bare = .next t := by
  have hr : ∀ n, bare.tables.role n = if n = 0 then .records else .none := by
    intro n
    show (if n < 32 then (if n = 0 then Role.records else .none) else .none) = _
    split_ifs <;> first | rfl | omega
  have hn : ∀ d, (bare.tables.dept d).nodes = [] := by
    intro d
    show (if d = 0 then Dept.coldIntake else Dept.cold).nodes = []
    split_ifs <;> rfl
  refine ⟨⟨by decide, fun n => ?_, fun n m i => ?_, fun d => ?_⟩, _, bare_steps⟩
  · rw [hr]; show _ ↔ n = 0; split_ifs <;> simp_all
  · rw [hr, hr]; split_ifs <;> simp
  · rw [hn]; exact ⟨List.nodup_nil, by simp, fun n => by rw [hr]; split_ifs <;> simp⟩
theorem test_witness_recovery : bare.recovery.lawful ∧ ∃ t, step bare = .next t :=
  ⟨⟨fun _ => ⟨rfl, rfl⟩, nofun, nofun, nofun, by decide⟩, _, bare_steps⟩
theorem test_witness_quiet_bus :
    { demo with resetHeld := true }.quietBus ∧ ∃ t, step { demo with resetHeld := true, pending := [.tick] } = .next t :=
  ⟨fun _ => rfl, _, rfl⟩
theorem test_witness_serials : bare.serialsLawful ∧ ∃ t, step bare = .next t :=
  ⟨⟨⟨by decide, by decide, fun _ _ h => (by cases h), fun _ _ _ _ h => (by cases h)⟩, fun h => (by cases h)⟩, _,
    bare_steps⟩
theorem test_witness_holds : bare.body.holdsLawful ∧ ∃ t, step bare = .next t :=
  ⟨⟨fun _ _ h => (by cases h), fun _ => (by show 0 < 256; decide)⟩, _, bare_steps⟩
/-- The part right after reset, with a TICK waiting. -/
def fresh : State := { State.reset with pending := [.tick] }

theorem fresh_leaf (l : Nat) : fresh.body.leaf l = Leaf.blank := rfl
theorem wf_nil {α : Type} [DecidableEq α] (d : α) : Table.wf d [] :=
  ⟨List.Pairwise.nil, fun _ h => absurd h List.not_mem_nil⟩
theorem fresh_bank (k : Nat) (h : k < 4) : fresh.body.bank k = ⟨bankLeaves k, [], [], .none⟩ := by
  have hb : fresh.body.banks = [0, 1, 2, 3].map (fun j => (j, { Bank.empty with blank := bankLeaves j })) := rfl
  unfold Body.bank
  rw [hb]
  generalize bankLeaves = f
  interval_cases k <;> rfl
theorem bankLeaves_nodup (k : Nat) : (bankLeaves k).Nodup :=
  List.Nodup.map (fun a b (h : 4 * a + k = 4 * b + k) => by omega) List.nodup_range
theorem fresh_lists (k l : Nat) (h : k < 4) : l ∈ bankLeaves k ↔ l < 65536 ∧ l % 4 = k := by
  simp only [bankLeaves, List.mem_map, List.mem_range]
  exact ⟨fun ⟨i, hi, e⟩ => ⟨by omega, by omega⟩, fun ⟨h1, h2⟩ => ⟨l / 4, by omega, by omega⟩⟩
theorem test_witness_charges : fresh.chargesLawful ∧ ∃ t, step fresh = .next t := by
  have h0 : fresh.body.catalog = [] ∧ fresh.body.purges = [] ∧ fresh.body.documents = [] := ⟨rfl, rfl, rfl⟩
  have hd : ∀ n, fresh.body.doc n = none := fun n => rfl
  have hk : ∀ k, fresh.body.session k = Session.idle := fun k => rfl
  have ht : fresh.txn = .none ∧ fresh.recovery.part = .running := ⟨rfl, rfl⟩
  refine ⟨⟨⟨?_, fun n d h => ?_, fun x => ?_, fun n h => ?_⟩, fun k h => ?_, fun a h => ?_, fun h => ?_⟩, _, rfl⟩
  · rw [h0.1]; exact wf_nil _
  · rw [hd] at h; cases h
  · rw [h0.2.2]; rfl
  · rw [h0.2.1] at h; cases h
  · rw [hk] at h; exact absurd rfl h
  · rw [ht.1] at h; cases h
  · rw [ht.2] at h; cases h
theorem test_witness_store : fresh.storeLawful ∧ fresh.recovery.lawful ∧ fresh.flash.lawful := by
  have hp : fresh.recovery.part = .running := rfl
  have ht : fresh.txn = .none := rfl
  have hv : fresh.body.leaves = [] := rfl
  have hb : ∀ i, fresh.body.buffer i = Buffer.free := fun i => rfl
  have hs : ∀ k, fresh.body.session k = Session.idle := fun k => rfl
  have hd : ∀ n, fresh.body.doc n = none := fun n => rfl
  have hr : fresh.body.ready = [] ∧ fresh.body.windows = [] := ⟨rfl, rfl⟩
  have hf : fresh.flash = ⟨[], [], 0⟩ := rfl
  have hl : fresh.body.leavesLawful := by
    refine ⟨?_, fun l _ => fresh_leaf l, fun l => ?_, fun l => ?_, fun l p => ?_, fun k hk => ?_, fun k hk => ?_⟩
    · rw [hv]; exact wf_nil _
    · rw [fresh_leaf]; simp [Leaf.blank]
    · rw [fresh_leaf]; simp [Leaf.blank]
    · rw [fresh_leaf]; simp [Leaf.blank, Body.slotAt, hd]
    · rw [fresh_bank k hk]
      dsimp only
      refine ⟨bankLeaves_nodup k, fun l => ?_⟩
      rw [fresh_lists k l hk, fresh_leaf]
      exact ⟨fun h => ⟨h.1, h.2, rfl⟩, fun h => ⟨h.1, h.2.1⟩⟩
    · rw [fresh_bank k hk]
      exact ⟨List.nodup_nil, fun l => ⟨fun h => (by cases h), fun h => (by rw [fresh_leaf] at h; cases h.2.2)⟩⟩
  refine ⟨⟨fun l _ => ?_, fun _ => hl, fun _ => ⟨?_, ?_⟩, fun h => ?_, fun h => ?_, fun a h => ?_⟩, ?_, ?_⟩
  · rw [hf]; rfl
  · refine ⟨fun i _ => hb i, fun i _ => hb i, fun i st h => ?_, fun l i h => ?_, fun i h => ?_, ?_, ?_, fun k => ?_,
      fun k h => ?_⟩
    · rw [hb] at h; cases h
    · rw [fresh_leaf] at h; cases h
    · rw [hb] at h; cases h <;> contradiction
    · rw [hr.1]; exact ⟨List.nodup_nil, fun i => by rw [hb]; simp [Buffer.free]⟩
    · rw [hr.2]; exact ⟨List.nodup_nil, fun i => by rw [hb]; simp [Buffer.free]⟩
    · rw [hs]; exact ⟨List.nodup_nil, Nat.zero_le _, fun _ => rfl, fun i => by rw [hb]; simp [Buffer.free, Session.idle]⟩
    · rw [hs] at h; cases h
  · refine ⟨fun k hk l => ?_, fun k hk i l w h => ?_, fun k hk l => ?_, fun k hk l => ?_, fun k hk => ?_⟩ <;>
      have hk := fresh_bank k hk
    · rw [hk, fresh_leaf]; simp [Leaf.blank]
    · rw [hk] at h; cases h
    · rw [hk, fresh_leaf]; simp [Leaf.blank]
    · rw [hk, fresh_leaf]; simp [Leaf.blank]
    · rw [hk]; exact ⟨List.nodup_nil, fun i h => (by cases h), fun i => by rw [hb]; simp [Buffer.free]⟩
  · rw [hp] at h; simp at h
  · rw [hp] at h; cases h
  · rw [ht] at h; cases h
  · exact ⟨fun _ => ⟨rfl, rfl⟩, nofun, nofun, nofun, by decide⟩
  · rw [hf]; exact ⟨⟨List.Pairwise.nil, nofun⟩, ⟨List.Pairwise.nil, nofun⟩⟩
theorem test_witness_windows : fresh.body.windowsLawful ∧ ∃ t, step fresh = .next t :=
  ⟨⟨by decide, nofun, nofun⟩, _, rfl⟩
theorem test_witness_clock : demo.time.lawful ∧ ∃ t, exec .tick demo = .next t ∧ Instr.tick ≠ .backupSupplyFailure ∧
    ∀ hub node, Instr.tick ≠ .mainPowerReturn hub node :=
  ⟨⟨by decide, by decide, by decide, by decide⟩, _, rfl, nofun, nofun⟩
theorem test_witness_part_of_the_state : ∃ t, exec (.clearRoute (from' 0) 0) demo = .next t ∧
    Instr.clearRoute (from' 0) 0 ≠ .busResetWithdrawn := ⟨_, rfl, nofun⟩

theorem test_witness_bus_checks : requestOf (.clearRoute (from' 0) 64) = some (from' 0, .clearRoute) ∧ demo.txn.held = false ∧
    demo.recovery.part ≠ .off ∧ demo.resetHeld = false ∧ (from' 0).target.toNat = demo.tables.hub ∧
    (⟨15, 0⟩ : Head).target.toNat ≠ demo.tables.hub ∧ demo.tables.role 31 = .none ∧
    Op.clearRoute.permits (demo.tables.role 1) = false ∧ Op.clearRoute.permits .records = true ∧
    ¬ fieldsInRange .records (.clearRoute (from' 0) 64) ∧ fieldsInRange .records (.clearRoute (from' 0) 63) ∧
    (inPart .powerFail true true).recovery.part ≠ .running :=
  ⟨rfl, rfl, by decide, rfl, rfl, by decide, rfl, rfl, rfl, by show ¬ (64#7).toNat ≤ 63; decide,
    by show (63#7).toNat ≤ 63; decide, by decide⟩
theorem test_witness_handle_check : Heard demo (from' 0) .records ∧ Op.describe.permits .records = true ∧
    Heard demo (from' 2) (.department 3) ∧ Op.release.permits (.department 3) = true ∧
    (1 ≤ (999#10).toNat ∧ (999#10).toNat ≤ 999 ∧ 1 ≤ (256#9).toNat ∧ (256#9).toNat ≤ 256 ∧ (1#2).toNat ≤ 1 ∧
      (15#5).toNat < 16 ∧ 1 ≤ (1#16).toNat) ∧ 4096 ≤ (4096#13).toNat ∧ ((4095#13).toNat < 4096 ∧
      demo.body.doc 4095 = none) ∧ demo.body.doc 1 = some (doc 1) ∧ (demo.body.slot 1).generation = 0 :=
  ⟨records, rfl, dept3, rfl, by decide, by decide, by decide +kernel, by decide +kernel, by decide +kernel⟩
theorem test_witness_excluded_events :
    requestOf (.status (from' 0)) = some (from' 0, .status) ∧
      { demo with txn := .appending ⟨8, 4, 4093, false⟩ }.txn.held = true ∧
      { demo with txn := .appending ⟨8, 4, 4093, false⟩ }.txn = .appending ⟨(8#5).toNat, 4, 4093, false⟩ ∧
      (demo.body.session (10#5).toNat).state = .idle ∧ (demo.body.session (9#5).toNat).deadline = some 9000 ∧
      demo.time.run < 9000 ∧ demo.txn = .none ∧ (inPart .starting false false).recovery.part ≠ .running ∧
      (demo.body.bank (3#2).toNat).op = .none ∧ ((busy 3 (.erase 11)).body.bank (3#2).toNat).op = .erase 11 ∧
      { demo.recovery with part := .rebuilding, scanned := 65536 }.scanned = 65536 ∧
      demo.recovery.part ≠ .starting ∧ demo.recovery.part ≠ .rebuilding ∧ demo.recovery.part ≠ .off :=
  ⟨rfl, rfl, rfl, rfl, rfl, by decide, rfl, by decide, rfl, by decide +kernel, rfl, by decide, by decide, by decide⟩

theorem test_witness_packet : (Instr.broadcastSetClock 5 7).wellFormed = true ∧
    (encodePacket (.broadcastSetClock 5 7)).isSome = true := by decide +kernel

theorem test_witness_openCall : Heard demo (from' 1) (.line 1) ∧ (extensionOf 0xFFFFFF).isSome = true ∧
    (identityOf 20 0x12345678901234567890).isSome = true ∧ (demo.body.session (1 * 8 + (2#3).toNat)).state = .idle ∧
    { demo.body with nextSerial := 4294967295 }.nextSerial < 4294967296 ∧ 5 < 4096 ∧ demo.body.doc 5 = none ∧
    (∀ m < 5, demo.body.doc m ≠ none) ∧ { demo.tables with floor := 3 }.floor ≤ demo.body.deviceBlank :=
  ⟨line1, by decide +kernel, by decide +kernel, by decide +kernel, by decide, by decide, rfl, by decide +kernel,
    by decide +kernel⟩

/-- Route entries at both ends of the table: PRIMARY for extension 123456 to one department, COPY to department 5. -/
def routed (lead quota : Nat) : Tables :=
  { demo.tables with
    routes := [(0, some ⟨[1, 2, 14, 14, 14, 14], lead, .primary⟩), (63, some ⟨[14, 14, 14, 14, 14, 6], 5, .copy⟩)],
    depts := [(0, Dept.coldIntake), (3, ⟨true, quota, 0, 2555, false, []⟩), (5, ⟨true, 1, 0, 2555, true, []⟩)] }

theorem test_witness_first_list : demo.tables.primary none = none ∧
    (routed 0 2).primary (some [1, 2, 3, 4, 5, 6]) = some 0 ∧ (routed 3 2).primary (some [1, 2, 3, 4, 5, 6]) = some 3 ∧
    demo.body.account 3 < ((routed 3 2).dept 3).quota ∧ ((routed 3 1).dept 3).quota ≤ demo.body.account 3 ∧
    (firstList (routed 3 1) demo.body 0 (some [1, 2, 3, 4, 5, 6])).map (fun o => (o.department, o.kind)) =
      [(0, .overflow), (3, .copy), (5, .copy)] ∧
    (routed 3 2).route 63 = some ⟨[14, 14, 14, 14, 14, 6], 5, .copy⟩ ∧
    (routed 3 2).matches (some [1, 2, 3, 4, 5, 6]) ⟨[14, 14, 14, 14, 14, 6], 5, .copy⟩ = true ∧
    ((routed 3 2).dept 5).copyAll = true := by decide +kernel
theorem test_witness_allocation : demo.body.nextLeaf = some 16 ∧ Body.cold.nextLeaf = none := by decide +kernel
theorem test_witness_pageBegin : Heard demo (from' 1) (.line 1) ∧ densityOf (2#2).toNat = some .extraFine ∧
    widthOf (2#2).toNat = some .wide ∧ demo.body.session (1 * 8 + (1#3).toNat) = ⟨.admitted, some 4, some 9000, []⟩ ∧
    demo.body.doc 4 = some (doc 4) ∧ (doc 4).obligations = [owed 0 .unrouted 0] ∧ (doc 4).pages.length < 999 ∧
    demo.body.lowestFreeBuffer = some 1 ∧ demo.body.nextLeaf = some 16 ∧ demo.body.pageRecords < 65536 :=
  ⟨line1, rfl, rfl, by decide +kernel, by decide +kernel, by decide, by decide, by decide +kernel, by decide +kernel,
    by decide +kernel⟩

/-- The small state with `k` bytes in session 8's buffer. -/
def filled (k : Nat) : State :=
  { demo with body := demo.body.setBuffer 0 ⟨.filling, some 8, some ⟨0, 1, 0⟩, some (.session 8), List.replicate k 0, false⟩ }

theorem test_witness_append : Heard (filled 3840) (from' 1) (.line 1) ∧ 1 ≤ (256#9).toNat ∧ (256#9).toNat ≤ 256 ∧
    ((filled 3840).body.session (1 * 8 + (0#3).toNat)).state = .inPage ∧ (filled 3840).body.doc 0 = some (doc 0) ∧
    (doc 0).pages.getLast? = some (sheet .openPage (.placed 8)) ∧
    (256#9).toNat ≤ 4096 - ((filled 3840).body.buffer 0).data.length ∧
    4096 - ((filled 3841).body.buffer 0).data.length < (256#9).toNat ∧
    (filled 3841).body.lowestFreeBuffer = some 1 ∧ (filled 3841).body.nextLeaf = some 16 ∧
    (doc 0).obligations = [owed 0 .unrouted 1] :=
  ⟨⟨rfl, rfl, rfl, rfl, rfl⟩, by decide, by decide, rfl, by decide +kernel, by decide, by decide +kernel,
    by decide +kernel, by decide +kernel, by decide +kernel, by decide⟩
theorem test_witness_block : { demo with txn := .appending ⟨8, 256, 4093, false⟩ }.txn = .appending ⟨8, 256, 4093, false⟩ ∧
    demo.body.session 8 = ⟨.inPage, some 0, some 400, [0]⟩ ∧ demo.body.doc 0 = some (doc 0) ∧
    (doc 0).pages.getLast? = some (sheet .openPage (.placed 8)) ∧ demo.txn = .none ∧
    sending.txn = .sending ⟨⟨12, .taken (.hold 1), false⟩, .none, none⟩ ∧
    { demo with txn := .discarding ⟨3, .denied .pageNotOpen, false⟩ }.txn = .discarding ⟨3, .denied .pageNotOpen, false⟩ := by
  decide +kernel

/-- The document of session 8 and the small state after an APPEND of 3 bytes that rolled over with room for 2. -/
def rolledDoc : Document :=
  { doc 0 with pages := [{ sheet .openPage (.placed 8) with slots := [.placed 8, .placed 16] }],
               obligations := [owed 0 .unrouted 2] }
def rolled : State :=
  { demo with
    txn := .appending ⟨8, 3, 2, true⟩,
    body := ((demo.body.setSession 8 ⟨.inPage, some 0, some 400, [0, 1]⟩).setDoc 0 rolledDoc).setBuffer 1
      ⟨.filling, some 16, some ⟨0, 1, 1⟩, some (.session 8), [], false⟩ }

theorem test_witness_rolled_block : rolled.body.session 8 = ⟨.inPage, some 0, some 400, [] ++ [0, 1]⟩ ∧
    rolled.body.doc 0 = some rolledDoc ∧ (rolled.body.buffer 0).leaf = some 8 ∧
    (rolled.body.buffer 0).holder = some (.session 8) ∧
    rolled.body.buffer 1 = ⟨.filling, some 16, some ⟨0, 1, 1⟩, some (.session 8), [], false⟩ ∧
    1 ∉ rolled.body.ready ∧ 1 ∉ rolled.body.windows ∧
    2 < (broughtBytes 3 [0x0102#16, 0x0304#16]).length ∧ (broughtBytes 3 [0x0102#16]).length ≤ 2 := by decide +kernel
theorem test_witness_pageEnd : Heard demo (from' 1) (.line 1) ∧
    demo.body.session (1 * 8 + (0#3).toNat) = ⟨.inPage, some 0, some 400, [0]⟩ ∧ demo.body.doc 0 = some (doc 0) ∧
    (doc 0).pages.getLast? = some (sheet .openPage (.placed 8)) ∧ (demo.body.buffer 0).leaf = some 8 :=
  ⟨line1, by decide +kernel, by decide +kernel, by decide, by decide +kernel⟩
theorem test_witness_closing : demo.body.session 8 = ⟨.inPage, some 0, some 400, [0]⟩ ∧ demo.body.doc 0 = some (doc 0) ∧
    (stopped.body.session 8).state = .stopped ∧ Heard demo (from' 1) (.line 1) ∧ 8 = 1 * 8 + (0#3).toNat ∧
    (closeEndingOf (2#2).toNat).isSome = true ∧ Heard demo (from' 0) .records ∧ 8 = (8#6).toNat ∧ 8 = (8#5).toNat ∧
    400 ≤ { demo.time with run := 400 }.run ∧ demo.recovery.part = .running ∧ demo.txn = .none :=
  ⟨by decide +kernel, by decide +kernel, by decide +kernel, line1, rfl, rfl, records, rfl, rfl, by decide, rfl, rfl⟩
/-- The small state with session 8's queue at its limit, its buffer filled to `k` bytes and its page holding `n` slots. -/
def longDoc (n : Nat) : Document :=
  { doc 0 with pages := [{ sheet .openPage (.placed 8) with slots := List.replicate n (.placed 8) }] }
def queued (k n : Nat) : State :=
  { filled k with body := ((filled k).body.setSession 8 ⟨.inPage, some 0, some 400, [1, 2, 3, 0]⟩).setDoc 0 (longDoc n) }
/-- The small state with no FREE buffer, and with no BLANK leaf, leaf 9 in some state. -/
def noBuffers : State :=
  { demo with body := { demo.body with buffers := (List.range 144).map (fun i => (i, ⟨.ready, none, none, none, [], false⟩)) } }
def noLeaves (st : LeafState) : State :=
  { demo with body := { (demo.body.setLeaf 9 ⟨st, none, none⟩) with banks := [] } }

theorem test_witness_session_requests_turned_away : Heard demo (from' 1) (.line 1) ∧
    (demo.body.session (1 * 8 + (7#3).toNat)).state = .idle ∧ (demo.body.session (1 * 8 + (1#3).toNat)).state = .admitted ∧
    (demo.body.session (1 * 8 + (0#3).toNat)).state = .inPage ∧ Heard stopped (from' 1) (.line 1) ∧
    (stopped.body.session (1 * 8 + (0#3).toNat)).state = .stopped ∧ (2#2).toNat ≤ 2 ∧
    (extensionOf 0x123456).isSome = true ∧ (identityOf 0 0).isSome = true ∧
    4294967296 ≤ { demo.body with nextSerial := 4294967296 }.nextSerial ∧ demo.body.doc 5 = none ∧
    demo.body.deviceBlank < { demo.tables with floor := 4 }.floor :=
  ⟨line1, rfl, rfl, rfl, ⟨rfl, rfl, rfl, rfl, rfl⟩, by decide +kernel, by decide, by decide +kernel, by decide +kernel,
    by decide, rfl, by decide +kernel⟩
theorem test_witness_full_catalog :
    ∀ n, n < 4096 → ({ demo.body with catalog := (List.range 4096).map (fun n => (n, ⟨0, some (doc 2)⟩)) } : Body).doc n ≠ none := by
  have h : ∀ (f : Nat → Nat) (l : List Nat) (n : Nat), n ∈ l →
      Table.read Slot.free (l.map (fun m => (m, (⟨0, some (doc 2)⟩ : Slot)))) n = ⟨0, some (doc 2)⟩ := by
    intro _ l n hn
    induction l with
    | nil => cases hn
    | cons k t ih =>
      rw [List.map_cons, Table.read]
      split_ifs with hk
      · rfl
      · exact ih ((List.mem_cons.mp hn).resolve_left hk)
  intro n hn
  unfold Body.doc Body.slot
  rw [h id (List.range 4096) n (List.mem_range.mpr hn)]
  nofun
theorem test_witness_no_room : 999 ≤ (List.replicate 999 (sheet .closed (.placed 9))).length ∧
    (doc 4).pages.length < 999 ∧ 4 ≤ [1, 2, 3, 4].length ∧ (∀ j, j < 144 → (noBuffers.body.buffer j).state ≠ .free) ∧
    (demo.body.buffer 143).state = .free ∧ (∀ j, j < 4 → ((noLeaves .void).body.bank j).blank = []) ∧
    Table.wf Leaf.blank (noLeaves .void).body.leaves ∧ ((noLeaves .void).body.leaf 9).state = .void ∧
    (∀ e ∈ (noLeaves .retired).body.leaves, e.2.state ≠ .void ∧ e.2.state ≠ .voiding ∧ e.2.state ≠ .erasing) := by
  refine ⟨by rw [List.length_replicate], by decide, by decide, by decide +kernel, by decide +kernel, by decide +kernel, ?_, by decide +kernel,
    by decide +kernel⟩
  unfold Table.wf; decide +kernel
theorem test_witness_append_turned_away : (queued 4096 64).body.session 8 = ⟨.inPage, some 0, some 400, [1, 2, 3, 0]⟩ ∧
    [1, 2, 3, 0].getLast? = some 0 ∧ 4 ≤ [1, 2, 3, 0].length ∧ ((queued 4096 64).body.buffer 0).leaf = some 8 ∧
    4096 - ((queued 4096 64).body.buffer 0).data.length < (1#9).toNat ∧
    ((queued 4096 64).body.doc 0).map (fun d => d.pages.map (fun p => p.slots.length)) = some [64] ∧
    ((queued 4096 63).body.doc 0).map (fun d => d.pages.map (fun p => p.slots.length)) = some [63] := by decide +kernel
theorem test_witness_endSession_of_an_idle_session : Heard demo (from' 0) .records ∧ (31#6).toNat < 32 ∧
    (demo.body.session (31#6).toNat).state = .idle := ⟨records, by decide, rfl⟩
theorem test_witness_apportionment : (doc 0).obligations ≠ [] := by decide

theorem test_witness_list : Heard demo (from' 2) (.department 3) ∧ Heard demo (from' 0) .records ∧ 15 = (15#5).toNat ∧
    15 < 16 := ⟨dept3, records, rfl, by decide⟩
theorem test_witness_describe : Heard demo (from' 2) (.department 3) ∧ Names demo.body 1 0 (doc 1) ∧
    (doc 1).obliges 3 = true ∧ Heard demo (from' 0) .records ∧ (doc 1).state ≠ .purging ∧ 1 ≤ (999#10).toNat ∧
    (999#10).toNat ≤ 999 := ⟨dept3, named 1 (by decide), rfl, records, by decide, by decide, by decide⟩

/-- The small state with another record in slot 1. -/
def recorded (d : Document) : State := { demo with body := demo.body.setDoc 1 d }

theorem recorded_heard (d : Document) : Heard (recorded d) (from' 0) .records ∧
    Heard (recorded d) (from' 2) (.department 3) := ⟨⟨rfl, rfl, rfl, rfl, rfl⟩, ⟨rfl, rfl, rfl, rfl, rfl⟩⟩
theorem test_witness_refused_document_requests : Heard demo (from' 2) (.department 3) ∧ Names demo.body 2 0 (doc 2) ∧
    (doc 2).obliges 3 = false ∧ Heard (recorded { doc 2 with state := .purging }) (from' 0) .records ∧
    (recorded { doc 2 with state := .purging }).body.doc 1 = some { doc 2 with state := .purging } ∧
    Names demo.body 1 0 (doc 1) ∧ (doc 1).obliges 3 = true ∧ (doc 1).pages[(2#10).toNat - 1]? = none ∧
    (doc 1).pages[(1#10).toNat - 1]? = some (sheet .closed (.placed 9)) ∧
    (sheet .closed (.placed 9)).byteLength ≤ (3#18).toNat :=
  ⟨dept3, named 2 (by decide), rfl, (recorded_heard _).1, by decide +kernel, named 1 (by decide), rfl, rfl, rfl, by decide⟩
theorem test_witness_refused_choices : Heard demo (from' 3) (.department 0) ∧ Names demo.body 0 0 (doc 0) ∧
    (doc 0).state = .receiving ∧ (doc 2).state ≠ .receiving ∧ (doc 2).obliges 0 = false ∧
    { doc 2 with obligations := [owed 0 .rebuilt 1] }.obliges 0 = true ∧ Names demo.body 3 0 (doc 3) ∧
    Heard demo (from' 0) .records ∧ (demo.tables.dept (15#5).toNat).enabled = false ∧
    (demo.tables.dept 3).enabled = true ∧ (doc 1).obliges 3 = true ∧ (5#16).toNat ∉ (doc 3).holds ∧
    4 ≤ { doc 3 with holds := [1, 2, 3, 4] }.holds.length :=
  ⟨intake, named 0 (by decide), rfl, by decide, rfl, rfl, named 3 (by decide), records, rfl, rfl, rfl, by decide, by decide⟩

/-- The small state with leaf 9 in window 1. -/
def windowed : State :=
  { demo with body := { (demo.body.setBuffer 1 ⟨.window, some 9, none, some .delivery, [65, 66, 67], false⟩) with
      windows := [1] } }

theorem test_witness_read : Heard windowed (from' 0) .records ∧ (doc 1).state ≠ .purging ∧
    windowed.body.doc 1 = some (doc 1) ∧ (doc 1).pages[(1#10).toNat - 1]? = some (sheet .closed (.placed 9)) ∧
    (2#18).toNat < (sheet .closed (.placed 9)).byteLength ∧
    (sheet .closed (.placed 9)).slots[(2#18).toNat / 4096]? = some (.placed 9) ∧ (windowed.body.leaf 9).buffer = none ∧
    windowed.body.windowOf 9 = some 1 ∧ (windowed.body.buffer 1).state = .window ∧
    (windowed.body.leaf 8).buffer = some 0 ∧
    (sheet .openPage (.placed 8)).slots[(2#18).toNat / 4096]? = some (.placed 8) :=
  ⟨⟨rfl, rfl, rfl, rfl, rfl⟩, by decide, by decide +kernel, rfl, by decide, rfl, rfl, by decide +kernel,
    by decide +kernel, rfl, rfl⟩

/-- The small state with slot 1's page unplaced, its data in READY buffer 1. -/
def unplaced : State :=
  { demo with body := { ((demo.body.setDoc 1 { doc 1 with pages := [sheet .closed .unplaced] }).setBuffer 1
      ⟨.ready, none, some ⟨1, 1, 0⟩, some .orphan, [65, 66, 67], false⟩) with ready := [1] } }

theorem test_witness_read_unplaced : Heard unplaced (from' 0) .records ∧
    unplaced.body.doc 1 = some { doc 1 with pages := [sheet .closed .unplaced] } ∧
    (sheet .closed .unplaced).slots[(0#18).toNat / 4096]? = some .unplaced ∧
    unplaced.body.ready.find? (fun j =>
      (unplaced.body.buffer j).place == some ⟨1, 1, 0⟩ && (unplaced.body.buffer j).leaf == none) = some 1 :=
  ⟨⟨rfl, rfl, rfl, rfl, rfl⟩, by decide +kernel, rfl, by decide +kernel⟩
theorem test_read_unplaced : seen (.read (from' 0) 1 0 1 0 9) unplaced (fun t => t.sent.map (fun m => m.block)) =
    some (some (.bytes [65, 66, 67])) := by decide +kernel
/-- The small state with leaf 9 being fetched into buffer 1. -/
def fetching : State :=
  { demo with body := { (demo.body.setBuffer 1 ⟨.fetching, some 9, none, some .delivery, [], false⟩) with windows := [1] } }
theorem test_witness_read_of_a_leaf_being_fetched : Heard fetching (from' 0) .records ∧
    fetching.body.windowOf 9 = some 1 ∧ (fetching.body.buffer 1).state ≠ .window ∧ (fetching.body.leaf 9).buffer = none ∧
    seen (.read (from' 0) 1 0 1 0 9) fetching verdict = some (some (.defer .fetching)) :=
  ⟨⟨rfl, rfl, rfl, rfl, rfl⟩, by decide +kernel, by decide +kernel, by decide +kernel, by decide +kernel⟩

/-- The small state with all 24 windows in use, in one state. -/
def crowded (state : BufState) : State :=
  { demo with body := { demo.body with
      windows := (List.range 24).map (fun i => i + 1),
      buffers := (List.range 24).map (fun i => (i + 1, ⟨state, some (i + 100), none, some .delivery, [], false⟩)) } }

theorem test_witness_read_misses : Heard demo (from' 2) (.department 3) ∧ Names demo.body 1 0 (doc 1) ∧
    (doc 1).obliges 3 = true ∧ (demo.body.leaf 9).buffer = none ∧ demo.body.windowOf 9 = none ∧
    (demo.body.windows.length < 24 ∧ 16 < demo.body.freeBuffers ∧ demo.body.lowestFreeBuffer = some 1) ∧
    (¬ (crowded .window).body.windows.length < 24 ∧ (crowded .window).body.windowOf 9 = none ∧
      (crowded .window).body.windows.find? (fun i => ((crowded .window).body.buffer i).state = .window) = some 1) ∧
    ¬ (crowded .fetching).body.windows.length < 24 ∧
    (crowded .fetching).body.windows.find? (fun i => ((crowded .fetching).body.buffer i).state = .window) = none :=
  ⟨dept3, named 1 (by decide), rfl, rfl, by decide +kernel, by decide +kernel, by decide +kernel, by decide +kernel,
    by decide +kernel⟩

theorem due_900 : dueForPurge (doc 2) 900 ∧ ¬ dueForPurge (doc 2) 899 :=
  ⟨⟨rfl, rfl, 900, rfl, le_refl _⟩, fun h => by
    obtain ⟨_, _, t, ht, hle⟩ := h
    cases ht
    exact absurd hle (by decide)⟩
theorem test_witness_accept : Heard demo (from' 2) (.department 3) ∧ Names demo.body 1 0 (doc 1) ∧ (0#2).toNat = 0 ∧
    (doc 1).state ≠ .receiving ∧ ((doc 1).obligation 3).isSome = true ∧
    dueForPurge { doc 1 with obligations := [], retained := 1, state := .retained } demo.time.clock ∧
    ¬ dueForPurge (doc 1) demo.time.clock :=
  ⟨dept3, named 1 (by decide), rfl, by decide, rfl, ⟨rfl, rfl, 900, rfl, by decide⟩, fun h => by cases h.1⟩
theorem test_witness_decline : Heard demo (from' 2) (.department 3) ∧ Names demo.body 1 0 (doc 1) ∧ (1#2).toNat = 1 ∧
    (doc 1).state ≠ .receiving ∧ ((doc 1).obligation 3).isSome = true ∧ (doc 1).obliges 0 = false ∧
    (recorded { doc 1 with obligations := [owed 0 .unrouted 1, owed 3 .copy 0] }).body.doc 1 =
      some { doc 1 with obligations := [owed 0 .unrouted 1, owed 3 .copy 0] } ∧
    { doc 1 with obligations := [owed 0 .unrouted 1, owed 3 .copy 0] }.obliges 0 = true :=
  ⟨dept3, named 1 (by decide), rfl, by decide, rfl, rfl, by decide +kernel, rfl⟩
theorem test_witness_forward : Heard demo (from' 0) .records ∧ Names demo.body 0 0 (doc 0) ∧ Names demo.body 1 0 (doc 1) ∧
    Names demo.body 2 0 (doc 2) ∧ (demo.tables.dept (5#5).toNat).enabled = true ∧ (doc 0).obliges 5 = false ∧
    (doc 1).obliges 5 = false ∧ (doc 2).obliges 5 = false ∧ (doc 0).state = .receiving ∧ (doc 2).state = .retained :=
  ⟨records, named 0 (by decide), named 1 (by decide), named 2 (by decide), rfl, rfl, rfl, rfl, rfl, rfl⟩
theorem test_witness_holds_and_lifts : Heard demo (from' 0) .records ∧ Names demo.body 3 0 (doc 3) ∧
    (doc 3).state ≠ .purging ∧ (7#16).toNat ∈ (doc 3).holds ∧ (65535#16).toNat ∉ (doc 3).holds ∧
    { doc 3 with holds := [1, 2, 3] }.holds.length < 4 ∧ dueForPurge { doc 3 with holds := [] } demo.time.clock ∧
    ¬ dueForPurge { doc 3 with holds := [8] } demo.time.clock :=
  ⟨records, named 3 (by decide), by decide, by decide, by decide, by decide, ⟨rfl, rfl, 900, rfl, by decide⟩,
    fun h => by cases h.2.1⟩
theorem test_witness_deadlines : demo.body.doc (1#12).toNat = some (doc 1) ∧
    (doc 1).obligation (3#4).toNat = some { owed 3 .primary 1 with deadline := some 450 } ∧
    Obligation.reached { owed 3 .primary 1 with deadline := some 450 } 450 ∧
    ¬ Obligation.reached { owed 3 .primary 1 with deadline := some 450 } 449 ∧ demo.recovery.part = .running ∧
    (inPart .off true true).recovery.part ≠ .running ∧ (inPart .off true true).recovery.part ≠ .powerFail ∧
    demo.body.doc (2#12).toNat = some (doc 2) ∧ dueForPurge (doc 2) 900 ∧ ¬ dueForPurge (doc 2) 899 ∧
    (doc 2).state ≠ .purging ∧ { doc 2 with state := .purging }.state = .purging := by
  refine ⟨by decide +kernel, rfl, ⟨450, rfl, le_refl _⟩, fun h => ?_, rfl, by decide, by decide, by decide +kernel, due_900.1,
    due_900.2, by decide, rfl⟩
  obtain ⟨t, ht, hle⟩ := h
  cases ht
  exact absurd hle (by decide)

theorem test_witness_setNode : Heard demo (from' 0) .records ∧ (31#6).toNat < 32 ∧
    roleOf (1#3).toNat (3#5).toNat = some (.line 3) ∧ roleOf (3#3).toNat 0 = some .records ∧
    demo.tables.role 1 = .line 1 ∧ demo.tables.role 31 = .none ∧ demo.tables.recordsNode = 0 ∧
    2 ≤ (({ demo.tables with depts := [(3, { Dept.cold with nodes := [2, 4] })] } : Tables).dept 3).nodes.length ∧
    (∀ c, c < 8 → (demo.body.session (1 * 8 + c)).state = .inPage → (demo.body.session (1 * 8 + c)).queue ≠ []) ∧
    ∀ m, m < 32 → demo.tables.role m ≠ .line 3 :=
  ⟨records, by decide, rfl, rfl, rfl, rfl, rfl, by decide, by decide +kernel, by decide +kernel⟩
theorem test_witness_routes_and_limits : Heard demo (from' 0) .records ∧ (63#7).toNat < 64 ∧
    (∀ p ∈ digitsOf 6 (0x12EEE9#24).toNat, p ≤ 9 ∨ p = 14) ∧ (15#5).toNat < 16 ∧ (1#2).toNat = 1 :=
  ⟨records, by decide, by decide +kernel, by decide, rfl⟩
theorem test_witness_setDepartment : Heard demo (from' 0) .records ∧ 15 < (16#5).toNat ∧ 1 < (2#2).toNat ∧
    (15#5).toNat ≤ 15 ∧ (1#2).toNat ≤ 1 := ⟨records, by decide, by decide, by decide, by decide⟩

theorem test_witness_ticks : demo.recovery.part ≠ .rebuilding ∧ (inPart .off true false).recovery.backup = true ∧
    (∃ t, exec .tick (inPart .rebuilding false false) = .next t ∧ t.recovery.part = .rebuilding) ∧
    demo.time.trusted = true ∧ 0 < { demo.time with holdBack := 1 }.holdBack ∧ demo.time.holdBack = 0 ∧
    bare.time.trusted = true ∧ State.reset.time.trusted = false ∧
    (∃ u, exec .tick { demo with time := ⟨899, true, 0, 500⟩ } = .next u ∧ 899 < u.time.clock ∧
      dueForPurge (doc 2) u.time.clock) ∧ demo.body.doc 1 = some (doc 1) ∧ 1 ∉ demo.body.purges := by
  refine ⟨by decide, rfl, ⟨_, rfl, rfl⟩, rfl, by decide, rfl, rfl, rfl, ⟨_, rfl, by decide, ⟨rfl, rfl, 900, rfl, by decide⟩⟩,
    by decide +kernel, by decide⟩
theorem test_witness_setClock : Heard demo (from' 0) .records ∧ demo.time.trusted = true ∧
    (999#48).toNat < demo.time.clock ∧ demo.time.clock ≤ (1000#48).toNat ∧ demo.body.doc 2 = some (doc 2) ∧
    dueForPurge (doc 2) (1000#48).toNat ∧ ¬ dueForPurge (doc 1) (1000#48).toNat ∧ 1 ∉ demo.body.purges ∧
    bare.body.documents = [] :=
  ⟨records, rfl, by decide, by decide, by decide +kernel, ⟨rfl, rfl, 900, rfl, by decide⟩, fun h => (nomatch h.1),
    by decide, rfl⟩
theorem test_witness_broadcast_not_taken : demo.txn.held = false ∧ demo.tables.role (2#6).toNat ≠ .records ∧
    (inPart .starting false false).recovery.part ≠ .running ∧ { demo with resetHeld := true }.resetHeld = true := by
  refine ⟨rfl, by decide, by decide, rfl⟩
theorem test_witness_status : demo.txn.held = false ∧ demo.resetHeld = false ∧ demo.recovery.part ≠ .off ∧
    (from' 2).target.toNat = demo.tables.hub ∧ demo.tables.role (from' 2).sender.toNat = .department 3 ∧
    namesRequest (0#5).toNat = false ∧ namesRequest (21#5).toNat = false ∧
    Table.wf Buffer.free demo.body.buffers ∧ Table.wf Leaf.blank demo.body.leaves ∧
    (inPart .rebuilding false false).recovery.part = .rebuilding ∧ (demo.body.session 8).deadline = some 400 := by
  unfold Table.wf; decide +kernel
theorem test_witness_status_bounds : (∀ i, 144 ≤ i → demo.body.buffer i = Buffer.free) ∧
    ∀ l, 65536 ≤ l → demo.body.leaf l = Leaf.blank := by
  refine ⟨fun i h => ?_, fun l h => ?_⟩
  · simp [Body.buffer, demo, Table.read, show i ≠ 0 by omega]
  · simp [Body.leaf, demo, Table.read, show l ≠ 8 by omega, show l ≠ 9 by omega, show l ≠ 10 by omega,
      show l ≠ 11 by omega]
theorem test_witness_starts_complete : (inPart .starting false false).recovery.part = .starting ∧
    (inPart .rebuilding false false).recovery.part = .rebuilding := by decide

theorem test_witness_program : ((busy 0 (.program 0 8 header)).body.bank (0#2).toNat).op = .program 0 8 header ∧
    ((busy 0 (.program 0 8 header)).body.buffer 0).place = some ⟨0, 1, 0⟩ ∧
    (busy 0 (.program 0 8 header)).body.doc 0 = some (doc 0) := by decide +kernel
theorem test_witness_fetch : ((busy 1 (.fetch 0)).body.bank (1#2).toNat).op = .fetch 0 ∧
    ((busy 1 (.fetch 0)).body.buffer 0).leaf = some 8 ∧ (readHeader (demo.flash.spareOf 9).header).isSome = true ∧
    (demo.body.buffer 0).discard = false ∧
    { demo.body.buffer 0 with discard := true, holder := some .delivery }.holder = some .delivery := by decide +kernel
theorem test_witness_voidMark_and_erase : ((busy 3 (.voidMark 11)).body.bank (3#2).toNat).op = .voidMark 11 ∧
    ((busy 3 (.erase 11)).body.bank (3#2).toNat).op = .erase 11 ∧
    (readHeader (demo.flash.spareOf 9).header).isSome = true := by decide +kernel
theorem test_witness_choice : { demo.body with ready := [0] }.choose .running 0 0 = none ∧
    ({ demo.body.setBank 0 ⟨[16], [12], [], .none⟩ with ready := [] } : Body).choose .running 2 0 = some (.erase 12) ∧
    ({ demo.body.setBank 0 ⟨[16], [12], [], .none⟩ with ready := [] } : Body).choose .powerFail 2 0 = none := by
  decide +kernel
theorem test_witness_starts : (demo.body.bank 0).blank = 16 :: [20] ∧ (demo.body.buffer 0).place = some ⟨0, 1, 0⟩ ∧
    demo.body.doc 0 = some (doc 0) ∧ (demo.body.setBank 1 ⟨[], [13], [0], .none⟩).bank 1 = ⟨[], 13 :: [], 0 :: [], .none⟩ ∧
    demo.body.doc 2 = some (doc 2) ∧ (doc 2).cursor = some (1, 0, .placed 10) ∧
    windowed.body.windows.find? (fun j => (windowed.body.buffer j).leaf == some 9 && !(windowed.body.buffer j).discard) =
      some 1 ∧ (windowed.body.buffer 1).holder = some .delivery ∧
    fetching.body.windows.find? (fun j => (fetching.body.buffer j).leaf == some 9 && !(fetching.body.buffer j).discard) =
      some 1 ∧ (fetching.body.buffer 1).state ≠ .window ∧ demo.body.ready = [] := by decide +kernel
theorem test_witness_idle_banks : (∀ i, (bare.body.buffer i).state = .ready → (bare.body.buffer i).place ≠ none) ∧
    (bare.body.bank 0).op = .none ∧ ((busy 1 (.fetch 0)).body.bank 1).op ≠ .none ∧
    (inPart .powerFail true true).recovery.part = .powerFail ∧ (inPart .starting true true).recovery.part = .starting :=
  ⟨nofun, rfl, by decide +kernel, rfl, rfl⟩

theorem test_witness_busReset : demo.resetHeld = false ∧ { demo with resetHeld := true }.resetHeld = true ∧
    (inPart .off true false).recovery.part = .off ∧ (inPart .starting false false).recovery.part = .starting ∧
    demo.recovery.part = .running ∧
    ∀ k, (demo.body.session k).state = .inPage → (demo.body.session k).queue ≠ [] := by
  refine ⟨rfl, rfl, rfl, rfl, rfl, fun k => ?_⟩
  by_cases h : k = 8
  · subst h; decide
  · by_cases h9 : k = 9
    · subst h9; decide
    · simp [Body.session, demo, Table.read, h, h9, Session.idle]
theorem test_witness_bus_reset_of_a_window : windowed.body.windows.count 1 = 1 ∧ 1 ∈ windowed.body.windows ∧
    (windowed.body.buffer 1).state = .window ∧ 1 ∉ windowed.body.ready ∧
    (∀ k, (windowed.body.buffer 1).holder ≠ some (.session k)) ∧
    seen (.busReset []) windowed (fun t => (t.body.windows, (t.body.buffer 1).state)) = some ([], .free) :=
  ⟨rfl, by decide, rfl, by decide, nofun, by decide +kernel⟩
theorem test_witness_waits_for_running : waiting.body.doc 1 = some (doc 1) ∧ (doc 1).obliges 0 = false ∧
    (∀ e ∈ waiting.body.documents, e.1 = 1 → e.2 = doc 1) ∧ 1 ∉ waiting.body.purges ∧ (doc 1).state ≠ .retained ∧
    (∃ o ∈ (doc 1).obligations, Obligation.reached o waiting.time.run) :=
  ⟨by decide +kernel, rfl, by decide +kernel, by decide, by decide,
    { owed 3 .primary 1 with deadline := some 450 }, by decide, 450, rfl, by decide⟩
theorem test_witness_powerFail : demo.recovery.part ≠ .powerFail ∧
    (inPart .powerFail true true).recovery.part = .powerFail := by decide
theorem test_witness_powerLoss : demo.recovery.part ≠ .off ∧ (inPart .off true false).recovery.part = .off ∧
    ((busy 0 (.program 0 8 header)).body.bank 0).op = .program 0 8 header ∧
    ((busy 3 (.erase 11)).body.bank 3).op = .erase 11 ∧ (demo.body.bank 3).op = .none := by decide +kernel
theorem test_witness_powerReturn : (inPart .off true false).recovery.part = .off ∧
    (inPart .off true false).recovery.mark = true ∧ (inPart .off false false).recovery.mark = false ∧
    (0#5).toNat = demo.tables.recordsNode ∧ (31#5).toNat ≠ demo.tables.recordsNode := by decide
theorem test_witness_warmStart : (inPart .starting false false).recovery.part = .starting ∧
    Table.wf Leaf.blank demo.body.leaves ∧ Table.wf Slot.free demo.body.catalog ∧ (demo.body.leaf 8).state = .filling ∧
    (demo.body.leaf 9).state = .programmed ∧ demo.body.doc 0 = some (doc 0) ∧ (doc 0).state = .receiving ∧
    demo.body.stays (doc 0) = false ∧ demo.body.stays (doc 1) = true ∧ demo.body.doc 1 = some (doc 1) ∧
    (doc 1).state = .distributing ∧ demo.body.stays { doc 3 with state := .purging } = true ∧
    demo.body.stays { rolledDoc with pages := [sheet .openPage (.placed 9)] } = true ∧ demo.body.doc 5 = none := by
  unfold Table.wf; decide +kernel

theorem test_witness_headerScan : (inPart .rebuilding false false).recovery.part = .rebuilding ∧
    { demo.recovery with scanned := 65535 }.scanned < 65536 ∧ (demo.flash.spareOf 65535).classOf = .erased := by
  decide +kernel
theorem test_witness_rebuild : (inPart .rebuilding false false).recovery.part = .rebuilding ∧ bare.body.catalog = [] ∧
    demo.flash.lawful ∧ (demo.flash.spareOf 9).classOf ≠ .erased :=
  ⟨rfl, rfl, by unfold Flash.lawful; decide +kernel, by decide +kernel⟩

/-- The header of leaf 9 as the scan reads it. -/
def found : LeafHeader := assembleHeader (doc 1) 0 ⟨1, 1, 0⟩ 3

theorem only_leaf_9 (l : Nat) (h : LeafHeader) : demo.flash.validAt l h ↔ l = 9 ∧ h = found := by
  have h9 : (demo.flash.spareOf 9).classOf = .valid found := by decide +kernel
  unfold Flash.validAt
  by_cases e : l = 9
  · subst e; rw [h9]; exact ⟨fun k => ⟨rfl, by cases k; rfl⟩, fun k => by rw [k.2]⟩
  · have hs : demo.flash.spareOf l = Spare.erased := by simp [Flash.spareOf, demo, Table.read, e]
    rw [hs]
    exact ⟨fun k => (nomatch (show LeafClass.erased = .valid h from k)), fun k => absurd k.1 e⟩
theorem test_witness_kept_leaf : demo.flash.keptAt 2 1 0 9 := by
  refine ⟨⟨found, ⟨?_, rfl, ?_, ?_⟩, rfl, rfl, ?_⟩, nofun, fun p h1 h2 => by omega⟩
  · exact (only_leaf_9 _ _).mpr ⟨rfl, rfl⟩
  · intro m g hm _; rw [((only_leaf_9 _ _).mp hm).2]
  · intro m g hm _ _ _; rw [((only_leaf_9 _ _).mp hm).2]; exact ⟨rfl, rfl⟩
  · intro m g hm _ _; rw [((only_leaf_9 _ _).mp hm.1).1]

end Sys2Proof.Tests
end

section
/-! The handle check of a document request (R2): the bus answers a slot out of range, a slot or generation that names no
document is turned away before the owner's checks, and no owner gives one of these three answers itself. -/

namespace Sys2Proof.Machine

/-! ### Answers that an owner gives after the handle check -/

/-- Not an answer of the form check or of the handle check. -/
def Verdict.PastHandle (v : Verdict) : Prop :=
  v ≠ .denied .malformed ∧ v ≠ .denied .noDocument ∧ v ≠ .denied .staleHandle

@[simp] theorem Verdict.pastHandle_taken (r : Result) : (Verdict.taken r).PastHandle := ⟨nofun, nofun, nofun⟩

@[simp] theorem Verdict.pastHandle_defer (r : Defer) : (Verdict.defer r).PastHandle := ⟨nofun, nofun, nofun⟩

@[simp] theorem Verdict.pastHandle_denied (e : Denied) :
    (Verdict.denied e).PastHandle ↔ e ≠ .malformed ∧ e ≠ .noDocument ∧ e ≠ .staleHandle := by
  simp [Verdict.PastHandle]

@[simp] theorem Taken.turnedAway_state (s : State) (v : Verdict) : (Taken.turnedAway s v).state = s := rfl
@[simp] theorem Taken.turnedAway_verdict (s : State) (v : Verdict) : (Taken.turnedAway s v).verdict = v := rfl
@[simp] theorem Taken.turnedAway_block (s : State) (v : Verdict) : (Taken.turnedAway s v).block = .none := rfl

/-- R125 refuses for a missing obligation or a purge, for nothing else. -/
theorem mayRead_pastHandle {role : Role} {d : Document} {e : Denied} (h : mayRead role d = some e) :
    (Verdict.denied e).PastHandle := by
  have hc : e = .notObliged ∨ e = .purging := by
    cases role <;> simp only [mayRead] at h <;> split_ifs at h <;> simp_all
  rcases hc with rfl | rfl <;> simp

theorem readPage_pastHandle (role : Role) (n page : Nat) (pg : Page) (offset count : Nat) (s : State) :
    (readPage role n page pg offset count s).verdict.PastHandle := by
  unfold readPage
  dsimp only
  split
  case h_1 => simp
  case h_2 => simp
  case h_3 => simp
  case h_4 => split <;> simp

theorem readDocument_pastHandle (role : Role) (n : Nat) (d : Document) (page offset count : Nat) (s : State) :
    (readDocument role n d page offset count s).verdict.PastHandle := by
  unfold readDocument
  split
  · split_ifs <;> simp
  · split_ifs
    · simp
    · simp
    · exact readPage_pastHandle ..

theorem ownRelease_pastHandle (accepts : Bool) (role : Role) (n : Nat) (d : Document) (s : State) :
    (ownRelease accepts role n d s).verdict.PastHandle := by
  unfold ownRelease
  dsimp only
  split_ifs
  · simp
  all_goals split <;> simp

theorem ownForward_pastHandle (dept n : Nat) (d : Document) (s : State) :
    (ownForward dept n d s).verdict.PastHandle := by
  unfold ownForward
  split_ifs <;> simp

theorem ownHold_pastHandle (tag n : Nat) (d : Document) (s : State) : (ownHold tag n d s).verdict.PastHandle := by
  unfold ownHold
  split_ifs <;> simp

theorem ownUnhold_pastHandle (tag n : Nat) (d : Document) (s : State) : (ownUnhold tag n d s).verdict.PastHandle := by
  unfold ownUnhold
  split_ifs <;> simp

/-! ### The handle check before an owner -/

/-- A free slot is NO_DOCUMENT, whatever the generation (R2). -/
theorem onDocument_free {s : State} {slot : BitVec 13} (generation : BitVec 8) (owner : Document → Taken)
    (hd : s.body.doc slot.toNat = none) :
    onDocument s slot generation owner = Taken.turnedAway s (.denied .noDocument) := by
  simp [onDocument, Body.handle, hd]

/-- A slot in use under another generation is STALE_HANDLE (R2). -/
theorem onDocument_stale {s : State} {slot : BitVec 13} {generation : BitVec 8} {d : Document} (owner : Document → Taken)
    (hd : s.body.doc slot.toNat = some d) (hg : (s.body.slot slot.toNat).generation ≠ generation.toNat) :
    onDocument s slot generation owner = Taken.turnedAway s (.denied .staleHandle) := by
  simp [onDocument, Body.handle, hd, hg]

/-! ### Requests that check a handle first -/

theorem Op.ne_none_of_permits {op : Op} {role : Role} (hp : op.permits role = true) : role ≠ .none := by
  rintro rfl
  cases op <;> simp [Op.permits] at hp

/-- A request whose form check comes down to its slot's range, whose owner makes the handle check first, and whose own
checks give none of the handle check's answers. -/
def ChecksHandleFirst (c : Instr) (h : Head) (op : Op) (slot : BitVec 13) (generation : BitVec 8) : Prop :=
  ∃ own : Role → State → Document → Taken,
    (∀ s, exec c s =
      request s h op (fun _ => slotInRange slot) (fun role u => onDocument u slot generation (own role u))) ∧
    ∀ role u d, (own role u d).verdict.PastHandle

section
variable {c : Instr} {s : State} {h : Head} {role : Role} {op : Op} {slot : BitVec 13} {generation : BitVec 8}

/-- A slot that does not exist is malformed (R173), and nothing changes. -/
theorem ChecksHandleFirst.malformed (hc : ChecksHandleFirst c h op slot generation) (hh : Heard s h role)
    (hp : op.permits role = true) (hs : 4096 ≤ slot.toNat) :
    exec c s = .next (s.nextPacket.reply role op (.denied .malformed) .none) := by
  obtain ⟨own, he, _⟩ := hc
  have hr : slotInRange slot = false := decide_eq_false (by simpa [Config.slots] using hs)
  have hl : s.hears = true := by simp [State.hears, hh.running, hh.listens]
  have hb : busCheck s.recovery.part (s.tables.role h.sender.toNat) op (slotInRange slot) = some (.denied .malformed) := by
    simp [busCheck, hh.role, Op.ne_none_of_permits hp, hp, hr]
  rw [he, request_checked hh.free hl hh.target hb, hh.role]

/-- A slot that exists brings the request to the handle check. -/
theorem ChecksHandleFirst.reaches (hc : ChecksHandleFirst c h op slot generation) (hh : Heard s h role)
    (hp : op.permits role = true) (hs : slot.toNat < 4096) :
    ∃ own : Document → Taken, (∀ d, (own d).verdict.PastHandle) ∧
      exec c s = .next
        ((onDocument s.nextPacket slot generation own).state.reply role op
          (onDocument s.nextPacket slot generation own).verdict (onDocument s.nextPacket slot generation own).block) := by
  obtain ⟨own, he, ho⟩ := hc
  have hr : slotInRange slot = true := decide_eq_true hs
  exact ⟨own role s.nextPacket, ho role _, by rw [he, request_taken hh (Op.ne_none_of_permits hp) hp hr]⟩

/-- A request for a free slot is refused with NO_DOCUMENT, and nothing changes. -/
theorem ChecksHandleFirst.noDocument (hc : ChecksHandleFirst c h op slot generation) (hh : Heard s h role)
    (hp : op.permits role = true) (hs : slot.toNat < 4096) (hd : s.body.doc slot.toNat = none) :
    exec c s = .next (s.nextPacket.reply role op (.denied .noDocument) .none) := by
  obtain ⟨own, _, he⟩ := hc.reaches hh hp hs
  rw [he, onDocument_free generation own (by simpa using hd)]
  simp

/-- A request under another generation is refused with STALE_HANDLE, and nothing changes. -/
theorem ChecksHandleFirst.staleHandle {d : Document} (hc : ChecksHandleFirst c h op slot generation) (hh : Heard s h role)
    (hp : op.permits role = true) (hs : slot.toNat < 4096) (hd : s.body.doc slot.toNat = some d)
    (hg : (s.body.slot slot.toNat).generation ≠ generation.toNat) :
    exec c s = .next (s.nextPacket.reply role op (.denied .staleHandle) .none) := by
  obtain ⟨own, _, he⟩ := hc.reaches hh hp hs
  rw [he, onDocument_stale (d := d) own (by simpa using hd) (by simpa using hg)]
  simp

/-- A handle that agrees is answered by the owner's own checks. -/
theorem ChecksHandleFirst.agrees {d : Document} (hc : ChecksHandleFirst c h op slot generation) (hh : Heard s h role)
    (hp : op.permits role = true) (hs : slot.toNat < 4096) (hd : s.body.doc slot.toNat = some d)
    (hg : (s.body.slot slot.toNat).generation = generation.toNat) :
    ∃ t m, exec c s = .next t ∧ t.sent = some m ∧ m.answer.verdict.PastHandle := by
  obtain ⟨own, ho, he⟩ := hc.reaches hh hp hs
  have hn : Names s.nextPacket.body slot generation d := ⟨hs, hd, hg⟩
  rw [onDocument_named own hn] at he
  exact ⟨_, _, he, State.reply_sent .., ho d⟩

end

/-! ### The six document requests -/

section
variable (h : Head) (slot : BitVec 13) (generation : BitVec 8)

/-- R130, R131: DESCRIBE of a page number in range. -/
theorem describe_checksHandleFirst {page : BitVec 10} (hp : pageInRange page = true) :
    ChecksHandleFirst (.describe h slot generation page) h .describe slot generation := by
  refine ⟨_, fun s => by simp only [exec, execDescribe, hp, Bool.and_true]; rfl, fun role u d => ?_⟩
  split
  case h_1 e he => exact mayRead_pastHandle he
  case h_2 => simp

/-- R133: READ of a page number and a count in range. -/
theorem read_checksHandleFirst {page : BitVec 10} (offset : BitVec 18) {count : BitVec 9} (hp : pageInRange page = true)
    (hn : countInRange count = true) :
    ChecksHandleFirst (.read h slot generation page offset count) h .read slot generation := by
  refine ⟨_, fun s => by simp only [exec, execRead, hp, hn, Bool.and_true]; rfl, fun role u d => ?_⟩
  split
  case h_1 e he => exact mayRead_pastHandle he
  case h_2 => exact readDocument_pastHandle ..

/-- R110: RELEASE with a choice in range. -/
theorem release_checksHandleFirst {choice : BitVec 2} (hv : choice.toNat ≤ 1) :
    ChecksHandleFirst (.release h slot generation choice) h .release slot generation :=
  ⟨_, fun s => by simp only [exec, execRelease, hv, decide_true, Bool.and_true]; rfl,
    fun _ _ _ => ownRelease_pastHandle ..⟩

/-- R114: FORWARD to a department in range. -/
theorem forward_checksHandleFirst {department : BitVec 5} (hv : departmentInRange department = true) :
    ChecksHandleFirst (.forward h slot generation department) h .forward slot generation :=
  ⟨_, fun s => by simp only [exec, execForward, hv, Bool.and_true]; rfl, fun _ _ _ => ownForward_pastHandle ..⟩

/-- R147: HOLD with a tag in range. -/
theorem hold_checksHandleFirst {tag : BitVec 16} (hv : tag.toNat ≠ 0) :
    ChecksHandleFirst (.hold h slot generation tag) h .hold slot generation :=
  ⟨_, fun s => by simp only [exec, execHold, hv, ne_eq, not_false_eq_true, decide_true, Bool.and_true]; rfl,
    fun _ _ _ => ownHold_pastHandle ..⟩

/-- R148: UNHOLD with a tag in range. -/
theorem unhold_checksHandleFirst {tag : BitVec 16} (hv : tag.toNat ≠ 0) :
    ChecksHandleFirst (.unhold h slot generation tag) h .unhold slot generation :=
  ⟨_, fun s => by simp only [exec, execUnhold, hv, ne_eq, not_false_eq_true, decide_true, Bool.and_true]; rfl,
    fun _ _ _ => ownUnhold_pastHandle ..⟩

end

/-- Settles O18: each of the six document requests checks its handle first, and such a request is answered by the bus, by
the handle check or by its owner, in this order. -/
theorem theHandleCheckComesFirst : Obligations.TheHandleCheckComesFirst := by
  intro s h role slot generation page offset count choice department tag c op hh hp hpage1 hpage2 hcount1 hcount2
    hchoice hdept htag hop
  have hpage : pageInRange page = true := by simp [pageInRange, hpage1, hpage2]
  have hcount : countInRange count = true := by simp [countInRange, hcount1, hcount2]
  have hc : ChecksHandleFirst c h op slot generation := by
    rcases hop with ⟨rfl, rfl⟩ | ⟨rfl, rfl⟩ | ⟨rfl, rfl⟩ | ⟨rfl, rfl⟩ | ⟨rfl, rfl⟩ | ⟨rfl, rfl⟩
    · exact describe_checksHandleFirst h slot generation hpage
    · exact read_checksHandleFirst h slot generation offset hpage hcount
    · exact release_checksHandleFirst h slot generation hchoice
    · exact forward_checksHandleFirst h slot generation (decide_eq_true hdept)
    · exact hold_checksHandleFirst h slot generation (Nat.pos_iff_ne_zero.mp htag)
    · exact unhold_checksHandleFirst h slot generation (Nat.pos_iff_ne_zero.mp htag)
  exact ⟨hc.malformed hh hp, hc.noDocument hh hp, fun d hs hd => ⟨hc.staleHandle hh hp hs hd, hc.agrees hh hp hs hd⟩⟩

end Sys2Proof.Machine
end

section
/-! SET DEPARTMENT (R30): its form check, the record it stores with the numeric fields clamped and intake's fixed ones,
and the request refused at the bus or taken. -/

namespace Sys2Proof.Machine

/-! ### A request answered MALFORMED -/

/-- An answer replaces the transaction, so ending it first does not show (R171). -/
theorem State.nextPacket_reply (s : State) (role : Role) (op : Op) (v : Verdict) (block : Block) :
    s.nextPacket.reply role op v block = State.reply { s with sent := none } role op v block := rfl

/-- A request that is heard and permitted but fails its form check is malformed, and nothing changes (R173). -/
theorem request_malformed {s : State} {h : Head} {role : Role} {op : Op} {formed : Role → Bool}
    {owner : Role → State → Taken} (hh : Heard s h role) (hp : op.permits role = true) (hf : formed role = false) :
    request s h op formed owner = .next (State.reply { s with sent := none } role op (.denied .malformed) .none) := by
  have hl : s.hears = true := by simp [State.hears, hh.running, hh.listens]
  have hb : busCheck s.recovery.part (s.tables.role h.sender.toNat) op (formed (s.tables.role h.sender.toNat)) =
      some (.denied .malformed) := by
    simp [busCheck, hh.role, Op.ne_none_of_permits hp, hp, hf]
  rw [request_checked hh.free hl hh.target hb, hh.role, State.nextPacket_reply]

/-! ### The fields of SET DEPARTMENT -/

theorem departmentInRange_iff (d : BitVec 5) : departmentInRange d = true ↔ d.toNat ≤ 15 := by
  simp [departmentInRange, Config.departments, Nat.lt_succ_iff]

/-- A yes/no value in range reads as yes exactly at 1. -/
theorem yesNoOf_getD {n : Nat} (hn : n ≤ 1) : (yesNoOf n).getD false = decide (n = 1) := by
  interval_cases n <;> rfl

/-- The form check of R30: the department exists, and enabled and copy-all are yes or no. -/
theorem setDepartment_formed (department : BitVec 5) (enabled copyAll : BitVec 2) :
    (departmentInRange department && (yesNoOf enabled.toNat).isSome && (yesNoOf copyAll.toNat).isSome) = true ↔
      department.toNat ≤ 15 ∧ enabled.toNat ≤ 1 ∧ copyAll.toNat ≤ 1 := by
  simp only [Bool.and_eq_true, departmentInRange_iff, yesNoOf_isSome, and_assoc]

/-! ### The record that SET DEPARTMENT stores -/

/-- A clamp whose low end is 1 lifts only the value 0. -/
theorem clampTo_one {high v : Nat} (hh : 1 ≤ high) :
    clampTo 1 high v = if high < v then high else if v = 0 then 1 else v := by
  unfold clampTo
  split_ifs <;> omega

section
variable (t : Tables) (d : Nat) (enabled : Bool) (quota escalation retention : Nat) (copyAll : Bool)

/-- Intake is always enabled. -/
theorem storedDept_enabled :
    (storedDept t d enabled quota escalation retention copyAll).enabled = (decide (d = 0) || enabled) := by
  unfold storedDept
  split_ifs with hd <;> simp [hd]

/-- The quota is clamped to 1..65,536; intake's is always 65,536. -/
theorem storedDept_quota :
    (storedDept t d enabled quota escalation retention copyAll).quota =
      if d = 0 ∨ 65536 < quota then 65536 else if quota = 0 then 1 else quota := by
  unfold storedDept
  by_cases hd : d = 0 <;> simp [hd, clampTo_one]

/-- The escalation period is clamped to 0..10,080; intake's is always 0. -/
theorem storedDept_escalation :
    (storedDept t d enabled quota escalation retention copyAll).escalation =
      if d = 0 then 0 else if 10080 < escalation then 10080 else escalation := by
  unfold storedDept
  by_cases hd : d = 0
  · simp [hd]
  · simp only [hd, if_false]
    split_ifs <;> omega

/-- The retention period is clamped to 1..3,650, intake's too. -/
theorem storedDept_retention :
    (storedDept t d enabled quota escalation retention copyAll).retention =
      if 3650 < retention then 3650 else if retention = 0 then 1 else retention := by
  rw [← clampTo_one (by decide)]
  unfold storedDept
  split_ifs <;> rfl

theorem storedDept_copyAll : (storedDept t d enabled quota escalation retention copyAll).copyAll = copyAll := by
  unfold storedDept
  split_ifs <;> rfl

/-- The node list is not touched. -/
theorem storedDept_nodes : (storedDept t d enabled quota escalation retention copyAll).nodes = (t.dept d).nodes := by
  unfold storedDept
  split_ifs <;> rfl

end

/-- Reading a department back after its settings are stored. -/
@[simp] theorem Tables.setDept_dept (t : Tables) (d : Nat) (v : Dept) (x : Nat) :
    (t.setDept d v).dept x = if x = d then v else t.dept x := Table.read_write ..

/-! ### The request -/

section
variable {s : State} {h : Head} {department : BitVec 5} {enabled : BitVec 2} {quota : BitVec 17} {escalation : BitVec 14}
  {retention : BitVec 12} {copyAll : BitVec 2}

/-- A field of SET DEPARTMENT out of range is answered at the bus (R30). -/
theorem exec_setDepartment_malformed (hh : Heard s h .records)
    (hf : ¬ (department.toNat ≤ 15 ∧ enabled.toNat ≤ 1 ∧ copyAll.toNat ≤ 1)) :
    exec (.setDepartment h department enabled quota escalation retention copyAll) s =
      .next (State.reply { s with sent := none } .records .setDepartment (.denied .malformed) .none) := by
  dsimp only [exec, execSetDepartment]
  exact request_malformed hh rfl (Bool.eq_false_iff.mpr (mt (setDepartment_formed ..).mp hf))

/-- SET DEPARTMENT in range stores `storedDept` and reports it as stored; nothing else changes (R30). -/
theorem exec_setDepartment_taken {v : Dept} (hh : Heard s h .records) (hd : department.toNat ≤ 15)
    (he : enabled.toNat ≤ 1) (hc : copyAll.toNat ≤ 1)
    (hv : v = storedDept s.tables department.toNat (decide (enabled.toNat = 1)) quota.toNat escalation.toNat
      retention.toNat (decide (copyAll.toNat = 1))) :
    exec (.setDepartment h department enabled quota escalation retention copyAll) s =
      .next (answered { s with tables := s.tables.setDept department.toNat v, sent := none } .records .setDepartment
        (.setDepartment v.enabled v.quota v.escalation v.retention v.copyAll)) := by
  rw [← yesNoOf_getD he, ← yesNoOf_getD hc] at hv
  subst hv
  dsimp only [exec, execSetDepartment]
  exact request_taken hh nofun rfl ((setDepartment_formed ..).mpr ⟨hd, he, hc⟩)

end

/-- Settles O41: a field out of range is answered at the bus; otherwise `storedDept` is written at its department alone,
and each field of it is the clamped, fixed or kept value that R30 names. -/
theorem setDepartmentStoresItsClampedValues : Obligations.SetDepartmentStoresItsClampedValues := by
  rintro s h department enabled quota escalation retention copyAll d hh rfl c
  refine ⟨fun hf => exec_setDepartment_malformed hh (by omega), fun hd he hc => ?_⟩
  refine ⟨_, _, exec_setDepartment_taken hh hd he hc rfl, ?stored, fun x hx => ?others, storedDept_enabled ..,
    storedDept_quota .., storedDept_escalation .., storedDept_retention .., ?copyAll, storedDept_nodes .., rfl, rfl⟩
  case stored => simp
  case others => simp [hx]
  case copyAll => rw [storedDept_copyAll, decide_eq_true_eq]

end Sys2Proof.Machine
end

section
/-! Steps and commands, seen from outside the body: what a step runs, which commands leave everything outside the body
alone, and what each of the others does to the tables, the timebase, the recovery unit, the flash array and the bus. -/

namespace Sys2Proof.Machine

/-! ### Steps -/

/-- Settles O1: both sides are the two branches of `step`. -/
theorem stepRunsTheFrontCommand : Obligations.StepRunsTheFrontCommand := by
  refine ⟨fun c rest s => rfl, fun s hs => ?_⟩
  unfold step
  rw [hs]

/-- What a step that goes on has done: nothing, on an empty queue, or the front command. -/
theorem step_next {s t : State} (h : step s = .next t) :
    t = s ∨ ∃ c rest, exec c { s with pending := rest } = .next t := by
  unfold step at h
  split at h
  · exact Or.inl (by cases h; rfl)
  · exact Or.inr ⟨_, _, h⟩

/-- A law that does not read the queue and that every command keeps is kept by every step. -/
theorem step_preserves {P : State → Prop} (hp : ∀ s rest, P s → P { s with pending := rest })
    (he : ∀ c s t, P s → exec c s = .next t → P t) {s t : State} (hs : P s) (h : step s = .next t) : P t := by
  rcases step_next h with rfl | ⟨c, rest, hc⟩
  · exact hs
  · exact he c _ t (hp s rest hs) hc

/-- What a command that goes on leaves is the state it names. -/
theorem next_eq {s t : State} (h : (Host.Outcome.next s : Outcome) = .next t) : t = s := by
  injection h with h
  exact h.symm

/-! ### Commands that change the body and the bus alone -/

/-- The commands that leave the tables, the timebase, the recovery unit, the flash array and the bus reset input alone:
the requests that set no table and no clock, and the deadlines of sessions, obligations and documents. -/
def bodyOnly : Instr → Bool
  | .openCall .. | .pageBegin .. | .append .. | .appendDataBlockEnd .. | .pageEnd .. | .closeCall .. | .endSession ..
  | .idleExpiry .. | .list .. | .describe .. | .read .. | .release .. | .forward .. | .hold .. | .unhold ..
  | .status .. | .unknownOperation .. | .escalation .. | .retentionDue .. => true
  | _ => false

/-- A LIST clears at most an attention (R127). -/
theorem execList_outside {h : Head} {a : BitVec 32} {d : BitVec 5} {s t : State} (hr : execList h a d s = .next t) :
    SameOutside s t := by
  refine SameOutside.request (fun role u => ?_) hr
  dsimp only
  split
  · exact .withBody u _
  · exact .refl u

theorem execEndSession_outside {h : Head} {k : BitVec 6} {s t : State} (hr : execEndSession h k s = .next t) :
    SameOutside s t := by
  refine SameOutside.request (fun role u => ?_) hr
  split_ifs
  · exact .turnedAway u _
  · exact .close u _ _

/-- The owners of DESCRIBE and READ are reached when the sender may read the document (R125). -/
theorem execDescribe_outside {h : Head} {n : BitVec 13} {g : BitVec 8} {p : BitVec 10} {s t : State}
    (hr : execDescribe h n g p s = .next t) : SameOutside s t := by
  refine SameOutside.request (fun role u => SameOutside.onDocument u n g (fun d => ?_)) hr
  split
  · exact .turnedAway u _
  · exact .refl u

theorem execRead_outside {h : Head} {n : BitVec 13} {g : BitVec 8} {p : BitVec 10} {o : BitVec 18} {c : BitVec 9}
    {s t : State} (hr : execRead h n g p o c s = .next t) : SameOutside s t := by
  refine SameOutside.request (fun role u => SameOutside.onDocument u n g (fun d => ?_)) hr
  split
  · exact .turnedAway u _
  · exact readDocument_outside ..

theorem execAppendDataBlockEnd_outside {w : List Word} {s t : State} (hr : execAppendDataBlockEnd w s = .next t) :
    SameOutside s t := by
  unfold execAppendDataBlockEnd at hr
  split at hr <;> cases hr <;> exact ⟨rfl, rfl, rfl, rfl, rfl, rfl⟩

theorem execIdleExpiry_outside {k : BitVec 5} {s t : State} (hr : execIdleExpiry k s = .next t) : SameOutside s t := by
  unfold execIdleExpiry at hr
  split_ifs at hr
  cases hr
  exact (SameOutside.quiet s).trans (.close _ _ _)

theorem execEscalation_outside {n : BitVec 12} {d : BitVec 4} {s t : State} (hr : execEscalation n d s = .next t) :
    SameOutside s t := by
  unfold execEscalation at hr
  split_ifs at hr
  cases hr
  exact (SameOutside.quiet s).trans (.withBody _ _)

theorem execRetentionDue_outside {n : BitVec 12} {s t : State} (hr : execRetentionDue n s = .next t) :
    SameOutside s t := by
  unfold execRetentionDue at hr
  split_ifs at hr
  · cases hr; exact (SameOutside.quiet s).trans (.act _ _)
  · cases hr; exact .quiet s

/-- Everything outside the body and the bus stays at the commands of `bodyOnly`. -/
theorem exec_bodyOnly {c : Instr} {s t : State} (hc : bodyOnly c = true) (h : exec c s = .next t) : SameOutside s t := by
  cases c
  case openCall => dsimp only [exec, execOpenCall] at h; refine SameOutside.request (fun _ _ => ?_) h; exact .lineOwner _ (fun _ _ _ => ownOpenCall_outside ..) _ _
  case pageBegin => dsimp only [exec, execPageBegin] at h; refine SameOutside.request (fun _ _ => ?_) h; exact .lineOwner _ (fun _ _ _ => ownPageBegin_outside ..) _ _
  case append => exact execAppend_outside h
  case appendDataBlockEnd => exact execAppendDataBlockEnd_outside h
  case pageEnd => dsimp only [exec, execPageEnd] at h; refine SameOutside.request (fun _ _ => ?_) h; exact .lineOwner _ (fun _ _ _ => ownPageEnd_outside ..) _ _
  case closeCall => dsimp only [exec, execCloseCall] at h; refine SameOutside.request (fun _ _ => ?_) h; exact .lineOwner _ (fun _ _ _ => ownCloseCall_outside ..) _ _
  case endSession => exact execEndSession_outside h
  case idleExpiry => exact execIdleExpiry_outside h
  case list => exact execList_outside h
  case describe => exact execDescribe_outside h
  case read => exact execRead_outside h
  case release => dsimp only [exec, execRelease] at h; refine SameOutside.request (fun _ u => ?_) h; exact .onDocument u _ _ (fun _ => ownRelease_outside ..)
  case forward => dsimp only [exec, execForward] at h; refine SameOutside.request (fun _ u => ?_) h; exact .onDocument u _ _ (fun _ => ownForward_outside ..)
  case hold => dsimp only [exec, execHold] at h; refine SameOutside.request (fun _ u => ?_) h; exact .onDocument u _ _ (fun _ => ownHold_outside ..)
  case unhold => dsimp only [exec, execUnhold] at h; refine SameOutside.request (fun _ u => ?_) h; exact .onDocument u _ _ (fun _ => ownUnhold_outside ..)
  case status => dsimp only [exec, execStatus] at h; refine SameOutside.request (fun _ u => ?_) h; exact .refl u
  case unknownOperation => dsimp only [exec, execUnknownOperation] at h; refine SameOutside.request (fun _ u => ?_) h; exact .turnedAway u _
  case escalation => exact execEscalation_outside h
  case retentionDue => exact execRetentionDue_outside h
  all_goals cases hc

/-! ### Requests that set a table or the clock -/

/-- What a request that reaches its owner, or none, leaves of a field that answers do not touch: the field is as it was,
or as the owner left it. -/
theorem request_field {β : Type} {s t : State} {h : Head} {op : Op} {formed : Role → Bool} {owner : Role → State → Taken}
    (f : State → β) (hq : f s.nextPacket = f s) (hy : ∀ u r v k, f (State.reply u r op v k) = f u)
    (hr : request s h op formed owner = .next t) :
    f t = f s ∨ ∃ role, op.permits role = true ∧ formed role = true ∧ f t = f (owner role s.nextPacket).state := by
  rcases request_next hr with rfl | ⟨r, v, rfl⟩ | ⟨r, hp, hf, _, rfl⟩
  · exact Or.inl hq
  · exact Or.inl ((hy _ _ _ _).trans hq)
  · exact Or.inr ⟨r, hp, hf, hy _ _ _ _⟩

/-- Everything outside the body, the tables and the bus is the same. -/
structure SameBesidesTables (s t : State) : Prop where
  time : t.time = s.time
  recovery : t.recovery = s.recovery
  flash : t.flash = s.flash
  resetHeld : t.resetHeld = s.resetHeld
  pending : t.pending = s.pending

/-- A request whose owner changes nothing outside the body but the tables. -/
theorem SameBesidesTables.request {s t : State} {h : Head} {op : Op} {formed : Role → Bool} {owner : Role → State → Taken}
    (ho : ∀ role u, SameBesidesTables u (owner role u).state) (hr : Machine.request s h op formed owner = .next t) :
    SameBesidesTables s t := by
  rcases request_next hr with rfl | ⟨r, v, rfl⟩ | ⟨r, _, _, _, rfl⟩
  · exact ⟨rfl, rfl, rfl, rfl, rfl⟩
  · exact ⟨rfl, rfl, rfl, rfl, rfl⟩
  · have h1 := ho r s.nextPacket
    exact ⟨h1.time, h1.recovery, h1.flash, h1.resetHeld, h1.pending⟩

/-- The requests that set the tables. -/
def setsTables : Instr → Bool
  | .setNode .. | .setRoute .. | .clearRoute .. | .setDepartment .. | .setLimits .. => true
  | _ => false

theorem State.setNode_besidesTables (s : State) (n : Nat) (r : Role) : SameBesidesTables s (s.setNode n r) := by
  unfold State.setNode
  dsimp only
  split_ifs <;> exact ⟨rfl, rfl, rfl, rfl, rfl⟩

theorem exec_setsTables {c : Instr} {s t : State} (hc : setsTables c = true) (h : exec c s = .next t) :
    SameBesidesTables s t := by
  cases c
  case setNode =>
    dsimp only [exec, execSetNode] at h
    refine SameBesidesTables.request (fun _ u => ?_) h
    unfold ownSetNode
    split
    · exact ⟨rfl, rfl, rfl, rfl, rfl⟩
    · exact State.setNode_besidesTables ..
  case setRoute => dsimp only [exec, execSetRoute] at h; refine SameBesidesTables.request (fun _ u => ?_) h; exact ⟨rfl, rfl, rfl, rfl, rfl⟩
  case clearRoute => dsimp only [exec, execClearRoute] at h; refine SameBesidesTables.request (fun _ u => ?_) h; exact ⟨rfl, rfl, rfl, rfl, rfl⟩
  case setDepartment => dsimp only [exec, execSetDepartment] at h; refine SameBesidesTables.request (fun _ u => ?_) h; exact ⟨rfl, rfl, rfl, rfl, rfl⟩
  case setLimits => dsimp only [exec, execSetLimits] at h; refine SameBesidesTables.request (fun _ u => ?_) h; exact ⟨rfl, rfl, rfl, rfl, rfl⟩
  all_goals cases hc

/-- Everything outside the body, the timebase and the bus is the same. -/
structure SameBesidesTime (s t : State) : Prop where
  tables : t.tables = s.tables
  recovery : t.recovery = s.recovery
  flash : t.flash = s.flash
  resetHeld : t.resetHeld = s.resetHeld
  pending : t.pending = s.pending

/-- A SET CLOCK taken sets the timebase, and outside the body nothing else (R156). -/
theorem State.setClock_time (s : State) (v : Nat) : (s.setClock v).time = s.time.set v := by
  unfold State.setClock
  dsimp only
  split_ifs <;> rfl

theorem State.setClock_besidesTime (s : State) (v : Nat) : SameBesidesTime s (s.setClock v) := by
  unfold State.setClock
  dsimp only
  split_ifs <;> exact ⟨rfl, rfl, rfl, rfl, rfl⟩

/-- A tick that counts moves the timebase, and outside the body nothing else (R154). -/
theorem State.tick_time (s : State) : s.tick.time = s.time.tick := by
  unfold State.tick
  dsimp only
  split_ifs <;> rfl

theorem State.tick_besidesTime (s : State) : SameBesidesTime s s.tick := by
  unfold State.tick
  dsimp only
  split_ifs <;> exact ⟨rfl, rfl, rfl, rfl, rfl⟩

/-- The commands that move or set the clock. -/
def movesClock : Instr → Bool
  | .tick | .setClock .. | .broadcastSetClock .. => true
  | _ => false

theorem exec_movesClock {c : Instr} {s t : State} (hc : movesClock c = true) (h : exec c s = .next t) :
    SameBesidesTime s t ∧ (t.time = s.time ∨ t.time = s.time.tick ∨ ∃ v : BitVec 48, t.time = s.time.set v.toNat) := by
  cases c
  case tick =>
    change execTick s = _ at h
    unfold execTick at h
    split_ifs at h <;> cases h
    · have h1 := State.tick_besidesTime s.quiet
      exact ⟨⟨h1.tables, h1.recovery, h1.flash, h1.resetHeld, h1.pending⟩, Or.inr (Or.inl (State.tick_time _))⟩
    · exact ⟨⟨rfl, rfl, rfl, rfl, rfl⟩, Or.inl rfl⟩
  case setClock hd v =>
    dsimp only [exec, execSetClock] at h
    rcases request_next h with rfl | ⟨r, w, rfl⟩ | ⟨r, _, _, _, rfl⟩
    · exact ⟨⟨rfl, rfl, rfl, rfl, rfl⟩, Or.inl rfl⟩
    · exact ⟨⟨rfl, rfl, rfl, rfl, rfl⟩, Or.inl rfl⟩
    · have h1 := State.setClock_besidesTime s.nextPacket v.toNat
      exact ⟨⟨h1.tables, h1.recovery, h1.flash, h1.resetHeld, h1.pending⟩,
        Or.inr (Or.inr ⟨v, State.setClock_time s.nextPacket v.toNat⟩)⟩
  case broadcastSetClock n v =>
    change execBroadcastSetClock n v s = _ at h
    unfold execBroadcastSetClock at h
    split_ifs at h <;> cases h
    · have h1 := State.setClock_besidesTime s.nextPacket v.toNat
      exact ⟨⟨h1.tables, h1.recovery, h1.flash, h1.resetHeld, h1.pending⟩,
        Or.inr (Or.inr ⟨v, State.setClock_time s.nextPacket v.toNat⟩)⟩
    · exact ⟨⟨rfl, rfl, rfl, rfl, rfl⟩, Or.inl rfl⟩
  all_goals cases hc

/-! ### The banks, the pins and the supplies -/

/-- The end of a bank operation: outside the body only the flash array changes, as the operation leaves it. -/
def endsBankWork : Instr → Bool
  | .programComplete .. | .programFail .. | .fetchComplete .. | .voidMarkEnd .. | .eraseEnd .. => true
  | _ => false

/-- What the end of a bank operation leaves in the flash array. -/
inductive BankFlash (f : Flash) : Flash → Prop where
  | same : BankFlash f f
  | programmed (l : Nat) (w : List Word) (d : List Byte) : BankFlash f (f.programmed l w d)
  | programFailed (l : Nat) (w : List Word) : BankFlash f (f.programFailed l w)
  | voidMarked (l : Nat) : BankFlash f (f.voidMarked l)
  | voidFailed (l : Nat) : BankFlash f (f.voidFailed l)
  | erased (l : Nat) : BankFlash f (f.erased l)
  | eraseFailed (l : Nat) : BankFlash f (f.eraseFailed l)

theorem exec_endsBankWork {c : Instr} {s t : State} (hc : endsBankWork c = true) (h : exec c s = .next t) :
    ∃ (b : Body) (f : Flash), BankFlash s.flash f ∧ t = s.bankEvent b f := by
  cases c
  case programComplete k =>
    change execProgramComplete k s = _ at h
    unfold execProgramComplete at h
    split at h <;> cases h
    exact ⟨_, _, .programmed _ _ _, rfl⟩
  case programFail k =>
    change execProgramFail k s = _ at h
    unfold execProgramFail at h
    split at h <;> cases h
    exact ⟨_, _, .programFailed _ _, rfl⟩
  case fetchComplete k =>
    change execFetchComplete k s = _ at h
    unfold execFetchComplete at h
    split at h <;> cases h
    exact ⟨_, _, .same, rfl⟩
  case voidMarkEnd k completed =>
    change execVoidMarkEnd k completed s = _ at h
    unfold execVoidMarkEnd at h
    split at h <;> cases h
    refine ⟨_, _, ?_, rfl⟩
    split_ifs
    · exact .voidMarked _
    · exact .voidFailed _
  case eraseEnd k completed =>
    change execEraseEnd k completed s = _ at h
    unfold execEraseEnd at h
    split at h <;> cases h
    split_ifs
    · exact ⟨_, _, .erased _, rfl⟩
    · exact ⟨_, _, .eraseFailed _, rfl⟩
  all_goals cases hc

/-- The end of a transaction touches the bus alone. -/
theorem SameOutside.endTransaction (s : State) : SameOutside s s.endTransaction := by
  unfold State.endTransaction
  split <;> exact ⟨rfl, rfl, rfl, rfl, rfl, rfl⟩

@[simp] theorem State.endTransaction_txn (s : State) : s.endTransaction.txn = .none := by
  unfold State.endTransaction
  split <;> rfl

@[simp] theorem State.endTransaction_body (s : State) : s.endTransaction.body = s.body := by
  unfold State.endTransaction
  split <;> rfl

/-- BUS_RESET: nothing outside the body and the bus changes, and while its level rises the transaction ends. -/
theorem execBusReset_next {w : List Word} {s t : State} (h : execBusReset w s = .next t) :
    t.tables = s.tables ∧ t.time = s.time ∧ t.recovery = s.recovery ∧ t.flash = s.flash ∧ t.pending = s.pending ∧
      t.resetHeld = true ∧ (t.txn = .none ∨ (t.txn = s.txn ∧ (s.resetHeld = true ∨ s.recovery.part = .off))) := by
  have he := SameOutside.endTransaction s
  unfold execBusReset at h
  dsimp only at h
  split_ifs at h with hr
  · cases h; exact ⟨rfl, rfl, rfl, rfl, rfl, hr, Or.inr ⟨rfl, Or.inl hr⟩⟩
  · split at h <;> rename_i hp <;> obtain rfl := next_eq h
    · exact ⟨rfl, rfl, rfl, rfl, rfl, rfl, Or.inr ⟨rfl, Or.inr hp⟩⟩
    all_goals simp [he.tables, he.time, he.recovery, he.flash, he.pending]

/-- Everything outside the body and the recovery unit is the same, the bus's message apart. -/
structure SameBesidesRecovery (s t : State) : Prop where
  tables : t.tables = s.tables
  time : t.time = s.time
  flash : t.flash = s.flash
  txn : t.txn = s.txn
  resetHeld : t.resetHeld = s.resetHeld
  pending : t.pending = s.pending

@[simp] theorem State.resume_txn (s : State) : s.resume.txn = s.txn := by
  unfold State.resume; dsimp only; split_ifs <;> rfl

/-- What waits for the part to become RUNNING changes the body alone (R161). -/
theorem SameBesidesRecovery.resume {s u : State} (h : SameBesidesRecovery s u) : SameBesidesRecovery s u.resume := by
  have k := SameOutside.resume u
  exact ⟨k.tables.trans h.tables, k.time.trans h.time, k.flash.trans h.flash, (State.resume_txn u).trans h.txn,
    k.resetHeld.trans h.resetHeld, k.pending.trans h.pending⟩

/-- The PFW input's events and the work of the two starts: they set the recovery unit. -/
def startsOrWarns : Instr → Bool
  | .powerFailWarning | .powerFailWithdrawn | .warmStartComplete | .rebuildComplete | .headerScanLeafRead => true
  | _ => false

theorem execPowerFailWithdrawn_next {s t : State} (h : execPowerFailWithdrawn s = .next t) :
    SameBesidesRecovery s t ∧ t.recovery = { s.recovery with
      pfw := false, part := if s.recovery.part = .powerFail then .running else s.recovery.part } := by
  unfold execPowerFailWithdrawn at h
  dsimp only at h
  split_ifs at h with hp <;> rw [next_eq h]
  · refine ⟨SameBesidesRecovery.resume ⟨rfl, rfl, rfl, rfl, rfl, rfl⟩, ?_⟩
    rw [(SameOutside.resume _).recovery, if_pos hp]
  · refine ⟨⟨rfl, rfl, rfl, rfl, rfl, rfl⟩, ?_⟩
    rw [if_neg hp]

theorem State.reconcile_besidesRecovery (s : State) : SameBesidesRecovery s s.quiet.reconcile := by
  unfold State.reconcile
  exact ⟨rfl, rfl, rfl, rfl, rfl, rfl⟩

theorem execWarmStartComplete_next {s t : State} (h : execWarmStartComplete s = .next t) :
    s.recovery.part = .starting ∧ t = s.quiet.reconcile.resume := by
  unfold execWarmStartComplete at h
  split_ifs at h with hp
  exact ⟨hp, next_eq h⟩

theorem State.rebuild_besidesRecovery (s : State) : SameBesidesRecovery s s.quiet.rebuild := by
  unfold State.rebuild
  exact ⟨rfl, rfl, rfl, rfl, rfl, rfl⟩

theorem execRebuildComplete_next {s t : State} (h : execRebuildComplete s = .next t) :
    s.recovery.part = .rebuilding ∧ t = s.quiet.rebuild.resume := by
  unfold execRebuildComplete at h
  split_ifs at h with hp
  exact ⟨hp, next_eq h⟩

theorem execHeaderScanLeafRead_next {s t : State} (h : execHeaderScanLeafRead s = .next t) :
    s.recovery.part = .rebuilding ∧ s.recovery.scanned < Config.leaves ∧ t = { s.quiet with
      body := s.body.scanLeaf s.flash s.recovery.scanned,
      recovery := { s.recovery with scanned := s.recovery.scanned + 1 } } := by
  unfold execHeaderScanLeafRead at h
  split_ifs at h with hp
  exact ⟨hp.1, hp.2, next_eq h⟩

theorem exec_startsOrWarns {c : Instr} {s t : State} (hc : startsOrWarns c = true) (h : exec c s = .next t) :
    SameBesidesRecovery s t := by
  cases c
  case powerFailWarning => rw [next_eq h]; exact ⟨rfl, rfl, rfl, rfl, rfl, rfl⟩
  case powerFailWithdrawn => exact (execPowerFailWithdrawn_next h).1
  case warmStartComplete => rw [(execWarmStartComplete_next h).2]; exact (State.reconcile_besidesRecovery s).resume
  case rebuildComplete => rw [(execRebuildComplete_next h).2]; exact (State.rebuild_besidesRecovery s).resume
  case headerScanLeafRead => rw [(execHeaderScanLeafRead_next h).2.2]; exact ⟨rfl, rfl, rfl, rfl, rfl, rfl⟩
  all_goals cases hc

/-- MAIN_POWER_LOSS with power off does nothing; with power on it ends the transaction and cuts off what was under way. -/
theorem execMainPowerLoss_next {x : Bool} {s t : State} (h : execMainPowerLoss x s = .next t) :
    (s.recovery.part = .off ∧ t = s.quiet) ∨ (s.recovery.part ≠ .off ∧ t = { s.endTransaction with
      body := s.body.loseVolatile,
      flash := (List.range Config.banks).foldl (fun f k => f.cutOff (s.body.bank k).op) s.flash,
      recovery := { s.recovery with part := .off, mark := s.recovery.mark && !x } }) := by
  unfold execMainPowerLoss at h
  split_ifs at h with hp
  · exact Or.inl ⟨hp, next_eq h⟩
  · exact Or.inr ⟨hp, next_eq h⟩

/-- MAIN_POWER_RETURN begins a warm or a cold start, as the mark stands (R162). -/
theorem execMainPowerReturn_next {hub : BitVec 2} {node : BitVec 5} {s t : State}
    (h : execMainPowerReturn hub node s = .next t) : s.recovery.part = .off ∧
      ((s.recovery.mark = true ∧ t = s.quiet.warmBegin hub.toNat node.toNat) ∨
        (s.recovery.mark = false ∧ t = s.quiet.coldBegin hub.toNat node.toNat)) := by
  unfold execMainPowerReturn at h
  split_ifs at h with hp hm
  · exact ⟨by simpa using hp, Or.inl ⟨hm, next_eq h⟩⟩
  · exact ⟨by simpa using hp, Or.inr ⟨by simpa using hm, next_eq h⟩⟩

theorem execBackupSupplyFailure_next {s t : State} (h : execBackupSupplyFailure s = .next t) :
    s.recovery.part = .off ∧ t = { s.quiet with
      body := s.body.coldStart,
      tables := Tables.cold s.tables.hub s.tables.recordsNode,
      time := Timebase.cold,
      recovery := { s.recovery with mark := false, backup := false, lastStart := .cold, scanned := 0, warmClosed := 0,
                                    warmDiscarded := 0, warmRemoved := 0, coldRebuilt := 0, coldDropped := 0 } } := by
  unfold execBackupSupplyFailure at h
  split_ifs at h with hp
  exact ⟨hp, next_eq h⟩

/-- Every command is of one of these kinds, or one of the four events of the bus reset input and main power, or a failure
of the backup supply. -/
theorem kind_cases (c : Instr) : bodyOnly c = true ∨ setsTables c = true ∨ movesClock c = true ∨ endsBankWork c = true ∨
    startsOrWarns c = true ∨ (∃ w, c = .busReset w) ∨ c = .busResetWithdrawn ∨ (∃ x, c = .mainPowerLoss x) ∨
    (∃ hub node, c = .mainPowerReturn hub node) ∨ c = .backupSupplyFailure := by
  cases c <;> simp [bodyOnly, setsTables, movesClock, endsBankWork, startsOrWarns]

/-! ### What each part of the state changes at -/

/-- What a command does to the timebase: it stays, ticks, is set, or is lost at a cold start or with the backup
supply. -/
theorem exec_time {c : Instr} {s t : State} (h : exec c s = .next t) :
    t.time = s.time ∨ t.time = s.time.tick ∨ (∃ v : BitVec 48, t.time = s.time.set v.toNat) ∨
      (t.time = Timebase.cold ∧ ((∃ hub node, c = .mainPowerReturn hub node ∧ s.recovery.mark = false) ∨
        c = .backupSupplyFailure)) := by
  rcases kind_cases c with hc | hc | hc | hc | hc | ⟨w, rfl⟩ | rfl | ⟨x, rfl⟩ | ⟨hub, node, rfl⟩ | rfl
  · exact Or.inl (exec_bodyOnly hc h).time
  · exact Or.inl (exec_setsTables hc h).time
  · rcases (exec_movesClock hc h).2 with h | h | h <;> simp [h]
  · obtain ⟨b, f, _, rfl⟩ := exec_endsBankWork hc h; exact Or.inl rfl
  · exact Or.inl (exec_startsOrWarns hc h).time
  · exact Or.inl (execBusReset_next h).2.1
  · rw [next_eq h]; exact Or.inl rfl
  · rcases execMainPowerLoss_next h with ⟨_, rfl⟩ | ⟨_, rfl⟩
    · exact Or.inl rfl
    · exact Or.inl (SameOutside.endTransaction s).time
  · obtain ⟨_, ⟨_, rfl⟩ | ⟨hm, rfl⟩⟩ := execMainPowerReturn_next h
    · exact Or.inl rfl
    · exact Or.inr (Or.inr (Or.inr ⟨rfl, Or.inl ⟨hub, node, rfl, hm⟩⟩))
  · rw [(execBackupSupplyFailure_next h).2]; exact Or.inr (Or.inr (Or.inr ⟨rfl, Or.inr rfl⟩))

/-- What a command does to the flash array: it stays, takes the end of a bank operation, or is cut off by a loss of main
power. -/
theorem exec_flash {c : Instr} {s t : State} (h : exec c s = .next t) :
    BankFlash s.flash t.flash ∨
      t.flash = (List.range Config.banks).foldl (fun f k => f.cutOff (s.body.bank k).op) s.flash := by
  have same : t.flash = s.flash → BankFlash s.flash t.flash := fun h => h ▸ .same
  rcases kind_cases c with hc | hc | hc | hc | hc | ⟨w, rfl⟩ | rfl | ⟨x, rfl⟩ | ⟨hub, node, rfl⟩ | rfl
  · exact Or.inl (same (exec_bodyOnly hc h).flash)
  · exact Or.inl (same (exec_setsTables hc h).flash)
  · exact Or.inl (same (exec_movesClock hc h).1.flash)
  · obtain ⟨b, f, hf, rfl⟩ := exec_endsBankWork hc h; exact Or.inl hf
  · exact Or.inl (same (exec_startsOrWarns hc h).flash)
  · exact Or.inl (same (execBusReset_next h).2.2.2.1)
  · rw [next_eq h]; exact Or.inl .same
  · rcases execMainPowerLoss_next h with ⟨_, rfl⟩ | ⟨_, rfl⟩
    · exact Or.inl .same
    · exact Or.inr rfl
  · obtain ⟨_, ⟨_, rfl⟩ | ⟨_, rfl⟩⟩ := execMainPowerReturn_next h <;> exact Or.inl .same
  · rw [(execBackupSupplyFailure_next h).2]; exact Or.inl .same

/-- Settles O16: each kind of command has a lemma that says what it leaves alone outside the body. -/
theorem eachPartOfTheStateChangesAtItsOwnCommands : Obligations.EachPartOfTheStateChangesAtItsOwnCommands := by
  intro c s t h
  rcases kind_cases c with hc | hc | hc | hc | hc | ⟨w, rfl⟩ | rfl | ⟨x, rfl⟩ | ⟨hub, node, rfl⟩ | rfl
  · have k := exec_bodyOnly hc h
    cases c <;> simp [k.tables, k.time, k.recovery, k.flash, k.resetHeld, k.pending]
  · have k := exec_setsTables hc h
    cases c <;> first | cases hc; done | simp [k.time, k.recovery, k.flash, k.resetHeld, k.pending]
  · have k := (exec_movesClock hc h).1
    cases c <;> first | cases hc; done | simp [k.tables, k.recovery, k.flash, k.resetHeld, k.pending]
  · obtain ⟨b, f, hf, rfl⟩ := exec_endsBankWork hc h
    cases c <;> first | cases hc; done | skip
    case fetchComplete k =>
      have hk : (s.bankEvent b f).flash = s.flash := by
        dsimp only [exec, execFetchComplete] at h
        split at h <;> first | (rw [next_eq h]; rfl) | cases h
      simpa using hk
    all_goals simp
  · have k := exec_startsOrWarns hc h
    cases c <;> first | cases hc; done | simp [k.tables, k.time, k.flash, k.resetHeld, k.pending]
  · obtain ⟨h1, h2, h3, h4, h5, _, _⟩ := execBusReset_next h
    simp [h1, h2, h3, h4, h5]
  · rw [next_eq h]; simp
  · rcases execMainPowerLoss_next h with ⟨_, rfl⟩ | ⟨_, rfl⟩
    · simp
    · have k := SameOutside.endTransaction s
      simp [k.tables, k.time, k.resetHeld, k.pending]
  · obtain ⟨_, ⟨_, rfl⟩ | ⟨_, rfl⟩⟩ := execMainPowerReturn_next h <;> simp [State.warmBegin, State.coldBegin]
  · rw [(execBackupSupplyFailure_next h).2]; simp

/-! ### The timebase -/

theorem Timebase.lawful_cold : Timebase.cold.lawful := by simp [Timebase.lawful, Timebase.cold]

theorem Timebase.lawful_tick {t : Timebase} (h : t.lawful) : t.tick.lawful := by
  obtain ⟨hc, hr, hb, hu⟩ := h
  unfold Timebase.tick saturate
  dsimp only
  split_ifs with ht hh
  · exact ⟨hc, min_le_right _ _, hb, hu⟩
  · exact ⟨hc, min_le_right _ _, (Nat.sub_le _ _).trans hb, fun h => by simp_all⟩
  · exact ⟨min_le_right _ _, min_le_right _ _, hb, fun h => by simp_all⟩

theorem Timebase.lawful_set {t : Timebase} (h : t.lawful) {v : Nat} (hv : v ≤ Config.tickMax) : (t.set v).lawful := by
  obtain ⟨hc, hr, hb, hu⟩ := h
  unfold Timebase.set
  split_ifs with ht hv'
  · exact ⟨hv, hr, Nat.zero_le _, nofun⟩
  · exact ⟨hv, hr, Nat.zero_le _, fun h => by simp_all⟩
  · exact ⟨hc, hr, min_le_right _ _, fun h => by simp_all⟩

/-- A clock value that a packet carries is within the range of the clock (R154, R181). -/
theorem clockValue_le (v : BitVec 48) : v.toNat ≤ Config.tickMax := by
  have := v.isLt
  unfold Config.tickMax
  omega

/-- Settles O4: the timebase stays, ticks, is set to a value of 48 bits, or takes its cold-start values. -/
theorem everyStepKeepsTheTimebaseLawful : Obligations.EveryStepKeepsTheTimebaseLawful := by
  intro s t
  refine step_preserves (P := fun s => s.time.lawful) (fun _ _ h => h) (fun c s t hs h => ?_)
  rcases exec_time h with h | h | ⟨v, h⟩ | ⟨h, _⟩ <;> simp only [h]
  · exact hs
  · exact Timebase.lawful_tick hs
  · exact Timebase.lawful_set hs (clockValue_le v)
  · exact Timebase.lawful_cold

theorem Timebase.tick_mono {t : Timebase} (h : t.lawful) :
    t.clock ≤ t.tick.clock ∧ t.run ≤ t.tick.run ∧ (t.trusted = true → t.tick.trusted = true) := by
  obtain ⟨hc, hr, _⟩ := h
  unfold Timebase.tick saturate
  dsimp only
  split_ifs
  · exact ⟨le_refl _, le_min (Nat.le_succ _) hr, id⟩
  · exact ⟨le_refl _, le_min (Nat.le_succ _) hr, id⟩
  · exact ⟨le_min (Nat.le_succ _) hc, le_min (Nat.le_succ _) hr, id⟩

theorem Timebase.set_mono {t : Timebase} (h : t.lawful) (v : Nat) :
    t.clock ≤ (t.set v).clock ∧ t.run ≤ (t.set v).run ∧ (t.trusted = true → (t.set v).trusted = true) := by
  obtain ⟨_, _, _, hu⟩ := h
  unfold Timebase.set
  split_ifs with ht hv
  · exact ⟨by simp [hu (by simpa using ht)], le_refl _, fun _ => rfl⟩
  · exact ⟨hv, le_refl _, id⟩
  · exact ⟨le_refl _, le_refl _, id⟩

/-- Settles O15: a tick and a SET CLOCK move the counts forward or leave them, and the cold values come at the two
excepted events alone. -/
theorem theClockNeverFallsBetweenColdStarts : Obligations.TheClockNeverFallsBetweenColdStarts := by
  intro c s t hs h hm hb
  rcases exec_time h with h | h | ⟨v, h⟩ | ⟨_, ⟨hub, node, rfl, h⟩ | rfl⟩
  · simp [h]
  · rw [h]; exact Timebase.tick_mono hs
  · rw [h]; exact Timebase.set_mono hs _
  · simp_all
  · exact absurd rfl hb

/-! ### The flash array -/

theorem BankFlash.lawful {f g : Flash} (h : BankFlash f g) (hf : f.lawful) : g.lawful := by
  cases h with
  | same => exact hf
  | programmed l w d => exact Flash.lawful_programmed hf l w d
  | programFailed l w => exact Flash.lawful_programFailed hf l w
  | voidMarked l => exact Flash.lawful_voidMarked hf l
  | voidFailed l => exact Flash.lawful_voidFailed hf l
  | erased l => exact Flash.lawful_erased hf l
  | eraseFailed l => exact Flash.lawful_eraseFailed hf l

/-- Settles O5: each end of a bank operation, and each cut at a loss of main power, keeps the canonical form. -/
theorem everyStepKeepsTheFlashCanonical : Obligations.EveryStepKeepsTheFlashCanonical := by
  intro s t
  refine step_preserves (P := fun s => s.flash.lawful) (fun _ _ h => h) (fun c s t hs h => ?_)
  rcases exec_flash h with h | h
  · exact h.lawful hs
  · simp only [h]
    exact foldl_preserves Flash.lawful _ (fun f k hf => Flash.lawful_cutOff hf _) _ _ hs

/-! ### The recovery unit -/

/-- What a command does to the recovery unit (R161, R162). -/
inductive RecoveryMove (r : Recovery) : Recovery → Prop where
  | same : RecoveryMove r r
  | warned : RecoveryMove r { r with pfw := true, part := if r.part = .running then .powerFail else r.part }
  | withdrawn : RecoveryMove r { r with pfw := false, part := if r.part = .powerFail then .running else r.part }
  | lost (x : Bool) : RecoveryMove r { r with part := .off, mark := r.mark && !x }
  | warmBegin (hm : r.mark = true) :
    RecoveryMove r { r with part := .starting, mark := false, lastStart := .warm }
  | coldBegin : RecoveryMove r
      { part := .rebuilding, mark := false, backup := true, pfw := r.pfw, lastStart := .cold, scanned := 0,
        warmClosed := 0, warmDiscarded := 0, warmRemoved := 0, coldRebuilt := 0, coldDropped := 0 }
  | supplyFailed (hp : r.part = .off) : RecoveryMove r
      { r with mark := false, backup := false, lastStart := .cold, scanned := 0, warmClosed := 0, warmDiscarded := 0,
               warmRemoved := 0, coldRebuilt := 0, coldDropped := 0 }
  | reconciled (hp : r.part = .starting) (c d e : Nat) : RecoveryMove r
      { r with part := r.afterStart, mark := true, warmClosed := c, warmDiscarded := d, warmRemoved := e }
  | rebuilt (hp : r.part = .rebuilding) (c d : Nat) : RecoveryMove r
      { r with part := r.afterStart, mark := true, scanned := Config.leaves, coldRebuilt := c, coldDropped := d }
  | scanned (hp : r.part = .rebuilding) (hs : r.scanned < Config.leaves) :
    RecoveryMove r { r with scanned := r.scanned + 1 }

theorem State.reconcile_move {s : State} (hp : s.recovery.part = .starting) :
    RecoveryMove s.recovery s.quiet.reconcile.recovery := by
  unfold State.reconcile
  exact .reconciled hp _ _ _

theorem State.rebuild_move {s : State} (hp : s.recovery.part = .rebuilding) :
    RecoveryMove s.recovery s.quiet.rebuild.recovery := by
  unfold State.rebuild
  exact .rebuilt hp _ _

theorem exec_recovery {c : Instr} {s t : State} (h : exec c s = .next t) : RecoveryMove s.recovery t.recovery := by
  have same : t.recovery = s.recovery → RecoveryMove s.recovery t.recovery := fun h => h ▸ .same
  rcases kind_cases c with hc | hc | hc | hc | hc | ⟨w, rfl⟩ | rfl | ⟨x, rfl⟩ | ⟨hub, node, rfl⟩ | rfl
  · exact same (exec_bodyOnly hc h).recovery
  · exact same (exec_setsTables hc h).recovery
  · exact same (exec_movesClock hc h).1.recovery
  · obtain ⟨b, f, hf, rfl⟩ := exec_endsBankWork hc h; exact .same
  · cases c
    case powerFailWarning => rw [next_eq h]; exact .warned
    case powerFailWithdrawn => rw [(execPowerFailWithdrawn_next h).2]; exact .withdrawn
    case warmStartComplete =>
      obtain ⟨hp, ht⟩ := execWarmStartComplete_next h
      rw [ht, (SameOutside.resume _).recovery]
      exact State.reconcile_move hp
    case rebuildComplete =>
      obtain ⟨hp, ht⟩ := execRebuildComplete_next h
      rw [ht, (SameOutside.resume _).recovery]
      exact State.rebuild_move hp
    case headerScanLeafRead =>
      obtain ⟨hp, hs, rfl⟩ := execHeaderScanLeafRead_next h
      exact .scanned hp hs
    all_goals cases hc
  · exact same (execBusReset_next h).2.2.1
  · rw [next_eq h]; exact .same
  · rcases execMainPowerLoss_next h with ⟨_, rfl⟩ | ⟨_, rfl⟩
    · exact .same
    · exact .lost x
  · obtain ⟨_, ⟨hm, rfl⟩ | ⟨_, rfl⟩⟩ := execMainPowerReturn_next h
    · exact .warmBegin hm
    · exact .coldBegin
  · obtain ⟨hp, rfl⟩ := execBackupSupplyFailure_next h
    exact .supplyFailed hp

theorem RecoveryMove.lawful {r q : Recovery} (h : RecoveryMove r q) (hr : r.lawful) : q.lawful := by
  obtain ⟨h1, h2, h3, h4, h5⟩ := hr
  cases h with
  | same => exact ⟨h1, h2, h3, h4, h5⟩
  | warned => by_cases hp : r.part = .running <;> simp_all [Recovery.lawful]
  | withdrawn => by_cases hp : r.part = .powerFail <;> simp_all [Recovery.lawful]
  | lost x => simp_all [Recovery.lawful]
  | warmBegin hm => simp_all [Recovery.lawful]
  | coldBegin => simp [Recovery.lawful]
  | supplyFailed hp => simp_all [Recovery.lawful]
  | reconciled hp c d e => cases hf : r.pfw <;> simp_all [Recovery.lawful, Recovery.afterStart]
  | rebuilt hp c d => cases hf : r.pfw <;> simp_all [Recovery.lawful, Recovery.afterStart]
  | scanned hp hs => simp_all [Recovery.lawful]

/-- Settles O8: each move of the recovery unit keeps part state, PFW input, mark and backup supply agreeing. -/
theorem everyStepKeepsPartStateAndMarkAgreeing : Obligations.EveryStepKeepsPartStateAndMarkAgreeing := by
  intro s t
  exact step_preserves (P := fun s => s.recovery.lawful) (fun _ _ h => h) (fun c s t hs h => (exec_recovery h).lawful hs)

end Sys2Proof.Machine
end

section
/-! The routing unit's tables: what each command does to them, and that their ranges and the agreement of node table and
node lists are kept (02_departments_and_routing.md). -/

namespace Sys2Proof.Machine

/-! ### Node table and node lists -/

section
variable (t : Tables) (n : Nat) (r : Role)

theorem Tables.role_of_nodes {t u : Tables} (h : u.nodes = t.nodes) (m : Nat) : u.role m = t.role m := by
  unfold Tables.role
  rw [h]

theorem Tables.dept_of_depts {t u : Tables} (h : u.depts = t.depts) (d : Nat) : u.dept d = t.dept d := by
  unfold Tables.dept
  rw [h]

/-- A node that leaves its department changes the department records alone. -/
theorem Tables.leaveDepartment_others :
    t.leaveDepartment n = { t with depts := (t.leaveDepartment n).depts } := by
  unfold Tables.leaveDepartment
  split <;> rfl

theorem Tables.leaveDepartment_dept (d : Nat) : (t.leaveDepartment n).dept d = { t.dept d with
    nodes := if t.role n = .department d then (t.dept d).nodes.filter (fun m => m ≠ n) else (t.dept d).nodes } := by
  unfold Tables.leaveDepartment
  split <;> rename_i h
  · rename_i e
    rw [h, Tables.setDept_dept]
    split_ifs with h1 h2 h2 <;> simp_all
  all_goals simp [h]

theorem Tables.joinDepartment_others :
    t.joinDepartment n r = { t with depts := (t.joinDepartment n r).depts } := by
  unfold Tables.joinDepartment
  split <;> rfl

theorem Tables.joinDepartment_dept (d : Nat) : (t.joinDepartment n r).dept d = { t.dept d with
    nodes := (t.dept d).nodes ++ if r = .department d then [n] else [] } := by
  unfold Tables.joinDepartment
  split
  · rename_i e
    rw [Tables.setDept_dept]
    split_ifs with h1 h2 h2 <;> simp_all
  all_goals simp

/-- The entry of a node that takes a role; every other entry stays (R26). -/
theorem Tables.enrol_role (hn : n < 32) (m : Nat) : (t.enrol n r).role m = if m = n then r else t.role m := by
  unfold Tables.enrol
  split_ifs with hr hm hm
  · rw [hm, hr]
  · rfl
  all_goals
    rw [Tables.joinDepartment_others, Tables.leaveDepartment_others]
    simp only [Tables.role, Table.read_write, hm]
    simp [hn]

/-- The node lists after a node takes a role: it leaves its old department and joins the end of the new one (R28). -/
theorem Tables.enrol_dept (d : Nat) : (t.enrol n r).dept d = if t.role n = r then t.dept d else { t.dept d with
    nodes := (if t.role n = .department d then (t.dept d).nodes.filter (fun m => m ≠ n) else (t.dept d).nodes) ++
      if r = .department d then [n] else [] } := by
  unfold Tables.enrol
  split_ifs with hr
  · rfl
  all_goals
    refine (Tables.dept_of_depts (t := (t.leaveDepartment n).joinDepartment n r) rfl d).trans ?_
    rw [Tables.joinDepartment_dept, Tables.leaveDepartment_dept]
    simp [*]

theorem Tables.enrol_others : t.enrol n r = { t with nodes := (t.enrol n r).nodes, depts := (t.enrol n r).depts } := by
  unfold Tables.enrol
  split_ifs
  · rfl
  · rw [Tables.joinDepartment_others, Tables.leaveDepartment_others]

end

section
variable (t : Tables) (hub n : Nat)

/-- The straps as read name the hub and the records node (R25). -/
theorem Tables.strap_others : t.strap hub n = { t with
    nodes := (t.strap hub n).nodes, depts := (t.strap hub n).depts, hub := hub, recordsNode := n } := by
  unfold Tables.strap
  split_ifs with h
  · rw [h]
  · rw [Tables.leaveDepartment_others]

theorem Tables.strap_same (h : n = t.recordsNode) : t.strap hub n = { t with hub := hub } := by
  unfold Tables.strap
  rw [if_pos h]

/-- Where the straps name another records node, it becomes RECORDS and the old one NONE (R25). -/
theorem Tables.strap_role (hn : n < 32) (h : n ≠ t.recordsNode) (m : Nat) :
    (t.strap hub n).role m = if m = n then .records else if m = t.recordsNode then .none else t.role m := by
  unfold Tables.strap
  rw [if_neg h, Tables.leaveDepartment_others]
  simp only [Tables.role, Table.read_write]
  by_cases hm : m < 32
  · simp [hm]
  · have : m ≠ n := by omega
    simp [hm, this]

/-- The new records node leaves its department's list (R28). -/
theorem Tables.strap_dept (h : n ≠ t.recordsNode) (d : Nat) : (t.strap hub n).dept d = { t.dept d with
    nodes := if t.role n = .department d then (t.dept d).nodes.filter (fun m => m ≠ n) else (t.dept d).nodes } := by
  unfold Tables.strap
  rw [if_neg h]
  exact (Tables.dept_of_depts (t := t.leaveDepartment n) rfl d).trans (Tables.leaveDepartment_dept t n d)

end

@[simp] theorem Tables.cold_dept (hub n d : Nat) :
    (Tables.cold hub n).dept d = if d = 0 then Dept.coldIntake else Dept.cold := by
  simp [Tables.dept, Tables.cold, Table.read]

@[simp] theorem Tables.cold_role (hub n m : Nat) :
    (Tables.cold hub n).role m = if m < 32 ∧ m = n then .records else .none := by
  simp only [Tables.role, Tables.cold, Table.read]
  split_ifs <;> simp_all
  omega

/-! ### The refusals of SET NODE -/

/-- SET NODE passes the checks of R26 exactly when the node is not the records node, the role is not RECORDS, no other
node holds the line index and the department has room. -/
theorem setNodeRefusal_none {t : Tables} {n : Nat} {r : Role} (h : setNodeRefusal t n r = none) :
    n ≠ t.recordsNode ∧ r ≠ .records ∧ (∀ i, r = .line i → ∀ m, m < 32 → m ≠ n → t.role m ≠ .line i) ∧
      ∀ d, r = .department d → t.role n ≠ .department d → (t.dept d).nodes.length < 2 := by
  unfold setNodeRefusal at h
  split_ifs at h with hn
  split at h
  · cases h
  · rename_i i
    split_ifs at h with hl
    refine ⟨hn, nofun, fun j hj m hm hmn hr => hl ?_, nofun⟩
    cases hj
    simpa [Tables.lineTaken] using ⟨m, hm, hmn, hr⟩
  · rename_i d
    split_ifs at h with hl
    refine ⟨hn, nofun, nofun, fun e he hr => ?_⟩
    cases he
    by_contra hlen
    exact hl ⟨hr, by unfold Config.departmentNodes; omega⟩
  · exact ⟨hn, nofun, nofun, nofun⟩

/-! ### What a command does to the tables -/

/-- What a command does to the tables, with what it has checked before (R25, R26, R30, R32, R33). -/
inductive TablesMove (t : Tables) : Tables → Prop where
  | same : TablesMove t t
  | enrol (n : Nat) (r : Role) (hn : n < 32) (hr : setNodeRefusal t n r = none) : TablesMove t (t.enrol n r)
  | route (i : Nat) (r : Option Route) (hr : ∀ e, r = some e → e.lawful) :
    TablesMove t { t with routes := Table.write none t.routes i r }
  | dept (d : Nat) (en : Bool) (q e p : Nat) (c : Bool) : TablesMove t (t.setDept d (storedDept t d en q e p c))
  | limits (f x : Nat) : TablesMove t { t with floor := min 8192 f, idleTimeout := clampTo 5 600 x * 64 }
  | strap (hub n : Nat) (hh : hub ≤ 3) (hn : n < 32) : TablesMove t (t.strap hub n)
  | cold (hub n : Nat) (hh : hub ≤ 3) (hn : n < 32) : TablesMove t (Tables.cold hub n)
  | lost : TablesMove t (Tables.cold t.hub t.recordsNode)

theorem State.setNode_tables (s : State) (n : Nat) (r : Role) : (s.setNode n r).tables = s.tables.enrol n r := by
  unfold State.setNode
  dsimp only
  split_ifs <;> rfl

/-- A pattern that SET ROUTE accepts has six positions, each a digit or ANY (R33). -/
theorem patternOf_lawful {v : BitVec 24} (h : (patternOf v).isSome = true) :
    ((patternOf v).getD []).length = 6 ∧ ∀ p ∈ (patternOf v).getD [], p ≤ 9 ∨ p = anyDigit := by
  have hp := (patternOf_isSome v).mp h
  unfold patternOf at h ⊢
  dsimp only at h ⊢
  split_ifs at h ⊢
  · exact ⟨by simp, by simpa [anyDigit] using hp⟩
  · cases h

theorem exec_setsTables_move {c : Instr} {s t : State} (hc : setsTables c = true) (h : exec c s = .next t) :
    TablesMove s.tables t.tables := by
  have same : t.tables = s.tables → TablesMove s.tables t.tables := fun h => h ▸ .same
  cases c
  case setNode hd node role value =>
    dsimp only [exec, execSetNode] at h
    rcases request_field (fun u => u.tables) rfl (fun _ _ _ _ => rfl) h with h | ⟨_, _, hf, h⟩
    · exact same h
    · unfold ownSetNode at h
      split at h <;> rename_i hr
      · exact same h
      · rw [h, State.setNode_tables]
        exact .enrol _ _ (by simp at hf; exact hf.1) hr
  case setRoute hd index pattern department role =>
    dsimp only [exec, execSetRoute] at h
    rcases request_field (fun u => u.tables) rfl (fun _ _ _ _ => rfl) h with h | ⟨_, _, hf, h⟩
    · exact same h
    · rw [h]
      simp only [Bool.and_eq_true] at hf
      obtain ⟨⟨⟨_, hp⟩, hd⟩, _⟩ := hf
      have hq := patternOf_lawful hp
      refine .route _ _ (fun e he => ?_)
      cases he
      exact ⟨hq.1, hq.2, by simpa [departmentInRange] using hd⟩
  case clearRoute hd index =>
    dsimp only [exec, execClearRoute] at h
    rcases request_field (fun u => u.tables) rfl (fun _ _ _ _ => rfl) h with h | ⟨_, _, _, h⟩
    · exact same h
    · rw [h]; exact .route _ none nofun
  case setDepartment =>
    dsimp only [exec, execSetDepartment] at h
    rcases request_field (fun u => u.tables) rfl (fun _ _ _ _ => rfl) h with h | ⟨_, _, _, h⟩
    · exact same h
    · rw [h]; exact .dept ..
  case setLimits =>
    dsimp only [exec, execSetLimits] at h
    rcases request_field (fun u => u.tables) rfl (fun _ _ _ _ => rfl) h with h | ⟨_, _, _, h⟩
    · exact same h
    · rw [h]; exact .limits ..
  all_goals cases hc

theorem exec_tables {c : Instr} {s t : State} (h : exec c s = .next t) : TablesMove s.tables t.tables := by
  have same : t.tables = s.tables → TablesMove s.tables t.tables := fun h => h ▸ .same
  rcases kind_cases c with hc | hc | hc | hc | hc | ⟨w, rfl⟩ | rfl | ⟨x, rfl⟩ | ⟨hub, node, rfl⟩ | rfl
  · exact same (exec_bodyOnly hc h).tables
  · exact exec_setsTables_move hc h
  · exact same (exec_movesClock hc h).1.tables
  · obtain ⟨b, f, hf, rfl⟩ := exec_endsBankWork hc h; exact .same
  · exact same (exec_startsOrWarns hc h).tables
  · exact same (execBusReset_next h).1
  · rw [next_eq h]; exact .same
  · rcases execMainPowerLoss_next h with ⟨_, rfl⟩ | ⟨_, rfl⟩
    · exact .same
    · exact same (SameOutside.endTransaction s).tables
  · have h1 := hub.isLt
    have h2 := node.isLt
    obtain ⟨_, ⟨hm, rfl⟩ | ⟨_, rfl⟩⟩ := execMainPowerReturn_next h
    · exact .strap _ _ (by omega) (by omega)
    · exact .cold _ _ (by omega) (by omega)
  · obtain ⟨hp, rfl⟩ := execBackupSupplyFailure_next h
    exact .lost

/-! ### Ranges -/

/-- A department's settings that differ in the node list alone are in range alike. -/
theorem Dept.lawful_nodes {d e : Dept} (h : d.lawful) (he : e = { d with nodes := e.nodes }) : e.lawful := by
  rw [he]
  exact h

theorem Dept.lawful_cold : Dept.cold.lawful := by simp [Dept.lawful, Dept.cold]

/-- The ranges of a table whose departments differ in their node lists alone, and whose other entries are the same. -/
theorem Tables.lawful_of_nodes {t u : Tables} (h : t.lawful)
    (hd : ∀ d, u.dept d = { t.dept d with nodes := (u.dept d).nodes }) (hr : u.routes = t.routes)
    (hf : u.floor = t.floor) (hi : u.idleTimeout = t.idleTimeout) (hh : u.hub ≤ 3) (hn : u.recordsNode ≤ 31) :
    u.lawful := by
  obtain ⟨h1, h2, h3, _, _, h6, h7, h8, h9, h10⟩ := h
  refine ⟨hf ▸ h1, hi ▸ h2, hi ▸ h3, hh, hn, fun d => Dept.lawful_nodes (h6 d) (hd d), ?_, ?_, ?_, fun i r hir => ?_⟩
  · rw [hd 0]; exact h7
  · rw [hd 0]; exact h8
  · rw [hd 0]; exact h9
  · exact h10 i r (by rw [← hir]; unfold Tables.route; rw [hr])

theorem storedDept_lawful (t : Tables) (d : Nat) (en : Bool) (q e p : Nat) (c : Bool) :
    (storedDept t d en q e p c).lawful := by
  unfold Dept.lawful
  rw [storedDept_quota, storedDept_escalation, storedDept_retention]
  split_ifs <;> omega

theorem Tables.lawful_cold {hub n : Nat} (hh : hub ≤ 3) (hn : n ≤ 31) : (Tables.cold hub n).lawful := by
  refine ⟨by simp [Tables.cold], by simp [Tables.cold], by simp [Tables.cold], hh, hn, fun d => ?_, ?_, ?_, ?_,
    fun i r hr => ?_⟩
  · rw [Tables.cold_dept]; split_ifs
    · exact Dept.lawful_cold
    · exact Dept.lawful_cold
  · rw [Tables.cold_dept]; rfl
  · rw [Tables.cold_dept]; rfl
  · rw [Tables.cold_dept]; rfl
  · cases hr

theorem TablesMove.lawful {t u : Tables} (h : TablesMove t u) (ht : t.lawful) : u.lawful := by
  have ht' := ht
  obtain ⟨h1, h2, h3, h4, h5, h6, h7, h8, h9, h10⟩ := ht'
  cases h with
  | same => exact ht
  | enrol n r hn hr =>
    have ho := Tables.enrol_others t n r
    refine Tables.lawful_of_nodes ht (fun d => ?_) ?_ ?_ ?_ ?_ ?_
    · rw [Tables.enrol_dept]; split_ifs <;> rfl
    all_goals first | (rw [ho]; done) | (rw [ho]; assumption)
  | route i r hr =>
    refine ⟨h1, h2, h3, h4, h5, h6, h7, h8, h9, fun j e he => ?_⟩
    simp only [Tables.route, Table.read_write] at he
    split_ifs at he
    · exact hr e he
    · exact h10 j e he
  | dept d en q e p c =>
    have hs := storedDept_lawful t d en q e p c
    refine ⟨h1, h2, h3, h4, h5, fun x => ?_, ?_, ?_, ?_, h10⟩
    · rw [Tables.setDept_dept]; split_ifs
      · exact hs
      · exact h6 x
    all_goals
      rw [Tables.setDept_dept]
      split_ifs with hd
      · subst hd; simp [storedDept]
      · assumption
  | limits f x =>
    have hc : 5 ≤ clampTo 5 600 x ∧ clampTo 5 600 x ≤ 600 := by unfold clampTo; omega
    exact ⟨min_le_left _ _, by dsimp only; omega, by dsimp only; omega, h4, h5, h6, h7, h8, h9, h10⟩
  | strap hub n hh hn =>
    have ho := Tables.strap_others t hub n
    by_cases h : n = t.recordsNode
    · rw [Tables.strap_same t hub n h]
      exact Tables.lawful_of_nodes ht (fun d => rfl) rfl rfl rfl hh h5
    refine Tables.lawful_of_nodes ht (fun d => ?_) ?_ ?_ ?_ ?_ ?_
    · rw [Tables.strap_dept t hub n h]
    all_goals first | (rw [ho]; done) | (rw [ho]; assumption) | (rw [ho]; dsimp only; omega)
  | cold hub n hh hn => exact Tables.lawful_cold hh (by omega)
  | lost => exact Tables.lawful_cold h4 h5

/-- Settles O6: each change of the tables keeps their ranges. -/
theorem everyStepKeepsTheTablesInRange : Obligations.EveryStepKeepsTheTablesInRange := by
  intro s t
  exact step_preserves (P := fun s => s.tables.lawful) (fun _ _ h => h) (fun c s t hs h => (exec_tables h).lawful hs)

/-! ### Agreement of node table and node lists -/

theorem Tables.agree_of {t u : Tables} (h : t.agree) (hr : u.recordsNode = t.recordsNode) (hn : u.nodes = t.nodes)
    (hd : ∀ d, (u.dept d).nodes = (t.dept d).nodes) : u.agree := by
  obtain ⟨h1, h2, h3, h4⟩ := h
  have hrole := Tables.role_of_nodes hn
  refine ⟨hr ▸ h1, fun n => ?_, fun n m i => ?_, fun d => ?_⟩
  · rw [hrole, hr]; exact h2 n
  · rw [hrole, hrole]; exact h3 n m i
  · rw [hd]; simp only [hrole]; exact h4 d

theorem Tables.agree_enrol {t : Tables} {n : Nat} {r : Role} (h : t.agree) (hn : n < 32)
    (hr : setNodeRefusal t n r = none) : (t.enrol n r).agree := by
  obtain ⟨h1, h2, h3, h4⟩ := h
  obtain ⟨hnr, hrr, hline, hdept⟩ := setNodeRefusal_none hr
  have hrec : (t.enrol n r).recordsNode = t.recordsNode := by rw [Tables.enrol_others]
  have hfar : ∀ m, ¬ m < 32 → t.role m = .none := fun m hm => by simp [Tables.role, hm]
  refine ⟨hrec ▸ h1, fun m => ?_, fun a b i ha hb => ?_, fun d => ?_⟩
  · rw [Tables.enrol_role t n r hn, hrec]
    split_ifs with hm
    · subst hm; simp [hrr, hnr]
    · exact h2 m
  · rw [Tables.enrol_role t n r hn] at ha hb
    have hlt : ∀ m, t.role m = .line i → m < 32 := fun m hm => by
      by_contra hc; simp [hfar m hc] at hm
    split_ifs at ha hb with h5 h6 h6
    · rw [h5, h6]
    · exact absurd hb (hline i ha b (hlt b hb) h6)
    · exact absurd ha (hline i hb a (hlt a ha) h5)
    · exact h3 a b i ha hb
  · obtain ⟨hnd, hlen, hmem⟩ := h4 d
    rw [Tables.enrol_dept]
    simp only [Tables.enrol_role t n r hn]
    by_cases hsame : t.role n = r
    · simp only [hsame, if_true]
      refine ⟨hnd, hlen, fun m => ?_⟩
      split_ifs with hm
      · rw [hmem, hm, hsame]
      · exact hmem m
    simp only [hsame, if_false]
    by_cases hold : t.role n = .department d
    · have hrd : r ≠ .department d := fun hc => hsame (hold.trans hc.symm)
      simp only [hold, if_true, hrd, if_false, List.append_nil]
      refine ⟨hnd.filter _, (List.length_filter_le _ _).trans hlen, fun m => ?_⟩
      by_cases hm : m = n <;> simp [hm, hrd, hmem]
    · simp only [hold, if_false]
      by_cases hrd : r = .department d
      · have hnot : n ∉ (t.dept d).nodes := fun hc => hold ((hmem n).mp hc)
        simp only [hrd, if_true]
        refine ⟨?_, ?_, fun m => ?_⟩
        · exact List.nodup_append.mpr ⟨hnd, by simp, fun a ha b hb hab => hnot (by rw [List.mem_singleton] at hb; rwa [← hb, ← hab])⟩
        · have := hdept d hrd hold
          simp [Config.departmentNodes]; omega
        · by_cases hm : m = n <;> simp [hm, hmem]
      · simp only [hrd, if_false, List.append_nil]
        refine ⟨hnd, hlen, fun m => ?_⟩
        by_cases hm : m = n <;> simp [hm, hmem, hrd, hold]

theorem Tables.agree_strap {t : Tables} {hub n : Nat} (h : t.agree) (hn : n < 32) : (t.strap hub n).agree := by
  by_cases hs : n = t.recordsNode
  · rw [Tables.strap_same t hub n hs]
    exact Tables.agree_of h rfl rfl (fun d => rfl)
  obtain ⟨h1, h2, h3, h4⟩ := h
  have hrole := Tables.strap_role t hub n hn hs
  have hrec : (t.strap hub n).recordsNode = n := by rw [Tables.strap_others]
  have hold : t.role t.recordsNode = .records := (h2 _).mpr rfl
  have hs' : t.recordsNode ≠ n := fun h => hs h.symm
  refine ⟨by rw [hrec]; exact hn, fun m => ?_, fun a b i ha hb => ?_, fun d => ?_⟩
  · rw [hrole, hrec]
    split_ifs with h5 h6
    · simp [h5]
    · simp [h5]
    · simp [h5, h2, h6]
  · rw [hrole] at ha hb
    split_ifs at ha hb
    exact h3 a b i ha hb
  · obtain ⟨hnd, hlen, hmem⟩ := h4 d
    rw [Tables.strap_dept t hub n hs]
    simp only [hrole]
    by_cases hd : t.role n = .department d
    · simp only [hd, if_true]
      refine ⟨hnd.filter _, (List.length_filter_le _ _).trans hlen, fun m => ?_⟩
      by_cases h5 : m = n
      · simp [h5]
      · by_cases h6 : m = t.recordsNode
        · simp [h6, hs', hmem, hold]
        · simp [h5, h6, hmem]
    · simp only [hd, if_false]
      refine ⟨hnd, hlen, fun m => ?_⟩
      by_cases h5 : m = n
      · simp [h5, hmem, hd]
      · by_cases h6 : m = t.recordsNode
        · simp [h6, hs', hmem, hold]
        · simp [h5, h6, hmem]

theorem Tables.agree_cold {hub n : Nat} (hn : n < 32) : (Tables.cold hub n).agree := by
  have hnodes : ∀ d, ((Tables.cold hub n).dept d).nodes = [] := fun d => by
    rw [Tables.cold_dept]; split_ifs <;> rfl
  refine ⟨hn, fun m => ?_, fun a b i ha => ?_, fun d => ?_⟩
  · rw [Tables.cold_role]
    split_ifs with h
    · simp [Tables.cold, h.2]
    · simp only [false_iff]
      intro hc
      exact h ⟨by rw [hc]; exact hn, hc⟩
  · rw [Tables.cold_role] at ha
    split_ifs at ha
  · rw [hnodes]
    refine ⟨List.nodup_nil, Nat.zero_le _, fun m => ?_⟩
    rw [Tables.cold_role]
    split_ifs <;> simp

theorem TablesMove.agree {t u : Tables} (h : TablesMove t u) (ht : t.agree) : u.agree := by
  cases h with
  | same => exact ht
  | enrol n r hn hr => exact Tables.agree_enrol ht hn hr
  | route i r hr => exact Tables.agree_of ht rfl rfl (fun d => rfl)
  | dept d en q e p c =>
    refine Tables.agree_of ht rfl rfl (fun x => ?_)
    rw [Tables.setDept_dept]
    split_ifs with hx
    · rw [storedDept_nodes, hx]
    · rfl
  | limits f x => exact Tables.agree_of ht rfl rfl (fun d => rfl)
  | strap hub n hh hn => exact Tables.agree_strap ht hn
  | cold hub n hh hn => exact Tables.agree_cold hn
  | lost => exact Tables.agree_cold ht.1

/-- Settles O7: each change of the tables keeps the node table and the departments' node lists agreeing. -/
theorem everyStepKeepsTheNodeTableAgreeing : Obligations.EveryStepKeepsTheNodeTableAgreeing := by
  intro s t
  exact step_preserves (P := fun s => s.tables.agree) (fun _ _ h => h) (fun c s t hs h => (exec_tables h).agree hs)

end Sys2Proof.Machine
end

section
/-! The bus: which transaction stands after a command, the answers of the four checks (R172, R173), the events that the
manual excludes (log 5, 21), and the packets of requests (R181). -/

namespace Sys2Proof.Machine

/-! ### The transaction after a command -/

theorem State.not_hears {s : State} : s.hears = false ↔ s.resetHeld = true ∨ s.recovery.part = .off := by
  unfold State.hears
  cases s.resetHeld <;> simp

/-- A request that the part does not hear leaves the bus without a transaction. -/
theorem request_unheard {s t : State} {h : Head} {op : Op} {formed : Role → Bool} {owner : Role → State → Taken}
    (hh : s.hears = false) (hr : request s h op formed owner = .next t) : t.txn = .none := by
  unfold request at hr
  split_ifs at hr with h1 h2
  · rw [next_eq hr]; rfl
  · simp [hh] at h2

theorem execAppend_unheard {s t : State} {h : Head} {channel : BitVec 3} {count : BitVec 9} (hh : s.hears = false)
    (hr : execAppend h channel count s = .next t) : t.txn = .none := by
  unfold execAppend at hr
  split_ifs at hr with h1 h2
  · rw [next_eq hr]; rfl
  · simp [hh] at h2

/-- A request, whatever its operation, that the part does not hear leaves the bus without a transaction. -/
theorem exec_requestOf_unheard {c : Instr} {s t : State} {h : Head} {op : Op} (hq : requestOf c = some (h, op))
    (hh : s.hears = false) (hr : exec c s = .next t) : t.txn = .none := by
  by_cases ha : op = .append
  · cases c <;> simp only [requestOf, Option.some.injEq, Prod.mk.injEq, reduceCtorEq] at hq <;>
      obtain ⟨_, rfl⟩ := hq <;> first | cases ha; done | skip
    exact execAppend_unheard hh hr
  · obtain ⟨_, _, _, he⟩ := exec_request hq ha
    rw [he] at hr
    exact request_unheard hh hr

/-- A tick and a SET CLOCK leave the transaction alone. -/
@[simp] theorem State.tick_txn (s : State) : s.tick.txn = s.txn := by
  unfold State.tick; dsimp only; split_ifs <;> rfl

@[simp] theorem State.setClock_txn (s : State) (v : Nat) : (s.setClock v).txn = s.txn := by
  unfold State.setClock; dsimp only; split_ifs <;> rfl

/-- An event that is no request leaves a bus without a transaction as it is. -/
theorem exec_event_txn {c : Instr} {s t : State} (hq : requestOf c = none) (hn : s.txn = .none)
    (hr : exec c s = .next t) : t.txn = .none := by
  cases c <;> first | (simp only [requestOf, reduceCtorEq] at hq; done) | skip
  case appendDataBlockEnd w =>
    dsimp only [exec, execAppendDataBlockEnd] at hr
    rw [hn] at hr
    rw [next_eq hr]; exact hn
  case idleExpiry =>
    dsimp only [exec, execIdleExpiry] at hr
    split_ifs at hr
    rw [next_eq hr]; exact hn
  case broadcastSetClock =>
    dsimp only [exec, execBroadcastSetClock] at hr
    split_ifs at hr <;> rw [next_eq hr] <;> simp
  case tick =>
    dsimp only [exec, execTick] at hr
    split_ifs at hr <;> rw [next_eq hr] <;> simp [hn]
  case escalation =>
    dsimp only [exec, execEscalation] at hr
    split_ifs at hr
    rw [next_eq hr]; exact hn
  case retentionDue =>
    dsimp only [exec, execRetentionDue] at hr
    split_ifs at hr <;> rw [next_eq hr] <;> exact hn
  case busReset w =>
    rcases (execBusReset_next hr).2.2.2.2.2.2 with h | ⟨h, _⟩
    · exact h
    · rw [h, hn]
  case busResetWithdrawn => rw [next_eq hr]; exact hn
  case mainPowerLoss x =>
    rcases execMainPowerLoss_next hr with ⟨_, rfl⟩ | ⟨_, rfl⟩
    · exact hn
    · exact State.endTransaction_txn s
  case mainPowerReturn hub node => obtain ⟨_, ⟨_, rfl⟩ | ⟨_, rfl⟩⟩ := execMainPowerReturn_next hr <;> exact hn
  case backupSupplyFailure => rw [(execBackupSupplyFailure_next hr).2]; exact hn
  case powerFailWarning | powerFailWithdrawn | warmStartComplete | rebuildComplete | headerScanLeafRead =>
    rw [(exec_startsOrWarns rfl hr).txn]; exact hn
  all_goals obtain ⟨b, f, _, rfl⟩ := exec_endsBankWork rfl hr; exact hn

/-- The PFW input and the two starts do not turn main power off. -/
theorem exec_startsOrWarns_off {c : Instr} {s t : State} (hc : startsOrWarns c = true) (h : exec c s = .next t)
    (ho : t.recovery.part = .off) : s.recovery.part = .off := by
  have started : s.recovery.afterStart ≠ .off := by unfold Recovery.afterStart; split_ifs <;> nofun
  cases c
  case powerFailWarning =>
    rw [next_eq h] at ho
    by_contra hp
    simp only [ite_eq_iff] at ho
    simp_all
  case powerFailWithdrawn =>
    rw [(execPowerFailWithdrawn_next h).2] at ho
    simp only [ite_eq_iff] at ho
    simp_all
  case warmStartComplete =>
    rw [(execWarmStartComplete_next h).2, (SameOutside.resume _).recovery] at ho
    unfold State.reconcile at ho
    exact absurd ho started
  case rebuildComplete =>
    rw [(execRebuildComplete_next h).2, (SameOutside.resume _).recovery] at ho
    unfold State.rebuild at ho
    exact absurd ho started
  case headerScanLeafRead => rw [(execHeaderScanLeafRead_next h).2.2] at ho; exact ho
  all_goals cases hc

/-- Where a part that heard packets comes to hear none, the transaction has ended. -/
theorem exec_deafens {c : Instr} {s t : State} (hr : exec c s = .next t) (hs : s.hears = true) (ht : t.hears = false) :
    t.txn = .none := by
  have same : t.resetHeld = s.resetHeld → (t.recovery.part = .off → s.recovery.part = .off) → t.txn = .none := by
    intro h1 h2
    rcases State.not_hears.mp ht with h | h
    · rw [State.not_hears.mpr (Or.inl (h1 ▸ h))] at hs; cases hs
    · rw [State.not_hears.mpr (Or.inr (h2 h))] at hs; cases hs
  have hheld : s.resetHeld ≠ true := fun h => by simp [State.hears, h] at hs
  have hoff : s.recovery.part ≠ .off := fun h => by simp [State.hears, h] at hs
  rcases kind_cases c with hc | hc | hc | hc | hc | ⟨w, rfl⟩ | rfl | ⟨x, rfl⟩ | ⟨hub, node, rfl⟩ | rfl
  · have k := exec_bodyOnly hc hr; exact same k.resetHeld (fun h => by rwa [k.recovery] at h)
  · have k := exec_setsTables hc hr; exact same k.resetHeld (fun h => by rwa [k.recovery] at h)
  · have k := (exec_movesClock hc hr).1; exact same k.resetHeld (fun h => by rwa [k.recovery] at h)
  · obtain ⟨b, f, _, rfl⟩ := exec_endsBankWork hc hr; exact same rfl id
  · exact same (exec_startsOrWarns hc hr).resetHeld (exec_startsOrWarns_off hc hr)
  · rcases (execBusReset_next hr).2.2.2.2.2.2 with h | ⟨_, h | h⟩
    · exact h
    · exact absurd h hheld
    · exact absurd h hoff
  · rw [next_eq hr] at ht
    rcases State.not_hears.mp ht with h | h
    · cases h
    · exact absurd h hoff
  · rcases execMainPowerLoss_next hr with ⟨h, _⟩ | ⟨_, rfl⟩
    · exact absurd h hoff
    · exact State.endTransaction_txn s
  · exact absurd (execMainPowerReturn_next hr).1 hoff
  · exact absurd (execBackupSupplyFailure_next hr).1 hoff

/-- Settles O9: a part that hears no packets starts no transaction, and one that comes to hear none ends it. -/
theorem everyStepKeepsAQuietBusUnderReset : Obligations.EveryStepKeepsAQuietBusUnderReset := by
  intro s t
  refine step_preserves (P := State.quietBus) (fun _ _ h => h) (fun c s t hs hr ht => ?_)
  cases hl : s.hears
  case true => exact exec_deafens hr hl (State.not_hears.mpr ht)
  have hn : s.txn = .none := hs (State.not_hears.mp hl)
  cases hq : requestOf c
  case none => exact exec_event_txn hq hn hr
  case some p => exact exec_requestOf_unheard hq hl hr

/-! ### The answers of the four checks -/

theorem Op.permits_iff (op : Op) (role : Role) : op.permits role = true ↔
    match op with
    | .openCall | .pageBegin | .append | .pageEnd | .closeCall => ∃ i, role = .line i
    | .release => ∃ d, role = .department d
    | .list | .describe | .read => (∃ d, role = .department d) ∨ role = .records
    | .endSession | .forward | .hold | .unhold | .setNode | .setRoute | .clearRoute | .setDepartment | .setLimits
    | .setClock => role = .records
    | .status | .unknown _ => role ≠ .none := by
  cases role <;> cases op <;> simp [Op.permits]

/-- A request met by silence: of another hub, without main power, or under bus reset. -/
theorem exec_silent {c : Instr} {s : State} {h : Head} {op : Op} (hq : requestOf c = some (h, op))
    (hf : s.txn.held = false) (hs : (!s.hears || h.target.toNat != s.tables.hub) = true) :
    exec c s = .next s.nextPacket := by
  by_cases ha : op = .append
  · cases c <;> simp only [requestOf, Option.some.injEq, Prod.mk.injEq, reduceCtorEq] at hq <;>
      obtain ⟨rfl, rfl⟩ := hq <;> first | cases ha; done | skip
    dsimp only [exec, execAppend]
    rw [if_neg (by simp [hf]), if_pos hs]
  · obtain ⟨_, _, _, he⟩ := exec_request hq ha
    rw [he]
    unfold request
    rw [if_neg (by simp [hf]), if_pos hs]

theorem countInRange_iff (c : BitVec 9) : countInRange c = true ↔ 1 ≤ c.toNat ∧ c.toNat ≤ 256 := by
  simp [countInRange]

/-- The first of the four checks that fails gives the answer of a request that is heard (R173). -/
theorem exec_checked {c : Instr} {s : State} {h : Head} {op : Op} {v : Verdict} (hq : requestOf c = some (h, op))
    (hf : s.txn.held = false) (hl : s.hears = true) (ht : h.target.toNat = s.tables.hub)
    (hc : ∀ formed : Bool, (op.permits (s.tables.role h.sender.toNat) = true →
        (formed = true ↔ fieldsInRange (s.tables.role h.sender.toNat) c)) →
      busCheck s.recovery.part (s.tables.role h.sender.toNat) op formed = some v) :
    exec c s = .next (answeredAtBus s (s.tables.role h.sender.toNat) op v) := by
  by_cases ha : op = .append
  · cases c <;> simp only [requestOf, Option.some.injEq, Prod.mk.injEq, reduceCtorEq] at hq <;>
      obtain ⟨rfl, rfl⟩ := hq <;> first | cases ha; done | skip
    rename_i channel count
    have hb := hc (countInRange count) (fun _ => countInRange_iff count)
    dsimp only [exec, execAppend]
    rw [if_neg (by simp [hf]), if_neg (by simp [hl, ht])]
    simp only [hb, answeredAtBus, if_true]
  · obtain ⟨formed, owner, hform, he⟩ := exec_request hq ha
    rw [he, request_checked hf hl ht (hc _ (hform _)), answeredAtBus, if_neg ha]

/-- Settles O17: the table of who may send what, and the four checks of R173 in their order. -/
theorem theFirstFailingBusCheckAnswers : Obligations.TheFirstFailingBusCheckAnswers := by
  refine ⟨Op.permits_iff, fun c s h op hq hf => ⟨fun hs => ?_, fun role hp hr ht hrole => ?_⟩⟩
  · refine exec_silent hq hf ?_
    rcases hs with hs | hs | hs <;> simp [State.hears, hs]
  · have hl : s.hears = true := by simp [State.hears, hp, hr]
    subst hrole
    have hne : op.permits (s.tables.role h.sender.toNat) = true → s.tables.role h.sender.toNat ≠ .none :=
      fun h => Op.ne_none_of_permits h
    refine ⟨fun h1 => exec_checked hq hf hl ht (fun formed _ => ?_),
      fun h1 h2 => exec_checked hq hf hl ht (fun formed _ => ?_),
      fun h1 h2 => exec_checked hq hf hl ht (fun formed hform => ?_),
      fun h1 h2 h3 h4 => exec_checked hq hf hl ht (fun formed hform => ?_)⟩
    · simp [busCheck, h1]
    · simp [busCheck, h1, h2]
    · have : formed = false := by
        cases formed
        · rfl
        · exact absurd ((hform h1).mp rfl) h2
      simp [busCheck, hne h1, h1, this]
    · simp [busCheck, hne h1, h1, (hform h1).mpr h2, h3, h4]

/-! ### Events that the manual excludes -/

theorem exec_busHeld {c : Instr} {s : State} {h : Head} {op : Op} (hq : requestOf c = some (h, op))
    (hf : s.txn.held = true) : exec c s = .fault .busHeld := by
  by_cases ha : op = .append
  · cases c <;> simp only [requestOf, Option.some.injEq, Prod.mk.injEq, reduceCtorEq] at hq <;>
      obtain ⟨rfl, rfl⟩ := hq <;> first | cases ha; done | skip
    dsimp only [exec, execAppend]
    rw [if_pos hf]
  · obtain ⟨_, _, _, he⟩ := exec_request hq ha
    rw [he]
    unfold request
    rw [if_pos hf]

/-- An APPEND of this session awaits its data block exactly when the transaction says so (R60). -/
theorem Transaction.appendsTo_iff {x : Transaction} {k : Nat} :
    x.appendsTo k = true ↔ ∃ a, x = .appending a ∧ a.session = k := by
  cases x <;> simp [Transaction.appendsTo]

/-- An idle expiry is due exactly when the part works, the session is open and its deadline is reached (R60). -/
theorem State.idleDue_iff {s : State} {k : Nat} : s.idleDue k = true ↔ s.recovery.part.works = true ∧
    (s.body.session k).state ≠ .idle ∧ ∃ t, (s.body.session k).deadline = some t ∧ t ≤ s.time.run := by
  unfold State.idleDue
  cases (s.body.session k).deadline <;> simp [and_assoc]

theorem PartState.works_iff {p : PartState} : p.works = true ↔ p = .running ∨ p = .powerFail := by
  cases p <;> simp [PartState.works]

theorem idleExpiry_notDue {session : BitVec 5} {s : State}
    (ha : ∀ a, s.txn = .appending a → a.session ≠ session.toNat)
    (hd : (s.recovery.part ≠ .running ∧ s.recovery.part ≠ .powerFail) ∨ (s.body.session session.toNat).state = .idle ∨
      ∀ t, (s.body.session session.toNat).deadline = some t → s.time.run < t) :
    exec (.idleExpiry session) s = .fault .notDue := by
  dsimp only [exec, execIdleExpiry]
  rw [if_neg, if_neg]
  · rw [State.idleDue_iff, PartState.works_iff]
    rintro ⟨hw, hi, t, ht, hle⟩
    rcases hd with ⟨h1, h2⟩ | hd | hd
    · exact hw.elim h1 h2
    · exact hi hd
    · exact absurd (hd t ht) (by omega)
  · rw [Transaction.appendsTo_iff]
    rintro ⟨a, h1, h2⟩
    exact ha a h1 h2

/-- The end of a bank operation that is not under way (R88). -/
theorem bankEvents_notUnderWay (k : BitVec 2) (b : Bool) (s : State) :
    ((∀ i l header, (s.body.bank k.toNat).op ≠ .program i l header) →
      exec (.programComplete k) s = .fault .notUnderWay ∧ exec (.programFail k) s = .fault .notUnderWay) ∧
    ((∀ i, (s.body.bank k.toNat).op ≠ .fetch i) → exec (.fetchComplete k) s = .fault .notUnderWay) ∧
    ((∀ l, (s.body.bank k.toNat).op ≠ .voidMark l) → exec (.voidMarkEnd k b) s = .fault .notUnderWay) ∧
    ((∀ l, (s.body.bank k.toNat).op ≠ .erase l) → exec (.eraseEnd k b) s = .fault .notUnderWay) := by
  dsimp only [exec, execProgramComplete, execProgramFail, execFetchComplete, execVoidMarkEnd, execEraseEnd]
  generalize (s.body.bank k.toNat).op = op
  cases op <;> simp

/-- Settles O19: each excluded event meets the branch of its command that faults. -/
theorem excludedEventsStop : Obligations.ExcludedEventsStop := by
  refine ⟨fun c s h op => exec_busHeld, fun sender v s hf => ?_, fun session s a ha hk => ?_,
    fun session s => idleExpiry_notDue, bankEvents_notUnderWay, fun s hp => ?_, fun s hp => ?_, fun s hp => ?_,
    fun hub node s hp => ⟨?_, ?_⟩⟩
  · dsimp only [exec, execBroadcastSetClock]
    rw [if_pos hf]
  · dsimp only [exec, execIdleExpiry]
    rw [if_pos (Transaction.appendsTo_iff.mpr ⟨a, ha, hk⟩)]
  · dsimp only [exec, execWarmStartComplete]
    rw [if_neg hp]
  · dsimp only [exec, execRebuildComplete]
    rw [if_neg hp]
  · dsimp only [exec, execHeaderScanLeafRead]
    rw [if_neg]
    rintro ⟨h1, h2⟩
    unfold Config.leaves at h2
    rcases hp with hp | hp
    · exact hp h1
    · omega
  · dsimp only [exec, execMainPowerReturn]
    rw [if_pos hp]
  · dsimp only [exec, execBackupSupplyFailure]
    rw [if_neg hp]

/-! ### Packets -/

/-- What the packet of a well-formed command carries, for every command (R181). -/
theorem packetStatement (i : Instr) : Laws.Packet.Statement i := by
  cases i
  case openCall => apply Laws.Packet.openCall
  case pageBegin => apply Laws.Packet.pageBegin
  case append => apply Laws.Packet.append
  case appendDataBlockEnd => apply Laws.Packet.appendDataBlockEnd
  case pageEnd => apply Laws.Packet.pageEnd
  case closeCall => apply Laws.Packet.closeCall
  case endSession => apply Laws.Packet.endSession
  case idleExpiry => apply Laws.Packet.idleExpiry
  case list => apply Laws.Packet.list
  case describe => apply Laws.Packet.describe
  case read => apply Laws.Packet.read
  case release => apply Laws.Packet.release
  case forward => apply Laws.Packet.forward
  case hold => apply Laws.Packet.hold
  case unhold => apply Laws.Packet.unhold
  case setNode => apply Laws.Packet.setNode
  case setRoute => apply Laws.Packet.setRoute
  case clearRoute => apply Laws.Packet.clearRoute
  case setDepartment => apply Laws.Packet.setDepartment
  case setLimits => apply Laws.Packet.setLimits
  case setClock => apply Laws.Packet.setClock
  case broadcastSetClock => apply Laws.Packet.broadcastSetClock
  case status => apply Laws.Packet.status
  case unknownOperation => apply Laws.Packet.unknownOperation
  all_goals exact fun _ _ _ _ hp => by cases hp

/-- The fields of a request packet, read back: the head and operation first, then the operation's own (R181). -/
theorem decodePacket_fields {h : Head} {op : Nat} {values : List Nat} (ho : op < 32)
    (hl : (operationWidths op).length = values.length) (hv : ∀ f ∈ (operationWidths op).zip values, f.2 < 2 ^ f.1)
    (hs : (operationWidths op).sum ≤ 112) :
    decodePacket (wordsFrom packetLength (fieldBits (headFields h op ++ (operationWidths op).zip values))) =
      decodeOperation h op values := by
  have hw : ((operationWidths op).zip values).map (fun f => f.1) = operationWidths op :=
    List.map_fst_zip (le_of_eq hl)
  have hx : ((operationWidths op).zip values).map (fun f => f.2) = values := List.map_snd_zip (le_of_eq hl.symm)
  have h1 := h.target.isLt
  have h2 := h.sender.isLt
  have hhead : ∀ f ∈ headFields h op, f.2 < 2 ^ f.1 := by
    simp only [headFields, List.mem_cons, List.not_mem_nil, or_false]
    rintro f (rfl | rfl | rfl | rfl)
    · exact h1
    · exact h2
    · exact ho
    · exact Nat.two_pow_pos 1
  have hbits : fieldBits (headFields h op ++ (operationWidths op).zip values) =
      fieldBits (headFields h op) ++ fieldBits ((operationWidths op).zip values) := List.flatMap_append ..
  have hlen : (fieldBits (headFields h op)).length = 16 := by simp [headFields]
  have hsmall : (fieldBits (headFields h op ++ (operationWidths op).zip values)).length ≤ 16 * packetLength := by
    rw [hbits, List.length_append, hlen, length_fieldBits, hw]
    unfold packetLength
    omega
  unfold decodePacket
  rw [if_neg (by simp), wordBits_wordsFrom _ _ hsmall, hbits, List.append_assoc]
  have hfirst := readFields_fieldBits (headFields h op)
    (fieldBits ((operationWidths op).zip values) ++ List.replicate (16 * packetLength -
      (fieldBits (headFields h op) ++ fieldBits ((operationWidths op).zip values)).length) false) hhead
  have hrest := readFields_fieldBits ((operationWidths op).zip values) (List.replicate (16 * packetLength -
      (fieldBits (headFields h op) ++ fieldBits ((operationWidths op).zip values)).length) false) hv
  rw [hw, hx] at hrest
  change readFields [4, 6, 5, 1] _ = [h.target.toNat, h.sender.toNat, op, 0] at hfirst
  rw [hfirst]
  dsimp only
  rw [List.drop_left' hlen, hrest]
  simp

/-- Settles O20: the fields of a packet are read back as they were written, and they name the command again. -/
theorem everyRequestPacketSpellsItsRequest : Obligations.EveryRequestPacketSpellsItsRequest := by
  intro i words hw he
  unfold encodePacket at he
  obtain ⟨⟨h, op, values⟩, hp, rfl⟩ := Option.map_eq_some_iff.mp he
  obtain ⟨ho, hl, hv, hs, hd⟩ := packetStatement i hw h op values hp
  refine ⟨by simp [packetLength], ?_⟩
  rw [decodePacket_fields ho hl hv hs, hd]

/-! ### STATUS, unknown operations and the completions of the starts -/

/-- STATUS and an unknown operation pass the checks of R173 for every enrolled sender while the part has power. -/
theorem request_statusOrUnknown {s : State} {h : Head} {op : Op} {formed : Role → Bool} {owner : Role → State → Taken}
    (hf : s.txn.held = false) (hr : s.resetHeld = false) (hp : s.recovery.part ≠ .off)
    (ht : h.target.toNat = s.tables.hub)
    (hc : busCheck s.recovery.part (s.tables.role h.sender.toNat) op (formed (s.tables.role h.sender.toNat)) = none) :
    request s h op formed owner =
      .next ((owner (s.tables.role h.sender.toNat) s.nextPacket).state.reply (s.tables.role h.sender.toNat) op
        (owner (s.tables.role h.sender.toNat) s.nextPacket).verdict
        (owner (s.tables.role h.sender.toNat) s.nextPacket).block) := by
  have hl : s.hears = true := by simp [State.hears, hp, hr]
  unfold request
  rw [if_neg (by simp [hf]), if_neg (by simp [hl, ht])]
  simp only [hc]

theorem exec_status {s : State} {h : Head} {role : Role} (hf : s.txn.held = false) (hr : s.resetHeld = false)
    (hp : s.recovery.part ≠ .off) (ht : h.target.toNat = s.tables.hub) (hrole : s.tables.role h.sender.toNat = role)
    (hn : role ≠ .none) : exec (.status h) s =
      .next (answered { s with sent := none } role .status .plain (.reading s.nextPacket.reading)) := by
  subst hrole
  have hperm : Op.status.permits (s.tables.role h.sender.toNat) = true := (Op.permits_iff _ _).mpr hn
  dsimp only [exec, execStatus]
  rw [request_statusOrUnknown hf hr hp ht (by simp [busCheck, hn, hperm])]
  rfl

theorem exec_unknownOperation {s : State} {h : Head} {role : Role} (hf : s.txn.held = false) (hr : s.resetHeld = false)
    (hp : s.recovery.part ≠ .off) (ht : h.target.toNat = s.tables.hub) (hrole : s.tables.role h.sender.toNat = role)
    (hn : role ≠ .none) (code : BitVec 5) : exec (.unknownOperation h code) s =
      .next (State.reply { s with sent := none } role (.unknown code.toNat) (.denied .malformed) .none) := by
  subst hrole
  have hl : s.hears = true := by simp [State.hears, hp, hr]
  have hperm : (Op.unknown code.toNat).permits (s.tables.role h.sender.toNat) = true := (Op.permits_iff _ _).mpr hn
  rw [exec_checked (op := .unknown code.toNat) (v := .denied .malformed) rfl hf hl ht (fun formed hform => ?_)]
  · rfl
  · have : formed = false := by
      cases formed
      · rfl
      · exact ((hform hperm).mp rfl).elim
    simp [busCheck, hn, hperm, this]

/-- Settles O45: STATUS and an unknown operation pass their checks, and each start leaves by its own completion. -/
theorem statusAndTheStartsComplete : Obligations.StatusAndTheStartsComplete := by
  refine ⟨fun s h role hf hr hp ht hrole hn => ⟨⟨_, exec_status hf hr hp ht hrole hn⟩,
    exec_unknownOperation hf hr hp ht hrole hn⟩, fun c s hc => ?_⟩
  have done : ∀ u : State, u.recovery.mark = true → u.recovery.part = s.recovery.afterStart →
      u = { s with body := u.body, recovery := u.recovery, sent := none } →
      u.resume.recovery.mark = true ∧
        u.resume.recovery.part = (if s.recovery.pfw then .powerFail else .running) ∧
        u.resume = { s with body := u.resume.body, recovery := u.resume.recovery, sent := none } := by
    intro u h1 h2 h3
    have hrec := (SameOutside.resume u).recovery
    have hres : u.resume = { u with body := u.resume.body } := by unfold State.resume; dsimp only; split_ifs <;> rfl
    refine ⟨hrec ▸ h1, hrec ▸ h2, ?_⟩
    rw [hrec, hres, h3]
  rcases hc with ⟨rfl, hp⟩ | ⟨rfl, hp⟩
  · refine ⟨s.quiet.reconcile.resume, ?_, done s.quiet.reconcile ?_ ?_ ?_⟩
    · dsimp only [exec, execWarmStartComplete]; rw [if_pos hp]
    all_goals dsimp only [State.reconcile, State.quiet]
  · refine ⟨s.quiet.rebuild.resume, ?_, done s.quiet.rebuild ?_ ?_ ?_⟩
    · dsimp only [exec, execRebuildComplete]; rw [if_pos hp]
    all_goals dsimp only [State.rebuild, State.quiet]

end Sys2Proof.Machine
end

section
/-! The allocation rule (R84), the routing of a call (R34 to R38), apportionment (R109), and the admission of a call
(R46, R47). -/

namespace Sys2Proof.Machine

/-! ### Allocation -/

theorem Body.allocationBank_none (b : Body) : b.allocationBank = none ↔ ∀ k, k < 4 → (b.bank k).blank = [] := by
  have hz : b.deviceBlank = 0 ↔ ∀ k, k < 4 → (b.bank k).blank = [] := by
    simp only [Body.deviceBlank, Body.blankCount, Nat.add_eq_zero_iff, List.length_eq_zero_iff]
    constructor
    · rintro ⟨⟨⟨h0, h1⟩, h2⟩, h3⟩ k hk
      obtain rfl | rfl | rfl | rfl : k = 0 ∨ k = 1 ∨ k = 2 ∨ k = 3 := by omega
      all_goals assumption
    · intro h
      exact ⟨⟨⟨h 0 (by omega), h 1 (by omega)⟩, h 2 (by omega)⟩, h 3 (by omega)⟩
  rw [← hz]
  unfold Body.allocationBank
  split_ifs with h <;> simp [h]

/-- `best` has the greatest count of the banks below `k`, and is the lowest of several. -/
def Body.FullestBelow (b : Body) (k best : Nat) : Prop :=
  best < k ∧ ∀ j, j < k → b.blankCount j ≤ b.blankCount best ∧ (j < best → b.blankCount j < b.blankCount best)

theorem Body.FullestBelow.next {b : Body} {k best : Nat} (h : b.FullestBelow k best) :
    b.FullestBelow (k + 1) (if b.blankCount best < b.blankCount k then k else best) := by
  obtain ⟨hlt, hmost⟩ := h
  split_ifs with hk
  · refine ⟨by omega, fun j hj => ?_⟩
    rcases Nat.lt_succ_iff_lt_or_eq.1 hj with hj | rfl
    · have := (hmost j hj).1; omega
    · omega
  · refine ⟨by omega, fun j hj => ?_⟩
    rcases Nat.lt_succ_iff_lt_or_eq.1 hj with hj | rfl
    · exact hmost j hj
    · omega

/-- The allocation rule names the bank with the most BLANK leaves, the lowest-numbered of several (R84). -/
theorem Body.allocationBank_some {b : Body} {k : Nat} (h : b.allocationBank = some k) :
    k < 4 ∧ ∀ j, j < 4 → (b.bank j).blank.length ≤ (b.bank k).blank.length ∧
      (j < k → (b.bank j).blank.length < (b.bank k).blank.length) := by
  have first : b.FullestBelow 1 0 := ⟨Nat.one_pos, fun j hj => by
    obtain rfl : j = 0 := by omega
    exact ⟨Nat.le_refl _, fun h => absurd h (Nat.lt_irrefl 0)⟩⟩
  unfold Body.allocationBank at h
  split_ifs at h
  rw [← Option.some.inj h]
  exact first.next.next.next

/-- The bank that the allocation rule names has a BLANK leaf. -/
theorem Body.allocationBank_blank {b : Body} {k : Nat} (h : b.allocationBank = some k) : (b.bank k).blank ≠ [] := by
  intro he
  obtain ⟨_, hmost⟩ := Body.allocationBank_some h
  have hn : b.allocationBank = none := (Body.allocationBank_none b).2 fun j hj => by
    have := (hmost j hj).1
    rw [he] at this
    exact List.length_eq_zero_iff.1 (Nat.le_zero.1 this)
  rw [hn] at h
  cases h

theorem Body.nextLeaf_some {b : Body} {l : Nat} (h : b.nextLeaf = some l) :
    ∃ k, b.allocationBank = some k ∧ (b.bank k).blank.head? = some l := by
  unfold Body.nextLeaf at h
  exact Option.bind_eq_some_iff.1 h

theorem Body.nextLeaf_none (b : Body) : b.nextLeaf = none ↔ b.allocationBank = none := by
  unfold Body.nextLeaf
  cases hk : b.allocationBank with
  | none => simp
  | some k => simpa using Body.allocationBank_blank hk

/-- Settles O23. -/
theorem allocationTakesTheFullestBank : Obligations.AllocationTakesTheFullestBank := by
  intro b
  refine ⟨(b.nextLeaf_none).trans b.allocationBank_none, fun l h => ?_⟩
  obtain ⟨k, hk, hl⟩ := Body.nextLeaf_some h
  obtain ⟨hlt, hmost⟩ := Body.allocationBank_some hk
  exact ⟨k, hlt, hl, hmost⟩

/-! ### Apportionment -/

@[simp] theorem apportion_length (share extra : Nat) (os : List Obligation) :
    (apportion share extra os).length = os.length := by
  induction os generalizing extra with
  | nil => cases extra <;> rfl
  | cons o os ih => cases extra <;> simp [apportion, ih]

theorem apportion_charges (share extra : Nat) (os : List Obligation) :
    (apportion share extra os).map (fun o => o.charge) =
      (List.range os.length).map (fun j => share + if j < extra then 1 else 0) := by
  induction os generalizing extra with
  | nil => cases extra <;> rfl
  | cons o os ih =>
    cases extra with
    | zero => simp [apportion, ih, List.range_succ_eq_map, Function.comp_def]
    | succ e => simp [apportion, ih, List.range_succ_eq_map, Function.comp_def]

/-- Each obligation keeps all but its charge. -/
theorem apportion_map {β : Type} (f : Obligation → β) (hf : ∀ o c, f { o with charge := c } = f o) (share extra : Nat)
    (os : List Obligation) : (apportion share extra os).map f = os.map f := by
  induction os generalizing extra with
  | nil => cases extra <;> rfl
  | cons o os ih => cases extra <;> simp [apportion, ih, hf]

theorem sum_shares (share extra k : Nat) :
    ((List.range k).map (fun j => share + if j < extra then 1 else 0)).sum = k * share + min extra k := by
  induction k with
  | zero => simp
  | succ k ih =>
    rw [List.range_succ, List.map_append, List.sum_append, ih, Nat.succ_mul]
    simp only [List.map_cons, List.map_nil, List.sum_cons, List.sum_nil]
    split_ifs <;> omega

theorem Document.apportioned_sum {d : Document} (h : d.obligations ≠ []) :
    (d.apportioned.map (fun o => o.charge)).sum = d.leafCount := by
  have hpos : 0 < d.obligations.length := List.length_pos_iff.2 h
  have hmod := Nat.mod_lt d.leafCount hpos
  have hdiv := Nat.div_add_mod d.leafCount d.obligations.length
  unfold Document.apportioned
  rw [apportion_charges, sum_shares, Nat.min_eq_left hmod.le, hdiv]

/-- Settles O30. -/
theorem apportionmentSharesTheLeafCount : Obligations.ApportionmentSharesTheLeafCount := by
  intro d h
  exact ⟨apportion_charges _ _ _, Document.apportioned_sum h, apportion_map _ (fun _ _ => rfl) _ _ _⟩

end Sys2Proof.Machine
end

section
/-! The first obligation list of a call: the copies that follow the lead, the route entries that match, and the primary
among them (R34 to R38). -/

namespace Sys2Proof.Machine

/-! ### The copies -/

/-- What stands behind a list of leads once copies have been added from a list of departments (R37). -/
structure CopiesAdded (listed : List (Nat × ObKind)) (depts : List Nat) (copies : List Nat) : Prop where
  added : addCopies listed depts = listed ++ copies.map (fun d => (d, ObKind.copy))
  members : ∀ d, d ∈ copies ↔ d ∈ depts ∧ d ∉ listed.map (fun e => e.1)
  order : copies.Pairwise (fun d e => depts.idxOf d < depts.idxOf e)

theorem addCopies_snoc (listed : List (Nat × ObKind)) (depts : List Nat) (d : Nat) :
    addCopies listed (depts ++ [d]) =
      if d ∈ (addCopies listed depts).map (fun e => e.1) then addCopies listed depts
      else addCopies listed depts ++ [(d, .copy)] := by
  have hmem : (addCopies listed depts).any (fun e => e.1 == d) = true ↔
      d ∈ (addCopies listed depts).map (fun e => e.1) := by
    simp only [List.any_eq_true, beq_iff_eq, List.mem_map]
  unfold addCopies at *
  rw [List.foldl_append]
  simp only [List.foldl_cons, List.foldl_nil]
  by_cases h : d ∈ (depts.foldl (fun acc d => if acc.any (fun e => e.1 == d) then acc else acc ++ [(d, ObKind.copy)])
      listed).map (fun e => e.1)
  · rw [if_pos h, if_pos (hmem.2 h)]
  · rw [if_neg h, if_neg (fun hc => h (hmem.1 hc))]

theorem CopiesAdded.snoc_listed {listed : List (Nat × ObKind)} {depts copies : List Nat} {d : Nat}
    (h : CopiesAdded listed depts copies) (hd : d ∈ listed.map (fun e => e.1) ∨ d ∈ copies) :
    CopiesAdded listed (depts ++ [d]) copies := by
  refine ⟨?_, fun x => ?_, ?_⟩
  · rw [addCopies_snoc, if_pos, h.added]
    rw [h.added]
    simpa [Function.comp_def] using hd
  · rw [h.members, List.mem_append, List.mem_singleton]
    constructor
    · rintro ⟨hx, hl⟩; exact ⟨Or.inl hx, hl⟩
    · rintro ⟨hx | rfl, hl⟩
      · exact ⟨hx, hl⟩
      · exact ⟨((h.members x).1 (hd.resolve_left hl)).1, hl⟩
  · refine h.order.imp_of_mem fun {x y} hx hy hxy => ?_
    rwa [List.idxOf_append_of_mem ((h.members x).1 hx).1, List.idxOf_append_of_mem ((h.members y).1 hy).1]

theorem CopiesAdded.snoc_fresh {listed : List (Nat × ObKind)} {depts copies : List Nat} {d : Nat}
    (h : CopiesAdded listed depts copies) (hl : d ∉ listed.map (fun e => e.1)) (hc : d ∉ copies) :
    CopiesAdded listed (depts ++ [d]) (copies ++ [d]) := by
  have hd : d ∉ depts := fun hd => hc ((h.members d).2 ⟨hd, hl⟩)
  have before : ∀ x ∈ copies, (depts ++ [d]).idxOf x = depts.idxOf x :=
    fun x hx => List.idxOf_append_of_mem ((h.members x).1 hx).1
  refine ⟨?_, fun x => ?_, ?_⟩
  · rw [addCopies_snoc, if_neg, h.added]
    · simp
    · rw [h.added]
      simp only [List.map_append, List.map_map, List.mem_append, Function.comp_def, List.map_id']
      exact fun hm => hm.elim hl hc
  · simp only [List.mem_append, List.mem_singleton, h.members]
    constructor
    · rintro (⟨hx, hxl⟩ | rfl)
      · exact ⟨Or.inl hx, hxl⟩
      · exact ⟨Or.inr rfl, hl⟩
    · rintro ⟨hx | rfl, hxl⟩
      · exact Or.inl ⟨hx, hxl⟩
      · exact Or.inr rfl
  · refine List.pairwise_append.2 ⟨?_, List.pairwise_singleton _ _, ?_⟩
    · exact h.order.imp_of_mem fun {x y} hx hy hxy => by rwa [before x hx, before y hy]
    · intro x hx y hy
      rw [List.mem_singleton] at hy
      subst hy
      rw [before x hx, List.idxOf_append_of_notMem hd]
      have := List.idxOf_lt_length_of_mem ((h.members x).1 hx).1
      omega

theorem exists_copiesAdded (listed : List (Nat × ObKind)) (depts : List Nat) :
    ∃ copies, CopiesAdded listed depts copies := by
  induction depts using List.reverseRecOn with
  | nil => exact ⟨[], by simp [addCopies], by simp, List.Pairwise.nil⟩
  | append_singleton depts d ih =>
    obtain ⟨copies, h⟩ := ih
    by_cases hd : d ∈ listed.map (fun e => e.1) ∨ d ∈ copies
    · exact ⟨copies, h.snoc_listed hd⟩
    · exact ⟨copies ++ [d], h.snoc_fresh (fun h => hd (Or.inl h)) (fun h => hd (Or.inr h))⟩

theorem CopiesAdded.nodup {listed : List (Nat × ObKind)} {depts copies : List Nat} (h : CopiesAdded listed depts copies)
    (hl : (listed.map (fun e => e.1)).Nodup) : (listed.map (fun e => e.1) ++ copies).Nodup := by
  refine List.nodup_append.2 ⟨hl, h.order.imp fun hxy => ?_, ?_⟩
  · rintro rfl; exact Nat.lt_irrefl _ hxy
  · rintro x hx y hy rfl
    exact ((h.members x).1 hy).2 hx

/-! ### The lead -/

theorem leads_none {t : Tables} {ext : Option (List Nat)} (h : t.primary ext = none) (b : Body) :
    leads t b ext = [(0, .unrouted)] := by unfold leads; rw [h]

theorem leads_intake {t : Tables} {ext : Option (List Nat)} (h : t.primary ext = some 0) (b : Body) :
    leads t b ext = [(0, .primary)] := by unfold leads; rw [h]; rfl

theorem leads_some {t : Tables} {ext : Option (List Nat)} {d : Nat} (h : t.primary ext = some d) (hd : d ≠ 0) (b : Body) :
    leads t b ext = if b.account d < (t.dept d).quota then [(d, .primary)] else [(0, .overflow), (d, .copy)] := by
  unfold leads
  cases d with
  | zero => exact absurd rfl hd
  | succ d => rw [h]; rfl

theorem leads_nodup (t : Tables) (b : Body) (ext : Option (List Nat)) : ((leads t b ext).map (fun e => e.1)).Nodup := by
  cases h : t.primary ext with
  | none => simp [leads_none h]
  | some d =>
    by_cases hd : d = 0
    · subst hd; simp [leads_intake h]
    · rw [leads_some h hd]
      split_ifs
      · simp
      · simp [Ne.symm hd]

/-- Every call has a lead. -/
theorem leads_ne_nil (t : Tables) (b : Body) (ext : Option (List Nat)) : leads t b ext ≠ [] := by
  cases h : t.primary ext with
  | none => simp [leads_none h]
  | some d =>
    by_cases hd : d = 0
    · subst hd; simp [leads_intake h]
    · rw [leads_some h hd]; split_ifs <;> simp

/-! ### The list -/

theorem firstList_pairs (t : Tables) (b : Body) (run : Nat) (ext : Option (List Nat)) :
    (firstList t b run ext).map (fun o => (o.department, o.kind)) = addCopies (leads t b ext) (t.copies ext) := by
  simp [firstList, Obligation.fresh, Function.comp_def]

theorem firstList_departments (t : Tables) (b : Body) (run : Nat) (ext : Option (List Nat)) :
    (firstList t b run ext).map (fun o => o.department) =
      (addCopies (leads t b ext) (t.copies ext)).map (fun e => e.1) := by
  simp [firstList, Obligation.fresh, Function.comp_def]

theorem firstList_nodup (t : Tables) (b : Body) (run : Nat) (ext : Option (List Nat)) :
    ((firstList t b run ext).map (fun o => o.department)).Nodup := by
  obtain ⟨copies, h⟩ := exists_copiesAdded (leads t b ext) (t.copies ext)
  rw [firstList_departments, h.added]
  simpa [Function.comp_def] using h.nodup (leads_nodup t b ext)

theorem firstList_ne_nil (t : Tables) (b : Body) (run : Nat) (ext : Option (List Nat)) : firstList t b run ext ≠ [] := by
  obtain ⟨copies, h⟩ := exists_copiesAdded (leads t b ext) (t.copies ext)
  intro hn
  have := firstList_pairs t b run ext
  rw [hn, h.added] at this
  simp [leads_ne_nil] at this

theorem firstList_fresh {t : Tables} {b : Body} {run : Nat} {ext : Option (List Nat)} {o : Obligation}
    (h : o ∈ firstList t b run ext) :
    o.state = .pending ∧ o.created = run ∧ o.deadline = none ∧ o.escalated = false ∧ o.charge = 0 := by
  obtain ⟨e, _, rfl⟩ := List.mem_map.1 h
  exact ⟨rfl, rfl, rfl, rfl, rfl⟩

/-- The departments whose copies are added, entry by entry (R37). -/
theorem Tables.copies_eq (t : Tables) (ext : Option (List Nat)) :
    t.copies ext = (List.range 64).filterMap (fun i => match t.route i with
        | some r => if r.role = .copy ∧ t.matches ext r = true then some r.department else none
        | none => none) ++
      (List.range 16).filter (fun d => (t.dept d).enabled && (t.dept d).copyAll) := by
  unfold Tables.copies Tables.matching
  rw [List.map_filterMap]
  congr 2
  funext i
  cases t.route i with
  | none => rfl
  | some r => by_cases h : r.role = .copy ∧ t.matches ext r = true <;> simp_all [Option.filter]

/-! ### Matching -/

theorem zip_all_digitMatches (p ds : List Nat) (n : Nat) (hp : p.length = n) (hd : ds.length = n) :
    (p.zip ds).all (fun x => digitMatches x.1 x.2) = true ↔
      ∀ j, j < n → p.getD j 0 = 14 ∨ p.getD j 0 = ds.getD j 0 := by
  induction n generalizing p ds with
  | zero => simp [List.length_eq_zero_iff.1 hp]
  | succ n ih =>
    obtain ⟨x, p, rfl⟩ := List.exists_cons_of_length_eq_add_one hp
    obtain ⟨y, ds, rfl⟩ := List.exists_cons_of_length_eq_add_one hd
    have := ih p ds (by simpa using hp) (by simpa using hd)
    rw [List.zip_cons_cons, List.all_cons, Bool.and_eq_true, this]
    constructor
    · rintro ⟨hx, hrest⟩ j hj
      cases j with
      | zero => simpa [digitMatches, anyDigit] using hx
      | succ j => simpa using hrest j (by omega)
    · intro h
      exact ⟨by simpa [digitMatches, anyDigit] using h 0 (by omega), fun j hj => by simpa using h (j + 1) (by omega)⟩

theorem Tables.matches_iff (t : Tables) (ds : List Nat) (r : Route) (hp : r.pattern.length = 6) (hd : ds.length = 6) :
    t.matches (some ds) r = true ↔ (t.dept r.department).enabled = true ∧
      ∀ j, j < 6 → r.pattern.getD j 0 = 14 ∨ r.pattern.getD j 0 = ds.getD j 0 := by
  unfold Tables.matches
  rw [Bool.and_eq_true, zip_all_digitMatches _ _ 6 hp hd]

/-! ### The primary -/

/-- The better of a primary found so far and another: the one of higher specificity, else the earlier. -/
def betterRoute (best : Option Route) (r : Route) : Option Route :=
  match best with
  | some b => if b.specificity < r.specificity then some r else best
  | none => some r

/-- `r` stands at `i`, the first entry of highest specificity below `n`. -/
def BestBelow (f : Nat → Option Route) (n i : Nat) (r : Route) : Prop :=
  i < n ∧ f i = some r ∧
    ∀ j q, j < n → f j = some q → q.specificity < r.specificity ∨ (q.specificity = r.specificity ∧ i ≤ j)

theorem BestBelow.unique {f : Nat → Option Route} {n i j : Nat} {r q : Route} (hr : BestBelow f n i r)
    (hq : BestBelow f n j q) : r = q := by
  obtain ⟨hi, hfi, hbest⟩ := hr
  obtain ⟨hj, hfj, hbest'⟩ := hq
  have hij : i = j := by
    rcases hbest j q hj hfj with h | ⟨h, h1⟩ <;> rcases hbest' i r hi hfi with h' | ⟨h', h2⟩ <;> omega
  rw [hij, hfj] at hfi
  exact (Option.some.inj hfi).symm

theorem foldl_betterRoute (f : Nat → Option Route) (n : Nat) :
    (((List.range n).filterMap f).foldl betterRoute none = none ∧ ∀ i, i < n → f i = none) ∨
      ∃ r i, ((List.range n).filterMap f).foldl betterRoute none = some r ∧ BestBelow f n i r := by
  induction n with
  | zero => exact Or.inl ⟨rfl, fun i hi => absurd hi (Nat.not_lt_zero i)⟩
  | succ n ih =>
    rw [List.range_succ, List.filterMap_append, List.foldl_append]
    cases hfn : f n with
    | none =>
      rw [List.filterMap_cons_none hfn, List.filterMap_nil, List.foldl_nil]
      have old : ∀ j q, j < n + 1 → f j = some q → j < n := fun j q hj hq => by
        rcases Nat.lt_succ_iff_lt_or_eq.1 hj with h | rfl
        · exact h
        · rw [hfn] at hq; cases hq
      rcases ih with ⟨h, hall⟩ | ⟨r, i, h, hi, hfi, hbest⟩
      · refine Or.inl ⟨h, fun j hj => ?_⟩
        rcases Nat.lt_succ_iff_lt_or_eq.1 hj with hj | rfl
        · exact hall j hj
        · exact hfn
      · exact Or.inr ⟨r, i, h, by omega, hfi, fun j q hj hq => hbest j q (old j q hj hq) hq⟩
    | some r =>
      rw [List.filterMap_cons_some hfn, List.filterMap_nil, List.foldl_cons, List.foldl_nil]
      refine Or.inr ?_
      rcases ih with ⟨h, hall⟩ | ⟨b, i, h, hi, hfi, hbest⟩
      · refine ⟨r, n, by rw [h]; rfl, by omega, hfn, fun j q hj hq => ?_⟩
        rcases Nat.lt_succ_iff_lt_or_eq.1 hj with hj | rfl
        · rw [hall j hj] at hq; cases hq
        · rw [hfn] at hq; cases hq; exact Or.inr ⟨rfl, Nat.le_refl _⟩
      · rw [h]
        by_cases hlt : b.specificity < r.specificity
        · refine ⟨r, n, by simp [betterRoute, hlt], by omega, hfn, fun j q hj hq => ?_⟩
          rcases Nat.lt_succ_iff_lt_or_eq.1 hj with hj | rfl
          · rcases hbest j q hj hq with h | ⟨h, _⟩ <;> left <;> omega
          · rw [hfn] at hq; cases hq; exact Or.inr ⟨rfl, Nat.le_refl _⟩
        · refine ⟨b, i, by simp [betterRoute, hlt], by omega, hfi, fun j q hj hq => ?_⟩
          rcases Nat.lt_succ_iff_lt_or_eq.1 hj with hj | rfl
          · exact hbest j q hj hq
          · rw [hfn] at hq; cases hq; omega

/-- The primary is a matching PRIMARY entry of highest specificity, and of these the lowest index (R35). -/
theorem Tables.primary_iff (t : Tables) (ext : Option (List Nat)) (d : Nat) :
    t.primary ext = some d ↔
      ∃ i r, i < 64 ∧ t.route i = some r ∧ r.role = .primary ∧ t.matches ext r = true ∧ r.department = d ∧
        ∀ j q, j < 64 → t.route j = some q → q.role = .primary → t.matches ext q = true →
          q.specificity < r.specificity ∨ (q.specificity = r.specificity ∧ i ≤ j) := by
  let f : Nat → Option Route := fun i => (t.route i).filter (fun r => r.role == .primary && t.matches ext r)
  have hf : ∀ i r, f i = some r ↔ t.route i = some r ∧ r.role = .primary ∧ t.matches ext r = true := fun i r => by
    simp [f, Option.filter_eq_some_iff]
  have hp : t.primary ext = (((List.range 64).filterMap f).foldl betterRoute none).map (fun r => r.department) := rfl
  have hbest : ∀ i r, BestBelow f 64 i r ↔ i < 64 ∧ t.route i = some r ∧ r.role = .primary ∧ t.matches ext r = true ∧
      ∀ j q, j < 64 → t.route j = some q → q.role = .primary → t.matches ext q = true →
        q.specificity < r.specificity ∨ (q.specificity = r.specificity ∧ i ≤ j) := fun i r => by
    unfold BestBelow
    simp only [hf]
    exact ⟨fun ⟨h, ⟨h1, h2, h3⟩, h4⟩ => ⟨h, h1, h2, h3, fun j q hj a b c => h4 j q hj ⟨a, b, c⟩⟩,
      fun ⟨h, h1, h2, h3, h4⟩ => ⟨h, ⟨h1, h2, h3⟩, fun j q hj ⟨a, b, c⟩ => h4 j q hj a b c⟩⟩
  rw [hp]
  constructor
  · intro h
    obtain ⟨r, hr, rfl⟩ := Option.map_eq_some_iff.1 h
    rcases foldl_betterRoute f 64 with ⟨h0, _⟩ | ⟨q, i, hq, hb⟩
    · rw [h0] at hr; cases hr
    · obtain rfl : q = r := Option.some.inj (hq.symm.trans hr)
      obtain ⟨h1, h2, h3, h4, h5⟩ := (hbest i q).1 hb
      exact ⟨i, q, h1, h2, h3, h4, rfl, h5⟩
  · rintro ⟨i, r, h1, h2, h3, h4, rfl, h5⟩
    have hb := (hbest i r).2 ⟨h1, h2, h3, h4, h5⟩
    rcases foldl_betterRoute f 64 with ⟨_, h0⟩ | ⟨q, j, hq, hb'⟩
    · exact absurd (h0 i h1) (by rw [hb.2.1]; simp)
    · rw [hq, hb.unique hb']; rfl

/-- Settles O22. -/
theorem theFirstObligationListFollowsRoutesAndQuotas : Obligations.TheFirstObligationListFollowsRoutesAndQuotas := by
  refine ⟨fun t b run ext => ?_, fun _ _ => rfl, fun t ds r => t.matches_iff ds r, fun t ext d => t.primary_iff ext d⟩
  obtain ⟨copies, h⟩ := exists_copiesAdded (leads t b ext) (t.copies ext)
  intro list wanted
  have hw : wanted = t.copies ext := (t.copies_eq ext).symm
  rw [hw]
  refine ⟨leads t b ext, copies, (firstList_pairs t b run ext).trans h.added, fun hp => leads_none hp b,
    fun hp => leads_intake hp b, fun d hp hd hq => ?_, fun d hp hd hq => ?_, h.members, h.order,
    firstList_nodup t b run ext, fun o ho => firstList_fresh ho⟩
  · rw [leads_some hp hd, if_pos hq]
  · rw [leads_some hp hd, if_neg (Nat.not_lt.2 hq)]

end Sys2Proof.Machine
end

section
/-! Requests of a line node that reach their owner: how the deadline moves, what a new leaf slot finds, and the calls and
pages that begin (R45 to R50). -/

namespace Sys2Proof.Machine

/-! ### Equality of records, field by field -/

theorem Body.eq_of_fields {b c : Body} (h1 : b.sessions = c.sessions) (h2 : b.buffers = c.buffers)
    (h3 : b.ready = c.ready) (h4 : b.windows = c.windows) (h5 : b.leaves = c.leaves) (h6 : b.banks = c.banks)
    (h7 : b.purges = c.purges) (h8 : b.catalog = c.catalog) (h9 : b.nextSerial = c.nextSerial)
    (h10 : b.accounts = c.accounts) (h11 : b.attention = c.attention) (h12 : b.draws = c.draws) : b = c := by
  cases b; cases c; simp_all

/-! ### The first number that meets a test -/

theorem firstFrom_none {p : Nat → Bool} {fuel start : Nat} :
    firstFrom p fuel start = none ↔ ∀ m, start ≤ m → m < start + fuel → p m = false := by
  induction fuel generalizing start with
  | zero => exact ⟨fun _ m h1 h2 => by omega, fun _ => rfl⟩
  | succ fuel ih =>
    unfold firstFrom
    by_cases hp : p start = true
    · simp only [hp, if_true, reduceCtorEq, false_iff, not_forall]
      exact ⟨start, Nat.le_refl _, by omega, by simp [hp]⟩
    · rw [if_neg hp, ih]
      refine ⟨fun h m h1 h2 => ?_, fun h m h1 h2 => h m (by omega) (by omega)⟩
      rcases Nat.eq_or_lt_of_le h1 with rfl | h1
      · simpa using hp
      · exact h m h1 (by omega)

theorem firstFrom_eq_some {p : Nat → Bool} {fuel n : Nat} (hn : n < fuel) (hp : p n = true)
    (hm : ∀ m, m < n → p m = false) : firstFrom p fuel 0 = some n := by
  cases h : firstFrom p fuel 0 with
  | none =>
    have := firstFrom_none.1 h n (Nat.zero_le _) (by omega)
    rw [hp] at this; cases this
  | some m =>
    obtain ⟨h1, _, _, h4⟩ := firstFrom_some h
    rcases Nat.lt_trichotomy m n with hlt | rfl | hlt
    · rw [hm m hlt] at h1; cases h1
    · rfl
    · rw [h4 n (Nat.zero_le _) hlt] at hp; cases hp

theorem Body.lowestFreeSlot_eq {b : Body} {n : Nat} (hn : n < 4096) (hf : b.doc n = none)
    (hl : ∀ m < n, b.doc m ≠ none) : b.lowestFreeSlot = some n :=
  firstFrom_eq_some hn (by simp [hf]) fun m hm => by
    rw [Option.isNone_eq_false_iff, Option.isSome_iff_ne_none]; exact hl m hm

theorem Body.lowestFreeSlot_none {b : Body} : b.lowestFreeSlot = none ↔ ∀ n, n < 4096 → b.doc n ≠ none := by
  unfold Body.lowestFreeSlot
  simp only [firstFrom_none, Option.isNone_eq_false_iff, Option.isSome_iff_ne_none]
  exact ⟨fun h n hn => h n (Nat.zero_le _) (by unfold Config.slots; omega),
    fun h n _ hn => h n (by unfold Config.slots at hn; omega)⟩

theorem Body.lowestFreeBuffer_none {b : Body} :
    b.lowestFreeBuffer = none ↔ ∀ j, j < 144 → (b.buffer j).state ≠ .free := by
  unfold Body.lowestFreeBuffer
  rw [firstFrom_none]
  exact ⟨fun h j hj => by simpa using h j (Nat.zero_le _) (by unfold Config.buffers; omega),
    fun h j _ hj => by simpa using h j (by unfold Config.buffers at hj; omega)⟩

/-! ### The deadline of a session moves (R45) -/

theorem State.idleDeadline_eq (s : State) :
    s.idleDeadline = min (s.time.run + s.tables.idleTimeout) 281474976710655 := rfl

theorem State.moveDeadline_idle {s : State} {k : Nat} (h : (s.body.session k).state = .idle) : s.moveDeadline k = s := by
  unfold State.moveDeadline; rw [if_pos h]

/-- The session of a line request, with its deadline moved. -/
def Session.moved (c : Session) (deadline : Nat) : Session := { c with deadline := some deadline }

@[simp] theorem Session.moved_state (c : Session) (t : Nat) : (c.moved t).state = c.state := rfl
@[simp] theorem Session.moved_doc (c : Session) (t : Nat) : (c.moved t).doc = c.doc := rfl
@[simp] theorem Session.moved_deadline (c : Session) (t : Nat) : (c.moved t).deadline = some t := rfl
@[simp] theorem Session.moved_queue (c : Session) (t : Nat) : (c.moved t).queue = c.queue := rfl
@[simp] theorem Session.moved_tail (c : Session) (t : Nat) : (c.moved t).tail = c.tail := rfl

theorem State.moveDeadline_open {s : State} {k : Nat} (h : (s.body.session k).state ≠ .idle) :
    s.moveDeadline k = { s with body := s.body.setSession k ((s.body.session k).moved s.idleDeadline) } := by
  unfold State.moveDeadline; rw [if_neg h]; rfl

/-- The state in which a line request that is heard finds its session: the deadline moved. -/
def State.lineView (s : State) (k : Nat) (c : Session) : State :=
  { s with body := s.body.setSession k (c.moved s.idleDeadline), txn := .none, sent := none }

/-- A line request that is heard and well formed, of a session that is not IDLE. -/
theorem request_line {s : State} {h : Head} {i : Nat} {op : Op} {formed : Role → Bool} {channel : BitVec 3}
    {owner : Nat → Session → State → Taken} {c : Session} (hh : Heard s h (.line i)) (hp : op.permits (.line i) = true)
    (hf : formed (.line i) = true) (hc : s.body.session (i * 8 + channel.toNat) = c) (hn : c.state ≠ .idle) :
    request s h op formed (lineOwner channel owner) =
      .next ((owner (i * 8 + channel.toNat) (c.moved s.idleDeadline) (s.lineView (i * 8 + channel.toNat) c)).state.reply
        (.line i) op
        (owner (i * 8 + channel.toNat) (c.moved s.idleDeadline) (s.lineView (i * 8 + channel.toNat) c)).verdict
        (owner (i * 8 + channel.toNat) (c.moved s.idleDeadline) (s.lineView (i * 8 + channel.toNat) c)).block) := by
  have hm : s.nextPacket.moveDeadline (i * 8 + channel.toNat) = s.lineView (i * 8 + channel.toNat) c := by
    subst hc; exact State.moveDeadline_open hn
  have hv : (s.lineView (i * 8 + channel.toNat) c).body.session (i * 8 + channel.toNat) = c.moved s.idleDeadline := by
    simp [State.lineView]
  rw [request_taken hh nofun hp hf]
  dsimp only [lineOwner, sessionOf]
  rw [hm, hv]

/-- A line request that is heard and well formed, of a session that is IDLE. -/
theorem request_line_idle {s : State} {h : Head} {i : Nat} {op : Op} {formed : Role → Bool} {channel : BitVec 3}
    {owner : Nat → Session → State → Taken} {c : Session} (hh : Heard s h (.line i)) (hp : op.permits (.line i) = true)
    (hf : formed (.line i) = true) (hc : s.body.session (i * 8 + channel.toNat) = c) (hn : c.state = .idle) :
    request s h op formed (lineOwner channel owner) =
      .next ((owner (i * 8 + channel.toNat) c s.nextPacket).state.reply (.line i) op
        (owner (i * 8 + channel.toNat) c s.nextPacket).verdict (owner (i * 8 + channel.toNat) c s.nextPacket).block) := by
  have hm : s.nextPacket.moveDeadline (i * 8 + channel.toNat) = s.nextPacket := by
    subst hc; exact State.moveDeadline_idle hn
  rw [request_taken hh nofun hp hf]
  dsimp only [lineOwner, sessionOf]
  rw [hm, State.nextPacket_body, hc]

/-! ### OPEN CALL -/

@[simp] theorem foldl_callAttention_attends (l : List Nat) (b : Body) (x : Nat) :
    (l.foldl Body.callAttention b).attends x = (b.attends x || l.any (fun d => d == x)) := by
  induction l generalizing b with
  | nil => simp
  | cons d l ih =>
    rw [List.foldl_cons, ih, List.any_cons]
    unfold Body.callAttention
    by_cases h : x = d
    · simp [h]
    · have hd : (d == x) = false := by simpa using Ne.symm h
      simp [h, hd]

/-- A fold of callers of attention changes attention alone. -/
theorem foldl_callAttention_eq (l : List Nat) (b : Body) :
    l.foldl Body.callAttention b = { b with attention := (l.foldl Body.callAttention b).attention } := by
  induction l generalizing b with
  | nil => rfl
  | cons d l ih => rw [List.foldl_cons, ih]; rfl

theorem Body.admitCall_eq (b : Body) (n k : Nat) (d : Document) (deadline : Nat) :
    b.admitCall n k d deadline = { b with
      catalog := Table.write Slot.free b.catalog n { b.slot n with doc := some d }, nextSerial := b.nextSerial + 1,
      sessions := Table.write Session.idle b.sessions k ⟨.admitted, some n, some deadline, []⟩,
      attention := ((d.obligations.map (fun o => o.department)).foldl Body.callAttention b).attention } := by
  have hatt : ∀ (l : List Nat) (x y : Body), x.attention = y.attention →
      (l.foldl Body.callAttention x).attention = (l.foldl Body.callAttention y).attention := by
    intro l
    induction l with
    | nil => exact fun _ _ h => h
    | cons d l ih => exact fun x y h => ih _ _ (by simp only [Body.callAttention, Body.setAttention, h])
  unfold Body.admitCall
  dsimp only
  rw [foldl_callAttention_eq]
  exact Body.eq_of_fields rfl rfl rfl rfl rfl rfl rfl rfl rfl rfl (hatt _ _ b rfl) rfl

/-- What OPEN CALL's owner does with a call that passes its checks (R46, R47). -/
theorem ownOpenCall_admitted {s : State} {ext caller : Option (List Nat)} {k n : Nat} {c : Session}
    (hc : c.state = .idle) (hs : s.body.nextSerial < 4294967296) (hn : s.body.lowestFreeSlot = some n)
    (hf : s.tables.floor ≤ s.body.deviceBlank) :
    ownOpenCall ext caller k c s = ⟨s.withBody (fun b => b.admitCall n k (newDocument s k ext caller) s.idleDeadline),
      .taken (admission s n k (newDocument s k ext caller)), .none⟩ := by
  unfold ownOpenCall
  rw [if_neg (by simp [hc]), if_neg (by unfold Config.serialEnd; omega), hn]
  dsimp only
  rw [if_neg (by omega)]

theorem exec_openCall_idle {s : State} {h : Head} {i : Nat} {channel : BitVec 3} {extension : BitVec 24}
    {length : BitVec 5} {identity : BitVec 80} {ext caller : Option (List Nat)} {c : Session} (hh : Heard s h (.line i))
    (he : extensionOf extension = some ext) (hi : identityOf length identity = some caller)
    (hc : s.body.session (i * 8 + channel.toNat) = c) (hn : c.state = .idle) :
    exec (.openCall h channel extension length identity) s =
      .next ((ownOpenCall ext caller (i * 8 + channel.toNat) c s.nextPacket).state.reply (.line i) .openCall
        (ownOpenCall ext caller (i * 8 + channel.toNat) c s.nextPacket).verdict
        (ownOpenCall ext caller (i * 8 + channel.toNat) c s.nextPacket).block) := by
  dsimp only [exec, execOpenCall]
  rw [he, hi]
  exact request_line_idle hh rfl rfl hc hn

/-- Settles O21. -/
theorem openCallAdmitsTheCall : Obligations.OpenCallAdmitsTheCall := by
  intro s h i channel extension length identity ext caller n hh he hi hidle hserial hn hfree hlow hfloor
  obtain ⟨lead, hlead⟩ : ∃ lead, (firstList s.tables s.body s.time.run ext).head? = some lead := by
    cases hl : firstList s.tables s.body s.time.run ext with
    | nil => exact absurd hl (firstList_ne_nil _ _ _ _)
    | cons o os => exact ⟨o, rfl⟩
  have howner := ownOpenCall_admitted (s := s.nextPacket) (ext := ext) (caller := caller) (k := i * 8 + channel.toNat)
    hidle hserial (Body.lowestFreeSlot_eq hn hfree hlow) hfloor
  have hexec := exec_openCall_idle hh he hi rfl hidle
  rw [howner] at hexec
  refine ⟨_, lead, hexec, hlead, ?_⟩
  have hbody := Body.admitCall_eq s.body n (i * 8 + channel.toNat)
    (newDocument s.nextPacket (i * 8 + channel.toNat) ext caller) s.nextPacket.idleDeadline
  simp only [State.reply_body, State.withBody_body, State.nextPacket_body, hbody]
  refine ⟨?slot, trivial, ?session, ?attends, ?sent, ?txn, ?others, ?sessions, trivial, ?state⟩
  case slot => simp only [Body.slot, Table.read_write_self]; rfl
  case session => simp only [Body.session, Table.read_write_self]; rfl
  case attends =>
    intro x
    simp only [Body.attends]
    exact (foldl_callAttention_attends _ s.body x).trans (by rw [List.any_map]; rfl)
  case sent =>
    simp only [State.reply_sent, admission, newDocument, State.nextPacket_tables, State.nextPacket_body,
      State.nextPacket_time, hlead, Option.map_some, Option.getD_some]
    rfl
  case txn => intro m hm; simp only [State.reply_sent, Option.some.injEq] at hm; rw [← hm]; rfl
  case others => intro m hm; simp only [Body.slot, Table.read_write_other _ _ hm]
  case sessions => intro k hk; simp only [Body.session, Table.read_write_other _ _ hk]
  case state => rw [← hbody]; rfl

end Sys2Proof.Machine
end

section
/-! Pages and their data: PAGE BEGIN, APPEND, the end of an APPEND's data block, and PAGE END (R48 to R57). -/

namespace Sys2Proof.Machine

/-! ### Room for a new leaf slot (R49, R54) -/

theorem Body.room_ringFull {b : Body} {k : Nat} (h : 4 ≤ (b.session k).queue.length) : b.room k = .ringFull := by
  unfold Body.room; rw [if_pos (show Config.queueLimit ≤ _ from h)]

theorem Body.room_stagingFull {b : Body} {k : Nat} (h : (b.session k).queue.length < 4)
    (hb : b.lowestFreeBuffer = none) : b.room k = .stagingFull := by
  unfold Body.room; rw [if_neg (show ¬ Config.queueLimit ≤ _ from Nat.not_le.2 h), hb]

theorem Body.room_found {b : Body} {k i l : Nat} (h : (b.session k).queue.length < 4)
    (hb : b.lowestFreeBuffer = some i) (hl : b.nextLeaf = some l) : b.room k = .found i l := by
  unfold Body.room; rw [if_neg (show ¬ Config.queueLimit ≤ _ from Nat.not_le.2 h), hb]; dsimp only; rw [hl]

theorem Body.room_noLeaf {b : Body} {k i : Nat} (h : (b.session k).queue.length < 4)
    (hb : b.lowestFreeBuffer = some i) (hl : b.nextLeaf = none) :
    b.room k = if b.leafOnItsWay then .storeBusy else .storeFull := by
  unfold Body.room; rw [if_neg (show ¬ Config.queueLimit ≤ _ from Nat.not_le.2 h), hb]; dsimp only; rw [hl]

/-! ### The lead's charge -/

theorem Body.chargeLead_eq {b : Body} {n : Nat} {d : Document} {lead : Obligation} {rest : List Obligation}
    (hd : b.doc n = some d) (ho : d.obligations = lead :: rest) :
    b.chargeLead n = (b.setDoc n { d with obligations := { lead with charge := lead.charge + 1 } :: rest }).charge
      lead.department 1 := by
  unfold Body.chargeLead; rw [hd]; dsimp only; rw [ho]; rfl

theorem Body.dischargeLead_eq {b : Body} {n : Nat} {d : Document} {lead : Obligation} {rest : List Obligation}
    (hd : b.doc n = some d) (ho : d.obligations = lead :: rest) :
    b.dischargeLead n = (b.setDoc n { d with obligations := { lead with charge := lead.charge - 1 } :: rest }).discharge
      lead.department 1 := by
  unfold Body.dischargeLead; rw [hd]; dsimp only; rw [ho]; rfl

/-! ### Two writes at one key -/

theorem Table.put_put {α : Type} (n : Nat) (v w : α) (t : Table α) : Table.put n w (Table.put n v t) = Table.put n w t := by
  induction t with
  | nil => simp [Table.put]
  | cons e t ih =>
    obtain ⟨k, x⟩ := e
    by_cases h1 : n < k
    · simp [Table.put, h1]
    · by_cases h2 : n = k
      · subst h2; simp [Table.put]
      · simp [Table.put, h1, h2, ih]

theorem Table.drop_put {α : Type} (n : Nat) (v : α) (t : Table α) : Table.drop n (Table.put n v t) = Table.drop n t := by
  induction t with
  | nil => simp [Table.put, Table.drop]
  | cons e t ih =>
    obtain ⟨k, x⟩ := e
    unfold Table.put
    unfold Table.drop at ih ⊢
    split_ifs with h1 h2
    · simp
    · subst h2; simp
    · simp only [List.filter_cons, ih]

/-- Of two writes at one key the second stands, where the first listed a value. -/
theorem Table.write_write {α : Type} [DecidableEq α] {d v : α} (hv : v ≠ d) (t : Table α) (n : Nat) (w : α) :
    Table.write d (Table.write d t n v) n w = Table.write d t n w := by
  unfold Table.write
  rw [if_neg hv]
  split_ifs
  · exact Table.drop_put n v t
  · exact Table.put_put n v w t

theorem Slot.ne_free_of_doc {g : Nat} {d : Document} : (⟨g, some d⟩ : Slot) ≠ Slot.free := by simp [Slot.free]

theorem Session.moved_ne_idle (c : Session) (t : Nat) : c.moved t ≠ Session.idle := fun h => by
  have := congrArg Session.deadline h
  simp [Session.idle] at this

theorem Body.setDoc_setDoc (b : Body) (n : Nat) (d e : Document) : (b.setDoc n d).setDoc n e = b.setDoc n e := by
  have hg : (b.setDoc n d).slot n = { b.slot n with doc := some d } := by simp [Body.setDoc]
  unfold Body.setDoc at hg ⊢
  rw [hg]
  exact Body.eq_of_fields rfl rfl rfl rfl rfl rfl rfl (Table.write_write Slot.ne_free_of_doc ..) rfl rfl rfl rfl

/-! ### The last page of a document -/

theorem updateNth_concat {α : Type} (f : α → α) (l : List α) (x : α) :
    updateNth f (l ++ [x]) l.length = l ++ [f x] := by
  induction l with
  | nil => rfl
  | cons y l ih => simp [updateNth, ih]

theorem Document.updLastPage_eq {d : Document} {page : Page} (f : Page → Page) (h : d.pages.getLast? = some page) :
    d.updLastPage f = { d with pages := d.pages.dropLast ++ [f page] } := by
  obtain ⟨l, hl⟩ := List.getLast?_eq_some_iff.1 h
  unfold Document.updLastPage Document.updPage
  rw [hl, List.length_append, List.length_singleton, Nat.add_sub_cancel, updateNth_concat, List.dropLast_concat]

theorem Document.page_last (d : Document) : d.page d.pages.length = d.pages.getLast? := by
  unfold Document.page
  split_ifs with h
  · rw [List.length_eq_zero_iff.1 h]; rfl
  · rw [List.getLast?_eq_getElem?]

/-! ### A slot allocated to a session's document -/

/-- The body with a new leaf slot of the document in slot `n`, which stands then as `d` and whose lead has been charged:
what PAGE BEGIN and the rollover of an APPEND have in common (R50, R55, R67, R84, R108). -/
def Body.withSlot (b : Body) (k n : Nat) (d : Document) (dept : Nat) (place : Place) (i l : Nat) (st : SessState) :
    Body :=
  { b with
    catalog := Table.write Slot.free b.catalog n { b.slot n with doc := some d },
    accounts := Table.write 0 b.accounts dept (b.account dept + 1),
    leaves := Table.write Leaf.blank b.leaves l ⟨.filling, some place, some i⟩,
    buffers := Table.write Buffer.free b.buffers i ⟨.filling, some l, some place, some (.session k), [], false⟩,
    sessions := Table.write Session.idle b.sessions k
      { b.session k with state := st, queue := (b.session k).queue ++ [i] },
    banks := Table.write Bank.empty b.banks (l % 4) { b.bank (l % 4) with blank := (b.bank (l % 4)).blank.tail } }

theorem Body.allocate_eq (b : Body) (k : Nat) (place : Place) (l i : Nat) :
    b.allocate k place l i = { b with
      leaves := Table.write Leaf.blank b.leaves l ⟨.filling, some place, some i⟩,
      buffers := Table.write Buffer.free b.buffers i ⟨.filling, some l, some place, some (.session k), [], false⟩,
      sessions := Table.write Session.idle b.sessions k { b.session k with queue := (b.session k).queue ++ [i] },
      banks := Table.write Bank.empty b.banks (l % 4) { b.bank (l % 4) with blank := (b.bank (l % 4)).blank.tail } } := rfl

/-- A document changed and its lead charged. -/
theorem Body.setDoc_chargeLead {b : Body} {n : Nat} {d : Document} {lead : Obligation} {rest : List Obligation}
    (ho : d.obligations = lead :: rest) :
    (b.setDoc n d).chargeLead n = { b with
      catalog := Table.write Slot.free b.catalog n
        { b.slot n with doc := some { d with obligations := { lead with charge := lead.charge + 1 } :: rest } },
      accounts := Table.write 0 b.accounts lead.department (b.account lead.department + 1) } := by
  rw [Body.chargeLead_eq (by simp) ho, Body.setDoc_setDoc]
  rfl

theorem Body.beginPage_eq {b : Body} {k n : Nat} {d : Document} {page : Page} {i l : Nat} {lead : Obligation}
    {rest : List Obligation} (ho : d.obligations = lead :: rest) :
    b.beginPage k n d page i l = b.withSlot k n
      { d with pages := d.pages ++ [page], obligations := { lead with charge := lead.charge + 1 } :: rest }
      lead.department ⟨n, d.pages.length + 1, 0⟩ i l .inPage := by
  have hs : ({ b.session k with queue := (b.session k).queue ++ [i] } : Session) ≠ Session.idle := fun h => by
    have := congrArg Session.queue h
    simp [Session.idle] at this
  unfold Body.beginPage
  dsimp only
  rw [Body.setDoc_chargeLead (d := { d with pages := d.pages ++ [page] }) ho, Body.allocate_eq]
  refine Body.eq_of_fields ?_ rfl rfl rfl rfl rfl rfl rfl rfl rfl rfl rfl
  simp only [Body.setSession, Body.session, Table.read_write_self]
  exact Table.write_write hs ..

theorem Body.rollOver_eq {b : Body} {k n : Nat} {d : Document} {page : Page} {i l : Nat} {lead : Obligation}
    {rest : List Obligation} (ho : d.obligations = lead :: rest) (hp : d.pages.getLast? = some page) :
    b.rollOver k n d i l = b.withSlot k n
      { d with pages := d.pages.dropLast ++ [{ page with slots := page.slots ++ [.placed l] }],
               obligations := { lead with charge := lead.charge + 1 } :: rest }
      lead.department ⟨n, d.pages.length, page.slots.length⟩ i l (b.session k).state := by
  unfold Body.rollOver
  dsimp only
  rw [Document.updLastPage_eq _ hp, Document.page_last, hp,
    Body.setDoc_chargeLead (d := { d with
      pages := d.pages.dropLast ++ [{ page with slots := page.slots ++ [.placed l] }] }) ho, Body.allocate_eq]
  rfl

section
variable (b : Body) (k n : Nat) (d : Document) (dept : Nat) (place : Place) (i l : Nat) (st : SessState)

@[simp] theorem Body.withSlot_slot (m : Nat) : (b.withSlot k n d dept place i l st).slot m =
    if m = n then { b.slot n with doc := some d } else b.slot m := by simp [Body.withSlot, Body.slot]

@[simp] theorem Body.withSlot_doc (m : Nat) : (b.withSlot k n d dept place i l st).doc m =
    if m = n then some d else b.doc m := by
  unfold Body.doc
  rw [Body.withSlot_slot]
  split_ifs <;> rfl

@[simp] theorem Body.withSlot_account (x : Nat) : (b.withSlot k n d dept place i l st).account x =
    if x = dept then b.account dept + 1 else b.account x := by simp [Body.withSlot, Body.account]

@[simp] theorem Body.withSlot_leaf (m : Nat) : (b.withSlot k n d dept place i l st).leaf m =
    if m = l then ⟨.filling, some place, some i⟩ else b.leaf m := by simp [Body.withSlot, Body.leaf]

@[simp] theorem Body.withSlot_buffer (j : Nat) : (b.withSlot k n d dept place i l st).buffer j =
    if j = i then ⟨.filling, some l, some place, some (.session k), [], false⟩ else b.buffer j := by
  simp [Body.withSlot, Body.buffer]

@[simp] theorem Body.withSlot_session (j : Nat) : (b.withSlot k n d dept place i l st).session j =
    if j = k then { b.session k with state := st, queue := (b.session k).queue ++ [i] } else b.session j := by
  simp [Body.withSlot, Body.session]

@[simp] theorem Body.withSlot_bank (j : Nat) : (b.withSlot k n d dept place i l st).bank j =
    if j = l % 4 then { b.bank (l % 4) with blank := (b.bank (l % 4)).blank.tail } else b.bank j := by
  simp [Body.withSlot, Body.bank]

end

/-! ### PAGE BEGIN -/

/-- What PAGE BEGIN's owner does where the page can begin (R48, R49, R50). -/
theorem ownPageBegin_begins {s : State} {dens : Density} {wid : PageWidth} {coding k n buf leaf : Nat} {c : Session}
    {d : Document} (hc : c.state = .admitted) (hdoc : c.doc = some n) (hd : s.body.doc n = some d)
    (hp : d.pages.length < 999) (hroom : s.body.room k = .found buf leaf) (hrec : s.body.pageRecords < 65536) :
    ownPageBegin dens wid coding k c s =
      ⟨(s.withBody (fun b => b.beginPage k n d (newPage dens wid coding leaf) buf leaf)).arbitrate,
        .taken (.pageBegin (d.pages.length + 1)), .none⟩ := by
  unfold ownPageBegin
  rw [hc]
  dsimp only
  rw [hdoc, Option.getD_some, hd]
  dsimp only
  rw [if_neg (show ¬ Config.pageLimit ≤ _ from Nat.not_le.2 hp), hroom]
  dsimp only
  rw [if_neg (show ¬ Config.pageRecords ≤ _ from Nat.not_le.2 hrec)]

@[simp] theorem State.lineView_body (s : State) (k : Nat) (c : Session) :
    (s.lineView k c).body = s.body.setSession k (c.moved s.idleDeadline) := rfl

theorem State.lineView_room {s : State} {k : Nat} {c : Session} {i l : Nat} (h : c.queue.length < 4)
    (hb : s.body.lowestFreeBuffer = some i) (hl : s.body.nextLeaf = some l) :
    (s.lineView k c).body.room k = .found i l :=
  Body.room_found (by simpa [State.lineView] using h) hb hl

theorem exec_pageBegin_open {s : State} {h : Head} {i : Nat} {channel : BitVec 3} {density width coding : BitVec 2}
    {dens : Density} {wid : PageWidth} {c : Session} (hh : Heard s h (.line i))
    (hd : densityOf density.toNat = some dens) (hw : widthOf width.toNat = some wid)
    (hc : s.body.session (i * 8 + channel.toNat) = c) (hn : c.state ≠ .idle) :
    exec (.pageBegin h channel density width coding) s =
      .next ((ownPageBegin dens wid coding.toNat (i * 8 + channel.toNat) (c.moved s.idleDeadline)
          (s.lineView (i * 8 + channel.toNat) c)).state.reply (.line i) .pageBegin
        (ownPageBegin dens wid coding.toNat (i * 8 + channel.toNat) (c.moved s.idleDeadline)
          (s.lineView (i * 8 + channel.toNat) c)).verdict
        (ownPageBegin dens wid coding.toNat (i * 8 + channel.toNat) (c.moved s.idleDeadline)
          (s.lineView (i * 8 + channel.toNat) c)).block) := by
  dsimp only [exec, execPageBegin]
  rw [hd, hw]
  exact request_line hh rfl rfl hc hn

/-- Settles O24. -/
theorem pageBeginOpensAPage : Obligations.PageBeginOpensAPage := by
  intro s h i channel density width coding dens wid n buf leaf d lead rest c hh hdens hwid hc hst hdoc hd hob hpages
    hqueue hbuf hleaf hrec
  have hexec := exec_pageBegin_open (coding := coding) hh hdens hwid hc (by rw [hst]; nofun)
  rw [ownPageBegin_begins (s := s.lineView (i * 8 + channel.toNat) c) (c := c.moved s.idleDeadline) hst hdoc hd hpages
    (State.lineView_room hqueue hbuf hleaf) hrec] at hexec
  refine ⟨{ s with
    body := (s.lineView (i * 8 + channel.toNat) c).body.beginPage (i * 8 + channel.toNat) n d
      (newPage dens wid coding.toNat leaf) buf leaf, sent := none }, hexec, ?_⟩
  rw [Body.beginPage_eq hob]
  rw [State.lineView_body]
  refine ⟨by simp [newPage], by simp, by simp, by simp, by simp [Session.moved, hdoc, State.idleDeadline_eq], by simp,
    ?_, ?_, ?_, ?_, ?_, ?_, rfl, rfl⟩ <;> intro m hm <;> simp [hm]

/-! ### APPEND -/

theorem Session.tail_eq {c : Session} {i : Nat} (h : c.queue.getLast? = some i) : c.tail = i := by
  unfold Session.tail; rw [h]; rfl

/-- What becomes of an APPEND that its session unit has decided on (R171). -/
def AppendChoice.outcome (role : Role) : AppendChoice → Outcome
  | .away t v => .next (t.discard role v)
  | .await t a => .next { t with txn := .appending a }

/-- An APPEND that is heard and well formed reaches the session unit (R173). -/
theorem exec_append {s : State} {h : Head} {i : Nat} {channel : BitVec 3} {count : BitVec 9} (hh : Heard s h (.line i))
    (h1 : 1 ≤ count.toNat) (h2 : count.toNat ≤ 256) :
    exec (.append h channel count) s =
      (ownAppend count.toNat (i * 8 + channel.toNat)
        ((s.nextPacket.moveDeadline (i * 8 + channel.toNat)).body.session (i * 8 + channel.toNat))
        (s.nextPacket.moveDeadline (i * 8 + channel.toNat))).outcome (.line i) := by
  have hears : (!s.hears || h.target.toNat != s.tables.hub) = false := by
    simp [State.hears, hh.running, hh.listens, hh.target]
  have hcheck : busCheck s.recovery.part (.line i) .append (countInRange count) = none := by
    rw [(countInRange_iff count).2 ⟨h1, h2⟩]
    simp [busCheck, Op.permits, hh.running]
  dsimp only [exec, execAppend]
  rw [if_neg (by simp [hh.free]), hears, hh.role, hcheck]
  dsimp only [Bool.false_eq_true, if_false, sessionOf]
  generalize ownAppend _ _ _ _ = choice
  cases choice <;> rfl

theorem exec_append_open {s : State} {h : Head} {i : Nat} {channel : BitVec 3} {count : BitVec 9} {c : Session}
    (hh : Heard s h (.line i)) (h1 : 1 ≤ count.toNat) (h2 : count.toNat ≤ 256)
    (hc : s.body.session (i * 8 + channel.toNat) = c) (hn : c.state ≠ .idle) :
    exec (.append h channel count) s =
      (ownAppend count.toNat (i * 8 + channel.toNat) (c.moved s.idleDeadline)
        (s.lineView (i * 8 + channel.toNat) c)).outcome (.line i) := by
  have hm : s.nextPacket.moveDeadline (i * 8 + channel.toNat) = s.lineView (i * 8 + channel.toNat) c := by
    subst hc; exact State.moveDeadline_open hn
  rw [exec_append hh h1 h2, hm]
  simp

theorem exec_append_idle {s : State} {h : Head} {i : Nat} {channel : BitVec 3} {count : BitVec 9} {c : Session}
    (hh : Heard s h (.line i)) (h1 : 1 ≤ count.toNat) (h2 : count.toNat ≤ 256)
    (hc : s.body.session (i * 8 + channel.toNat) = c) (hn : c.state = .idle) :
    exec (.append h channel count) s =
      (ownAppend count.toNat (i * 8 + channel.toNat) c s.nextPacket).outcome (.line i) := by
  have hm : s.nextPacket.moveDeadline (i * 8 + channel.toNat) = s.nextPacket := by
    subst hc; exact State.moveDeadline_idle hn
  rw [exec_append hh h1 h2, hm, State.nextPacket_body, hc]

/-- An APPEND that fits in the FILLING buffer (R52). -/
theorem ownAppend_fits {s : State} {count k n : Nat} {c : Session} {d : Document} (hst : c.state = .inPage)
    (hdoc : c.doc = some n) (hd : s.body.doc n = some d)
    (hfits : count ≤ 4096 - (s.body.buffer c.tail).data.length) :
    ownAppend count k c s = .await s ⟨k, count, 4096 - (s.body.buffer c.tail).data.length, false⟩ := by
  unfold ownAppend
  rw [hst]
  dsimp only
  rw [hdoc, Option.getD_some, hd]
  dsimp only
  rw [if_pos (show count ≤ Config.leafBytes - _ from hfits)]
  rfl

/-- An APPEND that does not fit in the FILLING buffer of its page (R53, R54, R55). -/
theorem ownAppend_overflows {s : State} {count k n : Nat} {c : Session} {d : Document} {page : Page}
    (hst : c.state = .inPage) (hdoc : c.doc = some n) (hd : s.body.doc n = some d) (hp : d.pages.getLast? = some page)
    (hfits : 4096 - (s.body.buffer c.tail).data.length < count) :
    ownAppend count k c s =
      if 64 ≤ page.slots.length then
        .away (s.withBody (fun b => b.cutPage k .admitted)).arbitrate (.denied .pageTooLong)
      else match s.body.room k with
        | .ringFull => .away s (.defer .ringFull)
        | .stagingFull => .away s (.defer .stagingFull)
        | .storeBusy => .away s (.defer .storeBusy)
        | .storeFull => .away (s.withBody (fun b => b.cutPage k .stopped)).arbitrate (.denied .storeFull)
        | .found i l => .await (s.withBody (fun b => b.rollOver k n d i l)).arbitrate
            ⟨k, count, 4096 - (s.body.buffer c.tail).data.length, true⟩ := by
  unfold ownAppend
  rw [hst]
  dsimp only
  rw [hdoc, Option.getD_some, hd]
  dsimp only
  rw [if_neg (show ¬ count ≤ Config.leafBytes - _ from Nat.not_le.2 hfits), Document.page_last, hp]
  rfl

/-- Settles O25. -/
theorem appendWaitsForItsDataBlock : Obligations.AppendWaitsForItsDataBlock := by
  intro s h i channel count n tail d page c hh h1 h2 hc hst hdoc htail hd hpage
  have hexec := exec_append_open hh h1 h2 hc (by rw [hst]; nofun)
  have hroom : ((s.lineView (i * 8 + channel.toNat) c).body.buffer (c.moved s.idleDeadline).tail).data.length =
      (s.body.buffer tail).data.length := by rw [Session.moved_tail, Session.tail_eq htail]; rfl
  refine ⟨fun hfits => ?_, fun lead rest buf leaf hover hslots hqueue hbuf hleaf hob => ?_⟩
  · rw [ownAppend_fits (s := s.lineView (i * 8 + channel.toNat) c) (c := c.moved s.idleDeadline) hst hdoc hd
      (by rw [hroom]; exact hfits), hroom] at hexec
    exact ⟨_, hexec, rfl, by simp [Session.moved, State.idleDeadline_eq],
      fun k hk => by simp [hk], rfl, rfl⟩
  · rw [ownAppend_overflows (s := s.lineView (i * 8 + channel.toNat) c) (c := c.moved s.idleDeadline) hst hdoc hd hpage
      (by rw [hroom]; exact hover), if_neg (Nat.not_le.2 hslots), State.lineView_room hqueue hbuf hleaf, hroom] at hexec
    refine ⟨{ s with
      body := (s.lineView (i * 8 + channel.toNat) c).body.rollOver (i * 8 + channel.toNat) n d buf leaf, sent := none },
      hexec, ?_⟩
    rw [Body.rollOver_eq hob hpage, State.lineView_body]
    refine ⟨by simp, by simp, by simp, by simp, by simp [Session.moved, State.idleDeadline_eq], by simp,
      ?_, ?_, ?_, ?_, ?_, ?_, rfl, rfl⟩ <;> intro m hm <;> simp [hm]

end Sys2Proof.Machine
end

section
/-! The end of an APPEND's data block, and PAGE END (R52, R55 to R57, R175). -/

namespace Sys2Proof.Machine

/-! ### Changes of a document that is there -/

/-- A document with another last page. -/
def Document.withLastPage (d : Document) (page : Page) : Document := { d with pages := d.pages.dropLast ++ [page] }

@[simp] theorem Document.withLastPage_last (d : Document) (page : Page) :
    (d.withLastPage page).pages.getLast? = some page := List.getLast?_concat

@[simp] theorem Document.withLastPage_obligations (d : Document) (page : Page) :
    (d.withLastPage page).obligations = d.obligations := rfl

@[simp] theorem Document.withLastPage_withLastPage (d : Document) (p q : Page) :
    (d.withLastPage p).withLastPage q = d.withLastPage q := by
  simp [Document.withLastPage]

theorem Document.updLastPage_last {d : Document} {page : Page} (f : Page → Page) (h : d.pages.getLast? = some page) :
    d.updLastPage f = d.withLastPage (f page) := Document.updLastPage_eq f h

theorem Body.updDoc_eq {b : Body} {n : Nat} {d : Document} (f : Document → Document) (hd : b.doc n = some d) :
    b.updDoc n f = b.setDoc n (f d) := by unfold Body.updDoc; rw [hd]

theorem Body.updDoc_none {b : Body} {n : Nat} (f : Document → Document) (hd : b.doc n = none) : b.updDoc n f = b := by
  unfold Body.updDoc; rw [hd]

@[simp] theorem Body.setDoc_slot (b : Body) (n : Nat) (d : Document) (m : Nat) :
    (b.setDoc n d).slot m = if m = n then { b.slot n with doc := some d } else b.slot m := by simp [Body.setDoc]

theorem Body.setDoc_eq (b : Body) (n : Nat) (d : Document) :
    b.setDoc n d = { b with catalog := Table.write Slot.free b.catalog n { b.slot n with doc := some d } } := rfl

/-- A document changed and its lead discharged. -/
theorem Body.setDoc_dischargeLead {b : Body} {n : Nat} {d : Document} {lead : Obligation} {rest : List Obligation}
    (ho : d.obligations = lead :: rest) :
    (b.setDoc n d).dischargeLead n = { b with
      catalog := Table.write Slot.free b.catalog n
        { b.slot n with doc := some { d with obligations := { lead with charge := lead.charge - 1 } :: rest } },
      accounts := Table.write 0 b.accounts lead.department (b.account lead.department - 1) } := by
  rw [Body.dischargeLead_eq (by simp) ho, Body.setDoc_setDoc]
  rfl

theorem Body.growPage_eq {b : Body} {n : Nat} {d : Document} {page : Page} (count : Nat) (hd : b.doc n = some d)
    (hp : d.pages.getLast? = some page) :
    b.growPage n count = b.setDoc n (d.withLastPage { page with byteLength := page.byteLength + count }) := by
  unfold Body.growPage
  rw [Body.updDoc_eq _ hd, Document.updLastPage_last _ hp]

theorem Body.lastLength_eq {b : Body} {k n : Nat} {d : Document} {page : Page} (hs : (b.session k).doc = some n)
    (hd : b.doc n = some d) (hp : d.pages.getLast? = some page) : b.lastLength k = page.byteLength := by
  unfold Body.lastLength
  rw [hs, Option.getD_some, hd, Option.bind_some, Document.page_last, hp]
  rfl

/-! ### A buffer released and a slot returned -/

theorem Body.releaseBuffer_held {b : Body} {i k : Nat} (h : (b.buffer i).holder = some (.session k)) :
    b.releaseBuffer i = { b with
      sessions := Table.write Session.idle b.sessions k
        { b.session k with queue := (b.session k).queue.filter (fun j => j ≠ i) },
      buffers := Table.write Buffer.free b.buffers i Buffer.free,
      ready := b.ready.filter (fun j => j ≠ i), windows := b.windows.filter (fun j => j ≠ i) } := by
  unfold Body.releaseBuffer; rw [h]; rfl

theorem Body.releaseBuffer_unheld {b : Body} {i : Nat} (h : ∀ k, (b.buffer i).holder ≠ some (.session k)) :
    b.releaseBuffer i = { b with
      buffers := Table.write Buffer.free b.buffers i Buffer.free,
      ready := b.ready.filter (fun j => j ≠ i), windows := b.windows.filter (fun j => j ≠ i) } := by
  unfold Body.releaseBuffer
  split
  · rename_i k hk; exact absurd hk (h k)
  · rfl

theorem List.filter_ne_of_notMem {l : List Nat} {i : Nat} (h : i ∉ l) : l.filter (fun j => j ≠ i) = l :=
  List.filter_eq_self.2 fun _ hj => decide_eq_true fun hji => h (hji ▸ hj)

/-- The slot that an APPEND reserved for bytes that never came is returned (R56, R69, R85). -/
theorem Body.returnReserved_eq {b : Body} {n i k l : Nat} {d : Document} {page : Page} {lead : Obligation}
    {rest : List Obligation} (hd : b.doc n = some d) (hp : d.pages.getLast? = some page)
    (ho : d.obligations = lead :: rest) (hl : (b.buffer i).leaf = some l)
    (hk : (b.buffer i).holder = some (.session k)) :
    b.returnReserved n i = { b with
      catalog := Table.write Slot.free b.catalog n { b.slot n with
        doc := some { d.withLastPage { page with slots := page.slots.dropLast } with
          obligations := { lead with charge := lead.charge - 1 } :: rest } },
      accounts := Table.write 0 b.accounts lead.department (b.account lead.department - 1),
      sessions := Table.write Session.idle b.sessions k
        { b.session k with queue := (b.session k).queue.filter (fun j => j ≠ i) },
      buffers := Table.write Buffer.free b.buffers i Buffer.free,
      ready := b.ready.filter (fun j => j ≠ i), windows := b.windows.filter (fun j => j ≠ i),
      leaves := Table.write Leaf.blank b.leaves l Leaf.blank,
      banks := Table.write Bank.empty b.banks (l % 4) { b.bank (l % 4) with blank := l :: (b.bank (l % 4)).blank } } := by
  unfold Body.returnReserved
  dsimp only
  rw [Body.updDoc_eq _ hd, Document.updLastPage_last _ hp,
    Body.setDoc_dischargeLead (d := d.withLastPage { page with slots := page.slots.dropLast }) ho,
    hl, Body.releaseBuffer_held (k := k) (by exact hk)]
  rfl

theorem Body.makeReady_leaf_eq {b : Body} {i l : Nat} (h : (b.buffer i).leaf = some l) :
    b.makeReady i = { b with
      leaves := Table.write Leaf.blank b.leaves l { b.leaf l with state := .ready },
      buffers := Table.write Buffer.free b.buffers i { b.buffer i with state := .ready },
      ready := b.ready ++ [i] } := by
  unfold Body.makeReady; dsimp only; rw [h]; rfl

/-! ### The end of an APPEND's data block -/

theorem exec_dataBlockEnd {s : State} {a : AppendInFlight} (words : List Word) (h : s.txn = .appending a) :
    exec (.appendDataBlockEnd words) s =
      .next (({ s with body := s.body.settleAppend a (broughtBytes a.count words), txn := .none } : State).arbitrate.send
        ⟨3, .taken (.append (broughtBytes a.count words).length
          ((s.body.settleAppend a (broughtBytes a.count words)).lastLength a.session)), false⟩ .none) := by
  dsimp only [exec, execAppendDataBlockEnd]
  rw [h]
  rfl

theorem Body.settleAppend_fits {b : Body} {a : AppendInFlight} {bytes : List Byte} {n tail : Nat} {d : Document}
    {page : Page} (ha : a.rolled = false) (hdoc : (b.session a.session).doc = some n)
    (ht : (b.session a.session).queue.getLast? = some tail) (hd : b.doc n = some d) (hp : d.pages.getLast? = some page) :
    b.settleAppend a bytes = (b.setBuffer tail { b.buffer tail with data := (b.buffer tail).data ++ bytes }).setDoc n
      (d.withLastPage { page with byteLength := page.byteLength + bytes.length }) := by
  unfold Body.settleAppend
  dsimp only
  rw [ha, hdoc, Session.tail_eq ht]
  exact Body.growPage_eq _ (b := b.fill tail bytes) hd hp

/-- The two buffers at the back of a queue. -/
theorem queue_ends {queue before : List Nat} {old new : Nat} (h : queue = before ++ [old, new]) :
    queue.getLast? = some new ∧ queue.dropLast.getLast? = some old := by
  subst h
  have : before ++ [old, new] = before ++ [old] ++ [new] := by simp
  rw [this, List.dropLast_concat]
  exact ⟨List.getLast?_concat, List.getLast?_concat⟩

/-- The bytes reach the new buffer: the old one is full and READY (R55). -/
theorem Body.settleAppend_spills {b : Body} {a : AppendInFlight} {bytes : List Byte} {n old new l : Nat} {d : Document}
    {page : Page} {before : List Nat} (ha : a.rolled = true) (hdoc : (b.session a.session).doc = some n)
    (hq : (b.session a.session).queue = before ++ [old, new]) (hne : old ≠ new) (hd : b.doc n = some d)
    (hp : d.pages.getLast? = some page) (hl : (b.buffer old).leaf = some l) (hr : a.room < bytes.length) :
    b.settleAppend a bytes = { b with
      buffers := Table.write Buffer.free
        (Table.write Buffer.free
          (Table.write Buffer.free b.buffers old
            { b.buffer old with data := (b.buffer old).data ++ bytes.take a.room }) old
          { b.buffer old with state := .ready, data := (b.buffer old).data ++ bytes.take a.room })
        new { b.buffer new with data := (b.buffer new).data ++ bytes.drop a.room },
      leaves := Table.write Leaf.blank b.leaves l { b.leaf l with state := .ready },
      ready := b.ready ++ [old],
      catalog := Table.write Slot.free b.catalog n { b.slot n with
        doc := some (d.withLastPage { page with byteLength := page.byteLength + bytes.length }) } } := by
  obtain ⟨hnew, hold⟩ := queue_ends hq
  have hfill : ((b.fill old (bytes.take a.room)).buffer old).leaf = some l := by simp [Body.fill, hl]
  unfold Body.settleAppend
  dsimp only
  rw [ha, hdoc, Session.tail_eq hnew, hold, if_pos rfl, if_neg (Nat.not_le.2 hr)]
  simp only [Option.getD_some]
  rw [Body.makeReady_leaf_eq hfill, Body.growPage_eq (d := d) (page := page) _ (by exact hd) hp]
  refine Body.eq_of_fields rfl ?_ rfl rfl rfl rfl rfl rfl rfl rfl rfl rfl
  simp [Body.fill, Body.setBuffer, Body.buffer, Body.setDoc, Body.setSlot, Ne.symm hne]

/-- No bytes reach the new buffer: its slot is returned (R56). -/
theorem Body.settleAppend_returns {b : Body} {a : AppendInFlight} {bytes : List Byte} {n old new l : Nat} {d : Document}
    {page : Page} {before : List Nat} {lead : Obligation} {rest : List Obligation} (ha : a.rolled = true)
    (hdoc : (b.session a.session).doc = some n) (hq : (b.session a.session).queue = before ++ [old, new])
    (hne : old ≠ new) (hd : b.doc n = some d) (hp : d.pages.getLast? = some page) (ho : d.obligations = lead :: rest)
    (hl : (b.buffer new).leaf = some l) (hk : (b.buffer new).holder = some (.session a.session))
    (hr : bytes.length ≤ a.room) :
    b.settleAppend a bytes = { b with
      catalog := Table.write Slot.free b.catalog n { b.slot n with doc := some { d.withLastPage
          { page with byteLength := page.byteLength + bytes.length, slots := page.slots.dropLast } with
            obligations := { lead with charge := lead.charge - 1 } :: rest } },
      accounts := Table.write 0 b.accounts lead.department (b.account lead.department - 1),
      sessions := Table.write Session.idle b.sessions a.session { b.session a.session with
        queue := (b.session a.session).queue.filter (fun j => j ≠ new) },
      buffers := Table.write Buffer.free
        (Table.write Buffer.free b.buffers old { b.buffer old with data := (b.buffer old).data ++ bytes }) new Buffer.free,
      ready := b.ready.filter (fun j => j ≠ new), windows := b.windows.filter (fun j => j ≠ new),
      leaves := Table.write Leaf.blank b.leaves l Leaf.blank,
      banks := Table.write Bank.empty b.banks (l % 4) { b.bank (l % 4) with blank := l :: (b.bank (l % 4)).blank } } := by
  have hsettle : b.settleAppend a bytes = ((b.fill old bytes).growPage n bytes.length).returnReserved n new := by
    obtain ⟨hnew, hold⟩ := queue_ends hq
    unfold Body.settleAppend
    dsimp only
    rw [ha, hdoc, Session.tail_eq hnew, hold, if_pos rfl, if_pos hr]
    rfl
  rw [hsettle, Body.growPage_eq (b := b.fill old bytes) _ (by exact hd) hp,
    Body.returnReserved_eq (l := l) (k := a.session) (by rw [Body.setDoc_doc, if_pos rfl])
      (Document.withLastPage_last ..) ho (by simp [Body.setDoc, Body.fill, Ne.symm hne, hl])
      (by simp [Body.setDoc, Body.fill, Ne.symm hne, hk])]
  apply Body.eq_of_fields
  case h8 =>
    simp only [Document.withLastPage_withLastPage, Body.setDoc_slot, if_pos]
    exact Table.write_write Slot.ne_free_of_doc ..
  all_goals rfl

/-- Settles O26. -/
theorem theDataBlockOfAnAppendIsTaken : Obligations.TheDataBlockOfAnAppendIsTaken := by
  refine ⟨?fits, ?another, ?discarded, ?rolled⟩
  case fits =>
    rintro s words a n tail d page c htxn ha rfl hdoc htail hd hp
    have hset := Body.settleAppend_fits (bytes := broughtBytes a.count words) ha hdoc htail hd hp
    have hdoc' : (s.body.settleAppend a (broughtBytes a.count words)).doc n =
        some (d.withLastPage { page with byteLength := page.byteLength + (broughtBytes a.count words).length }) := by
      rw [hset, Body.setDoc_doc, if_pos rfl]
    refine ⟨{ s with body := s.body.settleAppend a (broughtBytes a.count words), txn := .none }, ?_, ?_⟩
    · rw [exec_dataBlockEnd words htxn, Body.lastLength_eq (by rw [hset]; exact hdoc) hdoc' (Document.withLastPage_last ..)]
    · refine ⟨?_, hdoc', ?_⟩ <;> rw [hset]
      · simp [Body.setDoc]
      · exact ⟨fun j hj => by simp [Body.setDoc, hj], fun m hm => by simp [hm], rfl, rfl⟩
  case another =>
    intro s words h
    have hquiet : execAppendDataBlockEnd words s = .next s.quiet := by
      unfold execAppendDataBlockEnd
      rcases h with h | ⟨m, h⟩ <;> rw [h]
    exact hquiet
  case discarded =>
    intro s words a h
    dsimp only [exec, execAppendDataBlockEnd]
    rw [h]
  case rolled =>
    rintro s words a n old new leaf oldLeaf d page c before lead rest htxn ha rfl hdoc hq hne hbefore hd hp hob hol hnl
      hll hnh hnd hoh hready hwin bytes answer
    refine ⟨fun hr => ?_, fun hr => ?_⟩
    · have hset := Body.settleAppend_spills (bytes := bytes) ha hdoc hq hne hd hp hol hr
      have hdoc' : (s.body.settleAppend a bytes).doc n =
          some (d.withLastPage { page with byteLength := page.byteLength + bytes.length }) := by
        rw [hset]; simp [Body.doc, Body.slot]
      refine ⟨{ s with body := s.body.settleAppend a bytes, txn := .none }, ?_, ?_⟩
      · rw [exec_dataBlockEnd words htxn, Body.lastLength_eq (n := n) (by rw [hset]; exact hdoc) hdoc'
          (Document.withLastPage_last ..)]
      · refine ⟨?_, ?_, ?_, ?_, hdoc', ?_⟩ <;> rw [hset]
        · simp [Body.buffer, hne]
        · simp [Body.buffer] at hnd ⊢; simp [hnd]
        · simp [Body.leaf]
        · exact ⟨fun j h1 h2 => by simp [Body.buffer, h1, h2],
            fun m hm => by simp [Body.leaf, hm], fun m hm => by simp [Body.slot, hm], rfl, rfl⟩
    · have hset := Body.settleAppend_returns (bytes := bytes) ha hdoc hq hne hd hp hob hnl hnh hr
      have hdoc' : (s.body.settleAppend a bytes).doc n = some { d.withLastPage
          { page with byteLength := page.byteLength + bytes.length, slots := page.slots.dropLast } with
            obligations := { lead with charge := lead.charge - 1 } :: rest } := by
        rw [hset]; simp [Body.doc, Body.slot, Document.withLastPage]
      have hready' : s.body.ready.filter (fun j => j ≠ new) = s.body.ready := List.filter_ne_of_notMem hready
      have hwin' : s.body.windows.filter (fun j => j ≠ new) = s.body.windows := List.filter_ne_of_notMem hwin
      have hqueue : (s.body.session a.session).queue.filter (fun j => j ≠ new) = before ++ [old] := by
        rw [hq, List.filter_append, List.filter_ne_of_notMem hbefore]
        simp [hne]
      refine ⟨{ s with body := s.body.settleAppend a bytes, txn := .none }, ?_, ?_⟩
      · rw [exec_dataBlockEnd words htxn, Body.lastLength_eq (n := n) (by rw [hset]; simp [Body.session, ← hdoc]) hdoc'
          (Document.withLastPage_last ..)]
      · refine ⟨?_, ?_, ?_, ?_, hdoc', ?_⟩ <;> rw [hset]
        · simp [Body.buffer, hne]
        · simp [Body.buffer, Buffer.free]
        · simp [Body.leaf, Leaf.blank]
        · simp [Body.bank]
        · rw [hready', hwin', hqueue]
          exact ⟨by simp [Body.account], by simp [Body.session], fun k hk => by simp [Body.session, hk],
            fun k hk => by simp [Body.bank, hk], fun j h1 h2 => by simp [Body.buffer, h1, h2],
            fun m hm => by simp [Body.leaf, hm], fun m hm => by simp [Body.slot, hm],
            fun x hx => by simp [Body.account, hx], rfl, rfl⟩

/-! ### PAGE END -/

theorem Body.endPage_eq {b : Body} {k n tail l : Nat} {d : Document} {page : Page} (x y : Nat) (hd : b.doc n = some d)
    (hp : d.pages.getLast? = some page) (ht : (b.session k).queue.getLast? = some tail)
    (hl : (b.buffer tail).leaf = some l) :
    b.endPage k n x y = { b with
      catalog := Table.write Slot.free b.catalog n
        { b.slot n with doc := some (d.withLastPage { page with state := .closed, counts := some (x, y) }) },
      leaves := Table.write Leaf.blank b.leaves l { b.leaf l with state := .ready },
      buffers := Table.write Buffer.free b.buffers tail { b.buffer tail with state := .ready },
      ready := b.ready ++ [tail],
      sessions := Table.write Session.idle b.sessions k { b.session k with state := .admitted } } := by
  have htail : ((b.setDoc n (d.withLastPage { page with state := .closed, counts := some (x, y) })).session k).tail = tail :=
    Session.tail_eq ht
  unfold Body.endPage
  rw [Body.updDoc_eq _ hd, Document.updLastPage_last _ hp]
  dsimp only
  rw [htail, Body.makeReady_leaf_eq (l := l) (by exact hl)]
  rfl

theorem ownPageEnd_ends {s : State} {x y k n : Nat} {c : Session} {d : Document} {page : Page} (hst : c.state = .inPage)
    (hdoc : c.doc = some n) (hs : s.body.session k = c) (hd : s.body.doc n = some d) (hp : d.pages.getLast? = some page) :
    ownPageEnd x y k c s = ⟨(s.withBody (fun b => b.endPage k n x y)).arbitrate,
      .taken (.pageEnd d.pages.length page.byteLength), .none⟩ := by
  unfold ownPageEnd
  rw [hst]
  dsimp only
  rw [hdoc, Option.getD_some, hd, Body.lastLength_eq (by rw [hs]; exact hdoc) hd hp]
  rfl

theorem exec_pageEnd_open {s : State} {h : Head} {i : Nat} {channel : BitVec 3} {scanlines badLines : BitVec 16}
    {c : Session} (hh : Heard s h (.line i)) (hc : s.body.session (i * 8 + channel.toNat) = c) (hn : c.state ≠ .idle) :
    exec (.pageEnd h channel scanlines badLines) s =
      .next ((ownPageEnd scanlines.toNat badLines.toNat (i * 8 + channel.toNat) (c.moved s.idleDeadline)
          (s.lineView (i * 8 + channel.toNat) c)).state.reply (.line i) .pageEnd
        (ownPageEnd scanlines.toNat badLines.toNat (i * 8 + channel.toNat) (c.moved s.idleDeadline)
          (s.lineView (i * 8 + channel.toNat) c)).verdict
        (ownPageEnd scanlines.toNat badLines.toNat (i * 8 + channel.toNat) (c.moved s.idleDeadline)
          (s.lineView (i * 8 + channel.toNat) c)).block) := by
  dsimp only [exec, execPageEnd]
  exact request_line hh rfl rfl hc hn

/-- Settles O27. -/
theorem pageEndClosesThePage : Obligations.PageEndClosesThePage := by
  intro s h i channel scanlines badLines n tail leaf d page c hh hc hst hdoc htail hd hp hl
  have hview : (s.lineView (i * 8 + channel.toNat) c).body.session (i * 8 + channel.toNat) = c.moved s.idleDeadline := by
    simp
  have hexec := exec_pageEnd_open (scanlines := scanlines) (badLines := badLines) hh hc (by rw [hst]; nofun)
  rw [ownPageEnd_ends (s := s.lineView (i * 8 + channel.toNat) c) (c := c.moved s.idleDeadline) hst hdoc hview hd hp] at hexec
  refine ⟨{ s with
    body := (s.lineView (i * 8 + channel.toNat) c).body.endPage (i * 8 + channel.toNat) n scanlines.toNat badLines.toNat,
    sent := none }, hexec, ?_⟩
  rw [Body.endPage_eq (b := (s.lineView (i * 8 + channel.toNat) c).body) _ _ hd hp (by rw [hview]; exact htail) hl,
    State.lineView_body]
  exact ⟨by simp [Body.doc, Body.slot, Document.withLastPage], by simp [Body.buffer], by simp [Body.leaf], rfl,
    by simp [Body.session, Body.setSession, Session.moved, State.idleDeadline_eq], fun m hm => by simp [Body.slot, hm],
    fun m hm => by simp [Body.leaf, hm], fun m hm => by simp [Body.buffer, hm],
    fun m hm => by simp [Body.session, Body.setSession, hm], rfl, rfl⟩

end Sys2Proof.Machine
end

section
/-! Session requests that are turned away: their answers, and the page that is CUT where a page or the store is full (R45,
R46, R48, R49, R51 to R54, R57, R58, R61). -/

namespace Sys2Proof.Machine

/-! ### Canonical tables and their entries -/

/-- The entries of a table in canonical form are the numbers that do not read as the default. -/
theorem Table.mem_iff_read {α : Type} [DecidableEq α] {d : α} {t : Table α} (h : Table.wf d t) (n : Nat) (v : α) :
    (n, v) ∈ t ↔ v ≠ d ∧ Table.read d t n = v := by
  obtain ⟨hsort, hlisted⟩ := h
  induction t with
  | nil => simp [eq_comm]
  | cons e t ih =>
    obtain ⟨k, w⟩ := e
    obtain ⟨hk, hsort⟩ := List.pairwise_cons.1 hsort
    have htail := ih hsort fun p hp => hlisted p (List.mem_cons_of_mem _ hp)
    have hw : w ≠ d := hlisted (k, w) List.mem_cons_self
    have hread : Table.read d ((k, w) :: t) n = if n = k then w else Table.read d t n := rfl
    rw [List.mem_cons, htail, hread]
    by_cases hn : n = k
    · subst hn
      have hnot : ¬ (v ≠ d ∧ Table.read d t n = v) := fun hv => absurd (hk _ (htail.2 hv)) (Nat.lt_irrefl n)
      simp only [if_pos, Prod.mk.injEq, true_and]
      constructor
      · rintro (rfl | hv)
        · exact ⟨hw, rfl⟩
        · exact absurd hv hnot
      · exact fun ⟨_, hv⟩ => Or.inl hv.symm
    · rw [if_neg hn]
      simp [hn]

theorem Body.leafOnItsWay_iff {b : Body} (h : Table.wf Leaf.blank b.leaves) :
    b.leafOnItsWay = true ↔ ∃ l, (b.leaf l).state = .void ∨ (b.leaf l).state = .voiding ∨ (b.leaf l).state = .erasing := by
  unfold Body.leafOnItsWay Body.leaf
  simp only [List.any_eq_true, Bool.or_eq_true, beq_iff_eq, Prod.exists]
  constructor
  · rintro ⟨l, v, hm, hv⟩
    refine ⟨l, ?_⟩
    rw [((Table.mem_iff_read h l v).1 hm).2]
    tauto
  · rintro ⟨l, hl⟩
    refine ⟨l, Table.read Leaf.blank b.leaves l, (Table.mem_iff_read h _ _).2 ⟨fun hb => ?_, rfl⟩, by tauto⟩
    rw [hb] at hl
    simp [Leaf.blank] at hl

/-! ### The session as a turned-away request leaves it -/

/-- The part as a line request leaves it that changes no more than its session's state and deadline (R45). -/
def State.sessionAs (s : State) (k : Nat) (c : Session) (st : SessState) : State :=
  { s with
    sent := none,
    body := if c.state = .idle then s.body else s.body.setSession k
      { c with state := st, deadline := some (min (s.time.run + s.tables.idleTimeout) 281474976710655) } }

section
variable {s : State} {k : Nat} {c : Session}

theorem State.sessionAs_idle (hi : c.state = .idle) (st : SessState) : s.sessionAs k c st = { s with sent := none } := by
  unfold State.sessionAs; rw [if_pos hi]

theorem State.sessionAs_open (hi : c.state ≠ .idle) (st : SessState) :
    s.sessionAs k c st = { s with
      sent := none, body := s.body.setSession k { c.moved s.idleDeadline with state := st } } := by
  unfold State.sessionAs; rw [if_neg hi]; rfl

end

section
variable {s : State} {h : Head} {i : Nat} {op : Op} {formed : Role → Bool} {channel : BitVec 3} {c : Session}
  {owner : Nat → Session → State → Taken} {v : Verdict}

/-- A line request of an IDLE session that its owner turns away. -/
theorem request_line_idle_away (hh : Heard s h (.line i)) (hp : op.permits (.line i) = true)
    (hf : formed (.line i) = true) (hc : s.body.session (i * 8 + channel.toNat) = c) (hi : c.state = .idle)
    (ho : owner (i * 8 + channel.toNat) c s.nextPacket = Taken.turnedAway s.nextPacket v) :
    request s h op formed (lineOwner channel owner) =
      .next ((s.sessionAs (i * 8 + channel.toNat) c c.state).reply (.line i) op v .none) := by
  rw [request_line_idle hh hp hf hc hi, ho, State.sessionAs_idle hi]
  rfl

/-- A line request of an open session that its owner turns away (R45). -/
theorem request_line_away (hh : Heard s h (.line i)) (hp : op.permits (.line i) = true) (hf : formed (.line i) = true)
    (hc : s.body.session (i * 8 + channel.toNat) = c) (hi : c.state ≠ .idle)
    (ho : owner (i * 8 + channel.toNat) (c.moved s.idleDeadline) (s.lineView (i * 8 + channel.toNat) c) =
      Taken.turnedAway (s.lineView (i * 8 + channel.toNat) c) v) :
    request s h op formed (lineOwner channel owner) =
      .next ((s.sessionAs (i * 8 + channel.toNat) c c.state).reply (.line i) op v .none) := by
  rw [request_line hh hp hf hc hi, ho, State.sessionAs_open hi]
  rfl

end

/-! ### OPEN CALL turned away -/

section
variable {s : State} {h : Head} {i : Nat} {channel : BitVec 3} {c : Session} {extension : BitVec 24} {length : BitVec 5}
  {identity : BitVec 80}

theorem openCall_channelBusy (hh : Heard s h (.line i)) (hc : s.body.session (i * 8 + channel.toNat) = c)
    (he : (extensionOf extension).isSome = true) (hi : (identityOf length identity).isSome = true) (hn : c.state ≠ .idle) :
    exec (.openCall h channel extension length identity) s =
      .next ((s.sessionAs (i * 8 + channel.toNat) c c.state).reply (.line i) .openCall (.denied .channelBusy) .none) := by
  dsimp only [exec, execOpenCall]
  exact request_line_away hh rfl (by simp [he, hi]) hc hn (by unfold ownOpenCall; rw [if_pos (by simpa using hn)])

theorem openCall_idle_away {v : Verdict} (hh : Heard s h (.line i)) (hc : s.body.session (i * 8 + channel.toNat) = c)
    (he : (extensionOf extension).isSome = true) (hi : (identityOf length identity).isSome = true) (hn : c.state = .idle)
    (ho : ∀ ext caller k u, u.body = s.body → u.tables = s.tables → ownOpenCall ext caller k c u = Taken.turnedAway u v) :
    exec (.openCall h channel extension length identity) s =
      .next ((s.sessionAs (i * 8 + channel.toNat) c c.state).reply (.line i) .openCall v .none) := by
  dsimp only [exec, execOpenCall]
  exact request_line_idle_away hh rfl (by simp [he, hi]) hc hn (ho _ _ _ _ rfl rfl)

end

/-- OPEN CALL's owner on a free channel that cannot admit the call (R46). -/
theorem ownOpenCall_exhausted {ext caller : Option (List Nat)} {k : Nat} {c : Session} {s : State} (hc : c.state = .idle)
    (hs : 4294967296 ≤ s.body.nextSerial) :
    ownOpenCall ext caller k c s = Taken.turnedAway s (.denied .serialExhausted) := by
  unfold ownOpenCall
  rw [if_neg (by simp [hc]), if_pos (show Config.serialEnd ≤ _ from hs)]

theorem ownOpenCall_catalogFull {ext caller : Option (List Nat)} {k : Nat} {c : Session} {s : State} (hc : c.state = .idle)
    (hs : s.body.nextSerial < 4294967296) (hn : s.body.lowestFreeSlot = none) :
    ownOpenCall ext caller k c s = Taken.turnedAway s (.defer .catalogFull) := by
  unfold ownOpenCall
  rw [if_neg (by simp [hc]), if_neg (show ¬ Config.serialEnd ≤ _ from Nat.not_le.2 hs), hn]

theorem ownOpenCall_storeLow {ext caller : Option (List Nat)} {k n : Nat} {c : Session} {s : State} (hc : c.state = .idle)
    (hs : s.body.nextSerial < 4294967296) (hn : s.body.lowestFreeSlot = some n) (hf : s.body.deviceBlank < s.tables.floor) :
    ownOpenCall ext caller k c s = Taken.turnedAway s (.defer .storeLow) := by
  unfold ownOpenCall
  rw [if_neg (by simp [hc]), if_neg (show ¬ Config.serialEnd ≤ _ from Nat.not_le.2 hs), hn]
  dsimp only
  rw [if_pos hf]

/-! ### PAGE BEGIN turned away -/

/-- PAGE BEGIN's owner for an ADMITTED session (R49). -/
theorem ownPageBegin_admitted {s : State} {dens : Density} {wid : PageWidth} {coding k n : Nat} {c : Session}
    {d : Document} (hc : c.state = .admitted) (hdoc : c.doc = some n) (hd : s.body.doc n = some d) :
    ownPageBegin dens wid coding k c s =
      if 999 ≤ d.pages.length then Taken.turnedAway s (.denied .tooManyPages)
      else match s.body.room k with
        | .ringFull => Taken.turnedAway s (.defer .ringFull)
        | .stagingFull => Taken.turnedAway s (.defer .stagingFull)
        | .storeBusy => Taken.turnedAway s (.defer .storeBusy)
        | .storeFull => Taken.turnedAway
            (s.withBody (fun b => b.setSession k { b.session k with state := .stopped })) (.denied .storeFull)
        | .found i l =>
          if 65536 ≤ s.body.pageRecords then Taken.turnedAway s (.defer .storeBusy)
          else ⟨(s.withBody (fun b => b.beginPage k n d (newPage dens wid coding l) i l)).arbitrate,
            .taken (.pageBegin (d.pages.length + 1)), .none⟩ := by
  unfold ownPageBegin
  rw [hc]
  dsimp only
  rw [hdoc, Option.getD_some, hd]
  rfl

section
variable {s : State} {h : Head} {i : Nat} {channel : BitVec 3} {c : Session} {density width : BitVec 2}

theorem pageBegin_idle (hh : Heard s h (.line i)) (hc : s.body.session (i * 8 + channel.toNat) = c)
    (hd : density.toNat ≤ 2) (hw : width.toNat ≤ 2) (coding : BitVec 2) (hn : c.state = .idle) :
    exec (.pageBegin h channel density width coding) s =
      .next ((s.sessionAs (i * 8 + channel.toNat) c c.state).reply (.line i) .pageBegin (.denied .noSession) .none) := by
  dsimp only [exec, execPageBegin]
  exact request_line_idle_away hh rfl (by simp [densityOf_isSome, widthOf_isSome, hd, hw]) hc hn
    (by unfold ownPageBegin; rw [hn])

theorem pageBegin_away {v : Verdict} (hh : Heard s h (.line i)) (hc : s.body.session (i * 8 + channel.toNat) = c)
    (hd : density.toNat ≤ 2) (hw : width.toNat ≤ 2) (coding : BitVec 2) (hn : c.state ≠ .idle)
    (ho : ∀ dens wid, ownPageBegin dens wid coding.toNat (i * 8 + channel.toNat) (c.moved s.idleDeadline)
      (s.lineView (i * 8 + channel.toNat) c) = Taken.turnedAway (s.lineView (i * 8 + channel.toNat) c) v) :
    exec (.pageBegin h channel density width coding) s =
      .next ((s.sessionAs (i * 8 + channel.toNat) c c.state).reply (.line i) .pageBegin v .none) := by
  dsimp only [exec, execPageBegin]
  exact request_line_away hh rfl (by simp [densityOf_isSome, widthOf_isSome, hd, hw]) hc hn (ho _ _)

/-- PAGE BEGIN at a full store makes the session STOPPED (R49). -/
theorem pageBegin_stops (hh : Heard s h (.line i)) (hc : s.body.session (i * 8 + channel.toNat) = c)
    (hd : density.toNat ≤ 2) (hw : width.toNat ≤ 2) (coding : BitVec 2) (hn : c.state = .admitted) {n : Nat}
    {d : Document} (hdoc : c.doc = some n) (hf : s.body.doc n = some d) (hp : d.pages.length < 999)
    (hroom : (s.lineView (i * 8 + channel.toNat) c).body.room (i * 8 + channel.toNat) = .storeFull) :
    exec (.pageBegin h channel density width coding) s =
      .next ((s.sessionAs (i * 8 + channel.toNat) c .stopped).reply (.line i) .pageBegin (.denied .storeFull) .none) := by
  have hopen : c.state ≠ .idle := by rw [hn]; nofun
  have hbody : ((s.body.setSession (i * 8 + channel.toNat) (c.moved s.idleDeadline)).setSession (i * 8 + channel.toNat)
      { (s.body.setSession (i * 8 + channel.toNat) (c.moved s.idleDeadline)).session (i * 8 + channel.toNat) with
        state := .stopped }) = s.body.setSession (i * 8 + channel.toNat) { c.moved s.idleDeadline with state := .stopped } := by
    rw [Body.setSession_session, if_pos rfl]
    unfold Body.setSession
    rw [Table.write_write (Session.moved_ne_idle _ _)]
  dsimp only [exec, execPageBegin]
  rw [request_line hh rfl (by simp [densityOf_isSome, widthOf_isSome, hd, hw]) hc hopen,
    ownPageBegin_admitted (s := s.lineView (i * 8 + channel.toNat) c) (c := c.moved s.idleDeadline) hn hdoc hf, if_neg (Nat.not_le.2 hp), hroom,
    State.sessionAs_open hopen, ← hbody]
  rfl

end

/-! ### The room that a session's request finds -/

section
variable {s : State} {k : Nat} {c : Session}

theorem State.lineView_ringFull (h : 4 ≤ c.queue.length) : (s.lineView k c).body.room k = .ringFull :=
  Body.room_ringFull (by simpa using h)

theorem State.lineView_stagingFull (h : c.queue.length < 4) (hb : ∀ j, j < 144 → (s.body.buffer j).state ≠ .free) :
    (s.lineView k c).body.room k = .stagingFull :=
  Body.room_stagingFull (by simpa using h) (Body.lowestFreeBuffer_none.2 hb)

theorem State.lineView_noLeaf (h : c.queue.length < 4) (hb : ¬ ∀ j, j < 144 → (s.body.buffer j).state ≠ .free)
    (hl : ∀ j, j < 4 → (s.body.bank j).blank = []) :
    (s.lineView k c).body.room k = if s.body.leafOnItsWay then .storeBusy else .storeFull := by
  obtain ⟨i, hi⟩ := Option.ne_none_iff_exists'.1 fun hn => hb (Body.lowestFreeBuffer_none.1 hn)
  exact Body.room_noLeaf (by simpa using h) (show s.body.lowestFreeBuffer = some i from hi)
    ((Body.nextLeaf_none _).2 ((Body.allocationBank_none _).2 hl))

theorem State.lineView_found (h : c.queue.length < 4) (hb : ¬ ∀ j, j < 144 → (s.body.buffer j).state ≠ .free)
    (hl : ¬ ∀ j, j < 4 → (s.body.bank j).blank = []) : ∃ i l, (s.lineView k c).body.room k = .found i l := by
  obtain ⟨i, hi⟩ := Option.ne_none_iff_exists'.1 fun hn => hb (Body.lowestFreeBuffer_none.1 hn)
  obtain ⟨l, hl⟩ := Option.ne_none_iff_exists'.1 fun hn =>
    hl ((Body.allocationBank_none s.body).1 ((Body.nextLeaf_none s.body).1 hn))
  exact ⟨i, l, State.lineView_room h hi hl⟩

end

/-! ### APPEND turned away -/

section
variable {s : State} {h : Head} {i : Nat} {channel : BitVec 3} {c : Session} {count : BitVec 9} {v : Verdict}

theorem append_idle (hh : Heard s h (.line i)) (h1 : 1 ≤ count.toNat) (h2 : count.toNat ≤ 256)
    (hc : s.body.session (i * 8 + channel.toNat) = c) (hn : c.state = .idle) :
    exec (.append h channel count) s =
      .next ((s.sessionAs (i * 8 + channel.toNat) c c.state).discard (.line i) (.denied .noSession)) := by
  rw [exec_append_idle hh h1 h2 hc hn, State.sessionAs_idle hn]
  unfold ownAppend
  rw [hn]
  rfl

theorem append_away (hh : Heard s h (.line i)) (h1 : 1 ≤ count.toNat) (h2 : count.toNat ≤ 256)
    (hc : s.body.session (i * 8 + channel.toNat) = c) (hn : c.state ≠ .idle)
    (ho : ownAppend count.toNat (i * 8 + channel.toNat) (c.moved s.idleDeadline) (s.lineView (i * 8 + channel.toNat) c) =
      .away (s.lineView (i * 8 + channel.toNat) c) v) :
    exec (.append h channel count) s = .next ((s.sessionAs (i * 8 + channel.toNat) c c.state).discard (.line i) v) := by
  rw [exec_append_open hh h1 h2 hc hn, ho, State.sessionAs_open hn]
  rfl

end

theorem Body.cutPage_eq {b : Body} {k n tail l : Nat} {d : Document} {page : Page} (st : SessState)
    (hs : (b.session k).doc = some n) (hd : b.doc n = some d) (hp : d.pages.getLast? = some page)
    (ht : (b.session k).queue.getLast? = some tail) (hl : (b.buffer tail).leaf = some l) :
    b.cutPage k st = { b with
      catalog := Table.write Slot.free b.catalog n { b.slot n with doc := some (d.withLastPage page.cut) },
      leaves := Table.write Leaf.blank b.leaves l { b.leaf l with state := .ready },
      buffers := Table.write Buffer.free b.buffers tail { b.buffer tail with state := .ready },
      ready := b.ready ++ [tail],
      sessions := Table.write Session.idle b.sessions k { b.session k with state := st } } := by
  have hcut : b.cutPage k st = ((b.updDoc n (fun d => d.updLastPage Page.cut)).makeReady tail).setSession k
      { ((b.updDoc n (fun d => d.updLastPage Page.cut)).makeReady tail).session k with state := st } := by
    unfold Body.cutPage
    dsimp only
    rw [hs, Session.tail_eq ht]
  rw [hcut, Body.updDoc_eq _ hd, Document.updLastPage_last _ hp, Body.makeReady_leaf_eq (l := l) (by exact hl)]
  rfl

/-- An APPEND that cuts its page: the states before it and before idle banks choose (R53, R54). -/
def PageCut (s u : State) (k n tail leaf : Nat) (f : Document) (page : Page) (c : Session) (st : SessState) : Prop :=
  u.body.doc n = some { f with pages := f.pages.dropLast ++ [if page.state = .openPage
    then { page with state := .cut, counts := none } else page] } ∧
  u.body.buffer tail = { s.body.buffer tail with state := .ready } ∧
  u.body.leaf leaf = { s.body.leaf leaf with state := .ready } ∧ u.body.ready = s.body.ready ++ [tail] ∧
  u.body.session k = { c with
    state := st, deadline := some (min (s.time.run + s.tables.idleTimeout) 281474976710655) } ∧
  (∀ m, m ≠ n → u.body.slot m = s.body.slot m) ∧ (∀ l, l ≠ leaf → u.body.leaf l = s.body.leaf l) ∧
  (∀ j, j ≠ tail → u.body.buffer j = s.body.buffer j) ∧ (∀ j, j ≠ k → u.body.session j = s.body.session j) ∧
  u.body = { s.body with catalog := u.body.catalog, leaves := u.body.leaves, buffers := u.body.buffers,
                         ready := u.body.ready, sessions := u.body.sessions } ∧
  u = { s with body := u.body, txn := .none, sent := none }

section
variable {s : State} {k n tail leaf : Nat} {f : Document} {page : Page} {c : Session}

theorem State.pageCut (hdoc : c.doc = some n) (hf : s.body.doc n = some f) (hp : f.pages.getLast? = some page)
    (ht : c.queue.getLast? = some tail) (hl : (s.body.buffer tail).leaf = some leaf) (st : SessState) :
    PageCut s ((s.lineView k c).withBody (fun b => b.cutPage k st)) k n tail leaf f page c st := by
  have hview : (s.lineView k c).body.session k = c.moved s.idleDeadline := by simp
  have hcut := Body.cutPage_eq (b := (s.lineView k c).body) (k := k) (l := leaf) st (by rw [hview]; exact hdoc) hf hp
    (by rw [hview]; exact ht) hl
  have hbody : ((s.lineView k c).withBody (fun b => b.cutPage k st)).body = _ := hcut
  refine ⟨?_, ?_, ?_, ?_, ?_, fun m hm => ?_, fun m hm => ?_, fun j hj => ?_, fun j hj => ?_, ?_, ?_⟩
  · rw [hbody, State.lineView_body]; simp [Body.doc, Body.slot, Document.withLastPage, Page.cut]
  · rw [hbody, State.lineView_body]; simp [Body.buffer]
  · rw [hbody, State.lineView_body]; simp [Body.leaf]
  · rw [hbody]; rfl
  · rw [hbody, State.lineView_body]; simp [Body.session, Body.setSession, Session.moved, State.idleDeadline_eq]
  · rw [hbody, State.lineView_body]; simp [Body.slot, hm]
  · rw [hbody, State.lineView_body]; simp [Body.leaf, hm]
  · rw [hbody, State.lineView_body]; simp [Body.buffer, hj]
  · rw [hbody, State.lineView_body]; simp [Body.session, Body.setSession, hj]
  · rw [hbody]; rfl
  · rfl

end

/-- An APPEND that does not fit and cuts its page waits for its block to be discarded (R53, R54, R171). -/
theorem append_cuts {s : State} {h : Head} {i : Nat} {channel : BitVec 3} {count : BitVec 9} {c : Session}
    {n tail leaf : Nat} {f : Document} {page : Page} {v : Verdict} {st : SessState} (hh : Heard s h (.line i))
    (h1 : 1 ≤ count.toNat) (h2 : count.toNat ≤ 256) (hc : s.body.session (i * 8 + channel.toNat) = c)
    (hst : c.state = .inPage) (hdoc : c.doc = some n) (hf : s.body.doc n = some f) (hp : f.pages.getLast? = some page)
    (ht : c.queue.getLast? = some tail) (hl : (s.body.buffer tail).leaf = some leaf)
    (ho : ownAppend count.toNat (i * 8 + channel.toNat) (c.moved s.idleDeadline) (s.lineView (i * 8 + channel.toNat) c) =
      .away ((s.lineView (i * 8 + channel.toNat) c).withBody
        (fun b => b.cutPage (i * 8 + channel.toNat) st)).arbitrate v) :
    ∃ u : State, exec (.append h channel count) s = .next (u.arbitrate.discard (.line i) v) ∧
      PageCut s u (i * 8 + channel.toNat) n tail leaf f page c st := by
  refine ⟨_, ?_, State.pageCut hdoc hf hp ht hl st⟩
  rw [exec_append_open hh h1 h2 hc (by rw [hst]; nofun), ho]
  rfl

/-- Settles O29. -/
theorem sessionRequestsTurnedAwayGetTheirAnswer : Obligations.SessionRequestsTurnedAwayGetTheirAnswer := by
  refine ⟨?line, ?endSession⟩
  case endSession =>
    intro s h session hh hs hi
    dsimp only [exec, execEndSession]
    rw [request_taken hh nofun rfl (decide_eq_true hs), State.nextPacket_body, if_pos hi]
    rfl
  case line =>
    intro s h i channel c hh hc
    refine ⟨?openCall, ?pageBegin, ?append, ?pageEnd, ?closeCall⟩
    case openCall =>
      intro e l v he hi
      refine ⟨fun hn => openCall_channelBusy hh hc he hi hn, fun hn hs => ?_, fun hn hs hfull => ?_,
        fun hn hs hfull hlow => ?_⟩
      · exact openCall_idle_away hh hc he hi hn fun _ _ _ u hb _ => ownOpenCall_exhausted hn (by rw [hb]; exact hs)
      · exact openCall_idle_away hh hc he hi hn fun _ _ _ u hb _ =>
          ownOpenCall_catalogFull hn (by rw [hb]; exact hs) (by rw [hb]; exact Body.lowestFreeSlot_none.2 hfull)
      · obtain ⟨n, hslot⟩ := Option.ne_none_iff_exists'.1 fun hn => hfull (Body.lowestFreeSlot_none.1 hn)
        exact openCall_idle_away hh hc he hi hn fun _ _ _ u hb ht =>
          ownOpenCall_storeLow (n := n) hn (by rw [hb]; exact hs) (by rw [hb]; exact hslot) (by rw [hb, ht]; exact hlow)
    case pageBegin =>
      intro d w x hd hw
      have away := fun (st : SessState) (e : Denied) (hn : c.state = st) (hi : st ≠ .idle)
        (ho : ∀ dens wid k y u, y.state = st → ownPageBegin dens wid x.toNat k y u = Taken.turnedAway u (.denied e)) =>
        pageBegin_away hh hc hd hw x (hn ▸ hi) fun dens wid => ho dens wid _ _ _ hn
      refine ⟨fun hn => pageBegin_idle hh hc hd hw x hn, fun hn => away .inPage _ hn nofun fun _ _ _ y _ hy => ?_,
        fun hn => away .stopped _ hn nofun fun _ _ _ y _ hy => ?_, fun n f hn hdoc hf => ?_⟩
      · unfold ownPageBegin; rw [hy]
      · unfold ownPageBegin; rw [hy]
      have hopen : c.state ≠ .idle := by rw [hn]; nofun
      have howner := fun dens wid => ownPageBegin_admitted (s := s.lineView (i * 8 + channel.toNat) c)
        (c := c.moved s.idleDeadline) (dens := dens) (wid := wid) (coding := x.toNat) (k := i * 8 + channel.toNat)
        hn hdoc hf
      refine ⟨fun hp => ?_, fun hp hq => ?_, fun hp hq => ⟨fun hb => ?_, fun hb hl hwf => ⟨fun hway => ?_, fun hway => ?_⟩,
        fun hb hl hrec => ?_⟩⟩
      · exact pageBegin_away hh hc hd hw x hopen fun dens wid => by rw [howner, if_pos hp]
      · exact pageBegin_away hh hc hd hw x hopen fun dens wid => by
          rw [howner, if_neg (Nat.not_le.2 hp), State.lineView_ringFull hq]
      · exact pageBegin_away hh hc hd hw x hopen fun dens wid => by
          rw [howner, if_neg (Nat.not_le.2 hp), State.lineView_stagingFull hq hb]
      · exact pageBegin_away hh hc hd hw x hopen fun dens wid => by
          rw [howner, if_neg (Nat.not_le.2 hp), State.lineView_noLeaf hq hb hl,
            if_pos ((Body.leafOnItsWay_iff hwf).2 hway)]
      · exact pageBegin_stops hh hc hd hw x hn hdoc hf hp (by
          rw [State.lineView_noLeaf hq hb hl, if_neg fun h => hway ((Body.leafOnItsWay_iff hwf).1 h)])
      · obtain ⟨buf, l, hroom⟩ := State.lineView_found (k := i * 8 + channel.toNat) hq hb hl
        exact pageBegin_away hh hc hd hw x hopen fun dens wid => by
          rw [howner, if_neg (Nat.not_le.2 hp), hroom]
          exact if_pos hrec
    case append =>
      intro count h1 h2
      have away := fun (st : SessState) (e : Denied) (hn : c.state = st) (hi : st ≠ .idle)
        (ho : ∀ k y u, y.state = st → ownAppend count.toNat k y u = .away u (.denied e)) =>
        append_away hh h1 h2 hc (hn ▸ hi) (ho _ _ _ hn)
      refine ⟨fun hn => append_idle hh h1 h2 hc hn, fun hn => away .admitted _ hn nofun fun _ y _ hy => ?_,
        fun hn => away .stopped _ hn nofun fun _ y _ hy => ?_, fun n f page tail leaf hn hdoc hf hp ht hl hover => ?_⟩
      · unfold ownAppend; rw [hy]
      · unfold ownAppend; rw [hy]
      have hopen : c.state ≠ .idle := by rw [hn]; nofun
      have hlen : ((s.lineView (i * 8 + channel.toNat) c).body.buffer (c.moved s.idleDeadline).tail).data.length =
          (s.body.buffer tail).data.length := by rw [Session.moved_tail, Session.tail_eq ht]; rfl
      have howner := ownAppend_overflows (s := s.lineView (i * 8 + channel.toNat) c) (c := c.moved s.idleDeadline)
        (k := i * 8 + channel.toNat) hn hdoc hf hp (by rw [hlen]; exact hover)
      refine ⟨fun hs => append_cuts hh h1 h2 hc hn hdoc hf hp ht hl ?_, fun hs hq => ?_, fun hs hq => ⟨fun hb => ?_, fun hb hnl hwf =>
        ⟨fun hway => ?_, fun hway => append_cuts hh h1 h2 hc hn hdoc hf hp ht hl ?_⟩⟩⟩
      · rw [howner, if_pos hs]
      · exact append_away hh h1 h2 hc hopen (by rw [howner, if_neg (Nat.not_le.2 hs), State.lineView_ringFull hq])
      · exact append_away hh h1 h2 hc hopen (by rw [howner, if_neg (Nat.not_le.2 hs), State.lineView_stagingFull hq hb])
      · exact append_away hh h1 h2 hc hopen (by
          rw [howner, if_neg (Nat.not_le.2 hs), State.lineView_noLeaf hq hb hnl,
            if_pos ((Body.leafOnItsWay_iff hwf).2 hway)])
      · rw [howner, if_neg (Nat.not_le.2 hs), State.lineView_noLeaf hq hb hnl,
          if_neg fun h => hway ((Body.leafOnItsWay_iff hwf).1 h)]
    case pageEnd =>
      intro x y
      dsimp only [exec, execPageEnd]
      refine ⟨fun hn => request_line_idle_away hh rfl rfl hc hn ?_,
        fun hn => request_line_away hh rfl rfl hc (by rw [hn]; nofun) ?_,
        fun hn => request_line_away hh rfl rfl hc (by rw [hn]; nofun) ?_⟩
      · unfold ownPageEnd; rw [hn]
      · unfold ownPageEnd; rw [Session.moved_state, hn]
      · unfold ownPageEnd; rw [Session.moved_state, hn]
    case closeCall =>
      intro e he hn
      dsimp only [exec, execCloseCall]
      exact request_line_idle_away hh rfl ((closeEndingOf_isSome _).2 he) hc hn (by unfold ownCloseCall; rw [hn])

end Sys2Proof.Machine
end

section
/-! The close of a document and of a session: each part of what changes, and what stays (R8, R9, R59, R109, R116, R144). -/

namespace Sys2Proof.Machine

/-! ### The charge of a list of obligations -/

@[simp] theorem chargeOf_nil (x : Nat) : chargeOf [] x = 0 := rfl

theorem chargeOf_cons (o : Obligation) (os : List Obligation) (x : Nat) :
    chargeOf (o :: os) x = (if o.department = x then o.charge else 0) + chargeOf os x := by
  unfold chargeOf
  rw [List.filter_cons]
  by_cases h : o.department = x <;> simp [h]

theorem chargeOf_append (os ps : List Obligation) (x : Nat) :
    chargeOf (os ++ ps) x = chargeOf os x + chargeOf ps x := by simp [chargeOf]

theorem chargeOf_of_notMem {os : List Obligation} {x : Nat} (h : x ∉ os.map (fun o => o.department)) :
    chargeOf os x = 0 := by
  unfold chargeOf
  rw [List.filter_eq_nil_iff.2]
  · rfl
  · intro o ho hx
    exact h (List.mem_map.2 ⟨o, ho, by simpa using hx⟩)

/-- A charge depends on departments and charges alone. -/
theorem chargeOf_map {os : List Obligation} {f : Obligation → Obligation} (hd : ∀ o, (f o).department = o.department)
    (hc : ∀ o, (f o).charge = o.charge) (x : Nat) : chargeOf (os.map f) x = chargeOf os x := by
  induction os with
  | nil => rfl
  | cons o os ih => rw [List.map_cons, chargeOf_cons, chargeOf_cons, ih, hd, hc]

/-! ### Accounts that move -/

@[simp] theorem Body.charge_account (b : Body) (d n x : Nat) :
    (b.charge d n).account x = if x = d then b.account d + n else b.account x := by simp [Body.charge]

@[simp] theorem Body.discharge_account (b : Body) (d n x : Nat) :
    (b.discharge d n).account x = if x = d then b.account d - n else b.account x := by simp [Body.discharge]

theorem Body.moveAccounts_cons (b : Body) (o p : Obligation) (os ps : List Obligation) :
    b.moveAccounts (o :: os) (p :: ps) =
      ((b.charge p.department p.charge).discharge o.department o.charge).moveAccounts os ps := rfl

/-- Where each obligation keeps its department and no department holds two, every account moves by its department's
charges. -/
theorem Body.moveAccounts_account (b : Body) {old new : List Obligation}
    (hd : new.map (fun o => o.department) = old.map (fun o => o.department))
    (hn : (old.map (fun o => o.department)).Nodup) (x : Nat) :
    (b.moveAccounts old new).account x = b.account x + chargeOf new x - chargeOf old x := by
  induction old generalizing b new with
  | nil =>
    obtain rfl : new = [] := List.map_eq_nil_iff.1 hd
    rfl
  | cons o os ih =>
    obtain ⟨p, ps, rfl⟩ : ∃ p ps, new = p :: ps := by
      cases new with
      | nil => simp at hd
      | cons p ps => exact ⟨p, ps, rfl⟩
    simp only [List.map_cons, List.cons.injEq] at hd
    obtain ⟨hp, hps⟩ := hd
    obtain ⟨hnot, hn⟩ := List.nodup_cons.1 hn
    rw [Body.moveAccounts_cons, ih _ hps hn, chargeOf_cons, chargeOf_cons, hp]
    by_cases hx : o.department = x
    · subst hx
      rw [chargeOf_of_notMem hnot, chargeOf_of_notMem (hps ▸ hnot)]
      simp
    · simp [hx, Ne.symm hx]

/-! ### The record at the close -/

theorem List.getLast?_toList_append_dropLast {α : Type} (l : List α) : l.dropLast ++ l.getLast?.toList = l := by
  cases l using List.reverseRecOn with
  | nil => rfl
  | append_singleton l x => simp

theorem Document.updLastPage_pages (d : Document) (f : Page → Page) :
    (d.updLastPage f).pages = d.pages.dropLast ++ (d.pages.getLast?.map f).toList := by
  cases h : d.pages.getLast? with
  | none =>
    have hn := List.getLast?_eq_none_iff.1 h
    unfold Document.updLastPage Document.updPage
    rw [hn]
    rfl
  | some p => rw [Document.updLastPage_last f h]; rfl

@[simp] theorem Page.cut_slots (p : Page) : p.cut.slots = p.slots := by unfold Page.cut; split_ifs <;> rfl

theorem Document.stampClose_pages (d : Document) (e : Ending) (r : Stamp) :
    (d.stampClose e r).pages = d.pages.dropLast ++ (d.pages.getLast?.map Page.cut).toList :=
  Document.updLastPage_pages d Page.cut

@[simp] theorem Document.stampClose_obligations (d : Document) (e : Ending) (r : Stamp) :
    (d.stampClose e r).obligations = d.obligations := rfl

@[simp] theorem Document.stampClose_leafCount (d : Document) (e : Ending) (r : Stamp) :
    (d.stampClose e r).leafCount = d.leafCount := by
  unfold Document.leafCount
  rw [Document.stampClose_pages]
  conv_rhs => rw [← List.getLast?_toList_append_dropLast d.pages]
  cases d.pages.getLast? <;> simp

@[simp] theorem Document.stampClose_apportioned (d : Document) (e : Ending) (r : Stamp) :
    (d.stampClose e r).apportioned = d.apportioned := by
  unfold Document.apportioned
  rw [Document.stampClose_leafCount, Document.stampClose_obligations]

theorem mem_insertRising (n x : Nat) (l : List Nat) : x ∈ insertRising n l ↔ x = n ∨ x ∈ l := by
  induction l with
  | nil => simp [insertRising]
  | cons y l ih =>
    unfold insertRising
    split_ifs with h1 h2
    · simp
    · subst h2; simp
    · simp only [List.mem_cons, ih]; tauto

theorem mem_foldl_insertRising (l acc : List Nat) (x : Nat) :
    x ∈ l.foldl (fun acc n => insertRising n acc) acc ↔ x ∈ acc ∨ x ∈ l := by
  induction l generalizing acc with
  | nil => simp
  | cons y l ih => rw [List.foldl_cons, ih, mem_insertRising, List.mem_cons]; tauto

/-- `f` is the document `d` after a close that kept it (R8, R109, R116, R144). -/
def Document.ClosedAs (t : Tables) (tb : Timebase) (d f : Document) (ending : Ending) : Prop :=
  f = { d with state := .distributing, ending := some ending, session := none,
               receipt := some ⟨tb.clock, tb.trusted⟩, pages := f.pages, obligations := f.obligations,
               base := f.base, departments := f.departments, retainUntil := f.retainUntil } ∧
    f.pages = d.pages.dropLast ++ (d.pages.getLast?.map Page.cut).toList ∧
    f.obligations = d.apportioned.map (fun o => { o with deadline := t.deadline o.department o.kind tb.run }) ∧
    (∀ x, x ∈ f.departments ↔ ∃ o ∈ d.obligations, o.department = x) ∧
    (tb.trusted = true → f.base = .known tb.clock ∧
      f.retainUntil = .known (min (tb.clock + t.longestRetention f.departments * 5529600) 281474976710655)) ∧
    (tb.trusted = false → f.base = .pending ∧ f.retainUntil = .pending)

theorem Document.apportioned_departments (d : Document) :
    d.apportioned.map (fun o => o.department) = d.obligations.map (fun o => o.department) :=
  apportion_map _ (fun _ _ => rfl) _ _ _

/-- The record that a close keeps. -/
def Document.kept (t : Tables) (tb : Timebase) (d : Document) (ending : Ending) : Document :=
  (d.stampClose ending ⟨tb.clock, tb.trusted⟩).distribute t tb.run ⟨tb.clock, tb.trusted⟩

theorem Document.kept_pages (t : Tables) (tb : Timebase) (d : Document) (ending : Ending) :
    (d.kept t tb ending).pages = d.pages.dropLast ++ (d.pages.getLast?.map Page.cut).toList := by
  unfold Document.kept Document.distribute Document.retainAtClose
  dsimp only
  split_ifs <;> exact Document.stampClose_pages d ending ⟨tb.clock, tb.trusted⟩

theorem Document.kept_obligations (t : Tables) (tb : Timebase) (d : Document) (ending : Ending) :
    (d.kept t tb ending).obligations =
      d.apportioned.map (fun o => { o with deadline := t.deadline o.department o.kind tb.run }) := by
  unfold Document.kept Document.distribute Document.retainAtClose Tables.setDeadlines
  dsimp only
  split_ifs <;> rw [Document.stampClose_apportioned]

theorem Document.kept_departments (t : Tables) (tb : Timebase) (d : Document) (ending : Ending) (x : Nat) :
    x ∈ (d.kept t tb ending).departments ↔ ∃ o ∈ d.obligations, o.department = x := by
  have hmap : (t.setDeadlines tb.run (d.stampClose ending ⟨tb.clock, tb.trusted⟩).apportioned).map
      (fun o => o.department) = d.obligations.map (fun o => o.department) := by
    unfold Tables.setDeadlines
    rw [List.map_map, Document.stampClose_apportioned, ← Document.apportioned_departments]
    rfl
  have hdept : (d.kept t tb ending).departments =
      (d.obligations.map (fun o => o.department)).foldl (fun acc n => insertRising n acc) [] := by
    rw [← hmap]
    unfold Document.kept Document.distribute Document.retainAtClose
    dsimp only
    split_ifs <;> rfl
  rw [hdept, mem_foldl_insertRising]
  simp

theorem Document.closedAs_kept (t : Tables) (tb : Timebase) (d : Document) (ending : Ending) :
    d.ClosedAs t tb (d.kept t tb ending) ending := by
  refine ⟨?_, d.kept_pages t tb ending, d.kept_obligations t tb ending, d.kept_departments t tb ending, fun h => ?_,
    fun h => ?_⟩
  · unfold Document.kept Document.distribute Document.retainAtClose
    dsimp only
    split_ifs <;> rfl
  · unfold Document.kept Document.distribute Document.retainAtClose
    dsimp only
    rw [if_pos h]
    exact ⟨rfl, rfl⟩
  · unfold Document.kept Document.distribute Document.retainAtClose
    dsimp only
    rw [if_neg (by simp [h])]
    exact ⟨rfl, rfl⟩

/-! ### The close of a document -/

section
variable {t : Tables} {tb : Timebase} {b : Body} {n : Nat} {d : Document} {ending : Ending}

theorem Body.closeDocument_none (h : b.doc n = none) : b.closeDocument t tb n ending = b := by
  unfold Body.closeDocument; rw [h]

theorem Body.closeDocument_discards (h : b.doc n = some d) (hz : d.leafCount = 0) :
    b.closeDocument t tb n ending = b.freeSlot n := by
  unfold Body.closeDocument
  rw [h]
  exact if_pos ((Document.stampClose_leafCount ..).trans hz)

theorem Body.closeDocument_keeps (h : b.doc n = some d) (hz : d.leafCount ≠ 0) :
    b.closeDocument t tb n ending = (b.setDoc n (d.kept t tb ending)).moveAccounts d.obligations d.apportioned := by
  unfold Body.closeDocument
  rw [h]
  dsimp only
  rw [if_neg (by rw [Document.stampClose_leafCount]; exact hz), Document.stampClose_apportioned,
    Document.stampClose_obligations]
  rfl

theorem Body.freeSlot_slot (b : Body) (n m : Nat) :
    (b.freeSlot n).slot m = if m = n then ⟨((b.slot n).generation + 1) % 256, none⟩ else b.slot m :=
  Body.setSlot_slot b n _ m

theorem Body.slot_congr {b c : Body} (h : b.catalog = c.catalog) (n : Nat) : b.slot n = c.slot n := by
  unfold Body.slot; rw [h]

theorem Body.doc_congr {b c : Body} (h : b.catalog = c.catalog) (n : Nat) : b.doc n = c.doc n := by
  unfold Body.doc; rw [Body.slot_congr h]

theorem Body.closeDocument_otherSlots {m : Nat} (hm : m ≠ n) : (b.closeDocument t tb n ending).slot m = b.slot m := by
  cases h : b.doc n with
  | none => rw [Body.closeDocument_none h]
  | some d =>
    by_cases hz : d.leafCount = 0
    · rw [Body.closeDocument_discards h hz, Body.freeSlot_slot, if_neg hm]
    · rw [Body.closeDocument_keeps h hz, Body.slot_congr (Body.moveAccounts_catalog ..), Body.setDoc_slot, if_neg hm]

theorem Body.closeDocument_eq (t : Tables) (tb : Timebase) (b : Body) (n : Nat) (ending : Ending) :
    b.closeDocument t tb n ending = { b with
      catalog := (b.closeDocument t tb n ending).catalog, accounts := (b.closeDocument t tb n ending).accounts,
      purges := (b.closeDocument t tb n ending).purges } := by
  apply Body.eq_of_fields <;> simp

end

theorem Body.moveAccounts_congr {b c : Body} (h : b.accounts = c.accounts) (old new : List Obligation) :
    (b.moveAccounts old new).accounts = (c.moveAccounts old new).accounts := by
  unfold Body.moveAccounts
  induction old.zip new generalizing b c with
  | nil => exact h
  | cons p l ih =>
    refine ih ?_
    simp only [Body.discharge, Body.charge, Body.setAccount, Body.account, h]

/-- What a close makes of catalog, accounts and purge list depends on these alone. -/
theorem Body.closeDocument_congr {b c : Body} (t : Tables) (tb : Timebase) (n : Nat) (ending : Ending)
    (hc : b.catalog = c.catalog) (ha : b.accounts = c.accounts) (hp : b.purges = c.purges) :
    (b.closeDocument t tb n ending).catalog = (c.closeDocument t tb n ending).catalog ∧
      (b.closeDocument t tb n ending).accounts = (c.closeDocument t tb n ending).accounts ∧
      (b.closeDocument t tb n ending).purges = (c.closeDocument t tb n ending).purges := by
  have hdoc := Body.doc_congr hc n
  have hslot := Body.slot_congr hc n
  cases h : c.doc n with
  | none => rw [Body.closeDocument_none h, Body.closeDocument_none (hdoc.trans h)]; exact ⟨hc, ha, hp⟩
  | some d =>
    by_cases hz : d.leafCount = 0
    · rw [Body.closeDocument_discards h hz, Body.closeDocument_discards (hdoc.trans h) hz]
      refine ⟨?_, ha, ?_⟩
      · simp only [Body.freeSlot, Body.setSlot, hslot, hc]
      · simp only [Body.freeSlot, hp]
    · rw [Body.closeDocument_keeps h hz, Body.closeDocument_keeps (hdoc.trans h) hz]
      refine ⟨?_, Body.moveAccounts_congr (by simpa using ha) _ _, ?_⟩
      · simp only [Body.moveAccounts_catalog, Body.setDoc, Body.setSlot, hslot, hc]
      · simpa using hp

/-! ### The parts of a session's close -/

theorem Body.makeReady_noLeaf_eq {b : Body} {i : Nat} (h : (b.buffer i).leaf = none) :
    b.makeReady i = { b with
      buffers := Table.write Buffer.free b.buffers i { b.buffer i with state := .ready }, ready := b.ready ++ [i] } := by
  unfold Body.makeReady; dsimp only; rw [h]; rfl

theorem Body.makeReady_buffer (b : Body) (i j : Nat) :
    (b.makeReady i).buffer j = if j = i then { b.buffer i with state := .ready } else b.buffer j := by
  cases h : (b.buffer i).leaf with
  | none => rw [Body.makeReady_noLeaf_eq h]; simp [Body.buffer]
  | some l => rw [Body.makeReady_leaf_eq h]; simp [Body.buffer]

theorem Body.makeReady_leaf (b : Body) (i l : Nat) :
    (b.makeReady i).leaf l = if (b.buffer i).leaf = some l then { b.leaf l with state := .ready } else b.leaf l := by
  cases h : (b.buffer i).leaf with
  | none => rw [Body.makeReady_noLeaf_eq h]; simp [Body.leaf]
  | some m =>
    rw [Body.makeReady_leaf_eq h]
    by_cases hl : l = m
    · subst hl; simp [Body.leaf]
    · simp [Body.leaf, hl, Ne.symm hl]

theorem Body.makeReady_ready (b : Body) (i : Nat) : (b.makeReady i).ready = b.ready ++ [i] := by
  cases h : (b.buffer i).leaf with
  | none => rw [Body.makeReady_noLeaf_eq h]
  | some l => rw [Body.makeReady_leaf_eq h]

@[simp] theorem foldl_orphan_buffer (l : List Nat) (b : Body) (i : Nat) :
    (l.foldl Body.orphan b).buffer i = { b.buffer i with
      holder := if i ∈ l then some .orphan else (b.buffer i).holder } := by
  induction l generalizing b with
  | nil => rfl
  | cons j l ih =>
    rw [List.foldl_cons, ih]
    have hj : (b.orphan j).buffer i = if i = j then { b.buffer j with holder := some .orphan } else b.buffer i :=
      Body.setBuffer_buffer ..
    rw [hj]
    by_cases hij : i = j
    · subst hij; simp
    · simp [hij]

theorem foldl_orphan_eq (l : List Nat) (b : Body) :
    l.foldl Body.orphan b = { b with buffers := (l.foldl Body.orphan b).buffers } := by
  induction l generalizing b with
  | nil => rfl
  | cons j l ih => rw [List.foldl_cons, ih]; rfl

/-- The body of a session's close before its document closes: the FILLING buffer of a page that is open is READY. -/
def Body.filledBy (b : Body) (k : Nat) : Body :=
  if (b.session k).state = .inPage then b.makeReady (b.session k).tail else b

/-- A session's document closes. -/
def Body.closeDocOf (t : Tables) (tb : Timebase) (b : Body) (doc : Option Nat) (ending : Ending) : Body :=
  match doc with
  | some n => b.closeDocument t tb n ending
  | none => b

section
variable {t : Tables} {tb : Timebase} {b : Body} {k : Nat} {ending : Ending}

theorem Body.closeSession_idle (h : (b.session k).state = .idle) : b.closeSession t tb k ending = b := by
  unfold Body.closeSession; exact if_pos h

theorem Body.closeSession_open (h : (b.session k).state ≠ .idle) :
    b.closeSession t tb k ending = ((b.session k).queue.foldl Body.orphan
      ((b.filledBy k).closeDocOf t tb (b.session k).doc ending)).setSession k Session.idle := by
  unfold Body.closeSession; exact if_neg h

theorem Body.filledBy_eq (b : Body) (k : Nat) : b.filledBy k = { b with
    leaves := (b.filledBy k).leaves, buffers := (b.filledBy k).buffers, ready := (b.filledBy k).ready } := by
  unfold Body.filledBy
  split_ifs
  · apply Body.eq_of_fields <;> simp
  · rfl

theorem Body.closeDocOf_eq (t : Tables) (tb : Timebase) (b : Body) (doc : Option Nat) (ending : Ending) :
    b.closeDocOf t tb doc ending = { b with
      catalog := (b.closeDocOf t tb doc ending).catalog, accounts := (b.closeDocOf t tb doc ending).accounts,
      purges := (b.closeDocOf t tb doc ending).purges } := by
  cases doc with
  | none => rfl
  | some n => exact Body.closeDocument_eq ..

theorem Body.closeDocOf_congr {b c : Body} (t : Tables) (tb : Timebase) (doc : Option Nat) (ending : Ending)
    (hc : b.catalog = c.catalog) (ha : b.accounts = c.accounts) (hp : b.purges = c.purges) :
    (b.closeDocOf t tb doc ending).catalog = (c.closeDocOf t tb doc ending).catalog ∧
      (b.closeDocOf t tb doc ending).accounts = (c.closeDocOf t tb doc ending).accounts ∧
      (b.closeDocOf t tb doc ending).purges = (c.closeDocOf t tb doc ending).purges := by
  cases doc with
  | none => exact ⟨hc, ha, hp⟩
  | some n => exact Body.closeDocument_congr t tb n ending hc ha hp

/-- A session's close, part by part. -/
theorem Body.closeSession_parts (h : (b.session k).state ≠ .idle) :
    b.closeSession t tb k ending = { b with
      sessions := Table.write Session.idle b.sessions k Session.idle,
      buffers := ((b.session k).queue.foldl Body.orphan (b.filledBy k)).buffers,
      leaves := (b.filledBy k).leaves, ready := (b.filledBy k).ready,
      catalog := (b.closeDocOf t tb (b.session k).doc ending).catalog,
      accounts := (b.closeDocOf t tb (b.session k).doc ending).accounts,
      purges := (b.closeDocOf t tb (b.session k).doc ending).purges } := by
  have hf := b.filledBy_eq k
  obtain ⟨hcat, hacc, hpur⟩ := Body.closeDocOf_congr (b := b.filledBy k) (c := b) t tb (b.session k).doc ending
    (by rw [hf]) (by rw [hf]) (by rw [hf])
  have horphan : ∀ (l : List Nat) (x y : Body), x.buffers = y.buffers →
      (l.foldl Body.orphan x).buffers = (l.foldl Body.orphan y).buffers := by
    intro l
    induction l with
    | nil => exact fun _ _ h => h
    | cons j l ih =>
      exact fun x y h => ih _ _ (by simp only [Body.orphan, Body.setBuffer, Body.buffer, h])
  rw [Body.closeSession_open h, foldl_orphan_eq]
  have hdoc := Body.closeDocOf_eq t tb (b.filledBy k) (b.session k).doc ending
  apply Body.eq_of_fields
  case h2 => exact horphan _ _ _ (by rw [hdoc])
  case h8 => exact hcat
  case h10 => exact hacc
  case h7 => exact hpur
  all_goals
    dsimp only [Body.setSession]
    rw [hdoc]
  all_goals
    dsimp only
    try rw [hf]

end

end Sys2Proof.Machine
end

section
/-! One session closed: CLOSE CALL, END SESSION and idle expiry (R58 to R61). -/

namespace Sys2Proof.Machine

section
variable {t : Tables} {tb : Timebase} {b : Body} {k : Nat} {ending : Ending}

theorem Session.tail_iff {c : Session} (h : c.queue ≠ []) (i : Nat) : i = c.tail ↔ c.queue.getLast? = some i := by
  obtain ⟨x, hx⟩ := Option.ne_none_iff_exists'.1 (fun hn => h (List.getLast?_eq_none_iff.1 hn))
  rw [Session.tail_eq hx, hx, Option.some.injEq, eq_comm]

theorem Body.filledBy_buffer (hq : (b.session k).state = .inPage → (b.session k).queue ≠ []) (i : Nat) :
    (b.filledBy k).buffer i = { b.buffer i with
      state := if (b.session k).state = .inPage ∧ (b.session k).queue.getLast? = some i then .ready
        else (b.buffer i).state } := by
  unfold Body.filledBy
  by_cases hp : (b.session k).state = .inPage
  · rw [if_pos hp, Body.makeReady_buffer]
    by_cases hi : i = (b.session k).tail
    · rw [if_pos hi, if_pos ⟨hp, (Session.tail_iff (hq hp) i).1 hi⟩, hi]
    · rw [if_neg hi, if_neg fun h => hi ((Session.tail_iff (hq hp) i).2 h.2)]
  · rw [if_neg hp, if_neg fun h => hp h.1]

theorem Body.filledBy_leaf (hq : (b.session k).state = .inPage → (b.session k).queue ≠ []) (l : Nat) :
    (b.filledBy k).leaf l =
      if (b.session k).state = .inPage ∧ ∃ i, (b.session k).queue.getLast? = some i ∧ (b.buffer i).leaf = some l
      then { b.leaf l with state := .ready } else b.leaf l := by
  unfold Body.filledBy
  by_cases hp : (b.session k).state = .inPage
  · obtain ⟨x, hx⟩ := Option.ne_none_iff_exists'.1 (fun hn => hq hp (List.getLast?_eq_none_iff.1 hn))
    rw [if_pos hp, Body.makeReady_leaf, Session.tail_eq hx]
    simp only [hp, hx, true_and, Option.some.injEq, exists_eq_left']
  · rw [if_neg hp, if_neg fun h => hp h.1]

theorem Body.filledBy_ready (hq : (b.session k).state = .inPage → (b.session k).queue ≠ []) :
    (b.filledBy k).ready =
      if (b.session k).state = .inPage then b.ready ++ (b.session k).queue.getLast?.toList else b.ready := by
  unfold Body.filledBy
  by_cases hp : (b.session k).state = .inPage
  · obtain ⟨x, hx⟩ := Option.ne_none_iff_exists'.1 (fun hn => hq hp (List.getLast?_eq_none_iff.1 hn))
    rw [if_pos hp, if_pos hp, Body.makeReady_ready, Session.tail_eq hx, hx]
    rfl
  · rw [if_neg hp, if_neg hp]

/-! ### What a session's close makes of each part -/

theorem Body.closeSession_session (h : (b.session k).state ≠ .idle) (j : Nat) :
    (b.closeSession t tb k ending).session j = if j = k then Session.idle else b.session j := by
  rw [Body.closeSession_parts h]; simp [Body.session]

theorem Body.closeSession_slot (h : (b.session k).state ≠ .idle) (m : Nat) :
    (b.closeSession t tb k ending).slot m = (b.closeDocOf t tb (b.session k).doc ending).slot m := by
  rw [Body.closeSession_parts h]; rfl

theorem Body.closeSession_account (h : (b.session k).state ≠ .idle) (x : Nat) :
    (b.closeSession t tb k ending).account x = (b.closeDocOf t tb (b.session k).doc ending).account x := by
  rw [Body.closeSession_parts h]; rfl

theorem Body.closeSession_buffer (h : (b.session k).state ≠ .idle)
    (hq : (b.session k).state = .inPage → (b.session k).queue ≠ []) (i : Nat) :
    (b.closeSession t tb k ending).buffer i = { b.buffer i with
      holder := if i ∈ (b.session k).queue then some .orphan else (b.buffer i).holder,
      state := if (b.session k).state = .inPage ∧ (b.session k).queue.getLast? = some i then .ready
        else (b.buffer i).state } := by
  rw [Body.closeSession_parts h]
  refine (foldl_orphan_buffer ..).trans ?_
  rw [Body.filledBy_buffer hq]

theorem Body.closeDocument_slot {n : Nat} {d : Document} (hd : b.doc n = some d) (m : Nat) :
    (b.closeDocument t tb n ending).slot m = if m = n then
      (if d.leafCount = 0 then ⟨((b.slot n).generation + 1) % 256, none⟩
        else { b.slot n with doc := some (d.kept t tb ending) }) else b.slot m := by
  by_cases hz : d.leafCount = 0
  · rw [Body.closeDocument_discards hd hz, Body.freeSlot_slot, if_pos hz]
  · rw [Body.closeDocument_keeps hd hz, Body.slot_congr (Body.moveAccounts_catalog ..), Body.setDoc_slot, if_neg hz]

theorem Body.closeDocument_account {n : Nat} {d : Document} (hd : b.doc n = some d)
    (hn : (d.obligations.map (fun o => o.department)).Nodup) (hz : d.leafCount ≠ 0) (x : Nat) :
    (b.closeDocument t tb n ending).account x = b.account x + chargeOf d.apportioned x - chargeOf d.obligations x := by
  rw [Body.closeDocument_keeps hd hz, Body.moveAccounts_account _ d.apportioned_departments hn]
  rfl

theorem Body.closeDocument_purges' {n : Nat} {d : Document} (hd : b.doc n = some d) :
    (b.closeDocument t tb n ending).purges = if d.leafCount = 0 then b.purges.filter (fun m => m ≠ n) else b.purges := by
  by_cases hz : d.leafCount = 0
  · rw [Body.closeDocument_discards hd hz, if_pos hz]; rfl
  · rw [Body.closeDocument_keeps hd hz, if_neg hz, Body.moveAccounts_purges]; rfl

/-- A session is closed (R59). -/
theorem Body.closeSession_closed {n : Nat} {d : Document} {c : Session} (hs : b.session k = c) (hn : c.state ≠ .idle)
    (hdoc : c.doc = some n) (hd : b.doc n = some d) (hq : c.state = .inPage → c.queue ≠ []) :
    Closed t tb b (b.closeSession t tb k ending) k n d c ending := by
  subst hs
  have hparts := Body.closeSession_parts (t := t) (tb := tb) (ending := ending) hn
  have hslot : ∀ m, (b.closeSession t tb k ending).slot m = (b.closeDocument t tb n ending).slot m := fun m => by
    rw [Body.closeSession_slot hn, hdoc]; rfl
  have hacc : ∀ x, (b.closeSession t tb k ending).account x = (b.closeDocument t tb n ending).account x := fun x => by
    rw [Body.closeSession_account hn, hdoc]; rfl
  refine ⟨?session, fun j hj => ?_, fun hz => ?_, fun hz => ?_, fun m hm => ?_, fun hnd hz x => ?_, fun hz x => ?_,
    ?purges, fun i hi => ?_, fun i hi => ?_, ?ready, fun l => ?_, ?others⟩
  case session => rw [Body.closeSession_session hn, if_pos rfl]; rfl
  · rw [Body.closeSession_session hn, if_neg hj]
  · rw [hslot, Body.closeDocument_slot hd, if_pos rfl, if_pos hz]
  · exact ⟨_, by rw [hslot, Body.closeDocument_slot hd, if_pos rfl, if_neg hz], Document.closedAs_kept t tb d ending⟩
  · rw [hslot, Body.closeDocument_otherSlots hm]
  · rw [hacc, Body.closeDocument_account hd hnd hz]
  · rw [hacc, Body.closeDocument_discards hd hz]; rfl
  case purges => rw [hparts, hdoc]; exact Body.closeDocument_purges' hd
  · rw [Body.closeSession_buffer hn hq, if_pos hi]
  · rw [Body.closeSession_buffer hn hq, if_neg hi, if_neg fun h => hi (List.mem_of_getLast? h.2)]
  case ready => rw [hparts]; exact Body.filledBy_ready hq
  · rw [hparts]; exact Body.filledBy_leaf hq l
  case others => rw [hparts]

end

/-- The deadline that a line request moves before it closes its session does not show afterwards. -/
theorem Closed.of_moved {t : Tables} {tb : Timebase} {b e : Body} {k n v : Nat} {d : Document} {c : Session}
    {ending : Ending} (h : Closed t tb (b.setSession k (c.moved v)) e k n d (c.moved v) ending) :
    Closed t tb b e k n d c ending where
  session := h.session
  otherSessions j hj := (h.otherSessions j hj).trans (by rw [Body.setSession_session, if_neg hj])
  discarded := h.discarded
  kept := h.kept
  otherSlots := h.otherSlots
  accounts := h.accounts
  uncharged := h.uncharged
  purges := h.purges
  queued := h.queued
  unqueued := h.unqueued
  ready := h.ready
  leaves := h.leaves
  others := h.others

theorem ownCloseCall_closes {s : State} {e : Ending} {k : Nat} {c : Session} (h : c.state ≠ .idle) :
    ownCloseCall e k c s = ⟨s.close k (if c.state = .stopped then .storeFull else e), .taken .plain, .none⟩ := by
  unfold ownCloseCall
  cases hc : c.state <;> first | exact absurd hc h | rfl

theorem execIdleExpiry_due {session : BitVec 5} {s : State} (ha : s.txn.appendsTo session.toNat = false)
    (hd : s.idleDue session.toNat = true) : exec (.idleExpiry session) s = .next (s.quiet.close session.toNat .timeout) := by
  dsimp only [exec, execIdleExpiry]
  rw [ha, hd]
  rfl

/-- Settles O28. -/
theorem closingCommandsCloseTheSession : Obligations.ClosingCommandsCloseTheSession := by
  intro s k n d c hs hn hdoc hd hq
  refine ⟨?closeCall, ?endSession, ?expiry⟩
  case closeCall =>
    rintro h i channel ending e hh rfl he
    refine ⟨{ s with
      body := (s.body.setSession (i * 8 + channel.toNat) (c.moved s.idleDeadline)).closeSession s.tables s.time
        (i * 8 + channel.toNat) (if c.state = .stopped then .storeFull else e), sent := none }, ?_, ?_, rfl⟩
    · dsimp only [exec, execCloseCall]
      rw [he, request_line hh rfl rfl hs hn, ownCloseCall_closes (c := c.moved s.idleDeadline) hn]
      rfl
    · exact (Body.closeSession_closed (c := c.moved s.idleDeadline)
        ((Body.setSession_session ..).trans (if_pos rfl)) hn hdoc hd hq).of_moved
  case endSession =>
    rintro h session hh rfl hk
    refine ⟨{ s with body := s.body.closeSession s.tables s.time session.toNat .forced, sent := none }, ?_,
      Body.closeSession_closed hs hn hdoc hd hq, rfl⟩
    dsimp only [exec, execEndSession]
    rw [request_taken hh nofun rfl (decide_eq_true hk), State.nextPacket_body, if_neg (by rw [hs]; exact hn)]
    rfl
  case expiry =>
    rintro session deadline rfl hdl hle hpart ha
    refine ⟨{ s with body := s.body.closeSession s.tables s.time session.toNat .timeout, sent := none }, ?_,
      Body.closeSession_closed hs hn hdoc hd hq, rfl⟩
    have hdue : s.idleDue session.toNat = true :=
      State.idleDue_iff.2 ⟨PartState.works_iff.2 hpart, by rw [hs]; exact hn, deadline,
        by rw [hs]; exact hdl, hle⟩
    have hfree : s.txn.appendsTo session.toNat = false := by
      rw [Bool.eq_false_iff]
      intro h
      obtain ⟨a, h1, h2⟩ := Transaction.appendsTo_iff.1 h
      exact ha a h1 h2
    rw [execIdleExpiry_due hfree hdue]
    rfl

end Sys2Proof.Machine
end

section
/-! Several sessions closed one after another (R27, R59, R62). -/

namespace Sys2Proof.Machine

section
variable {t : Tables} {tb : Timebase} {b : Body} {k : Nat} {ending : Ending}

/-! ### What one session's close changes, whether it is open or not -/

theorem Body.closeSession_otherSession {j : Nat} (hj : j ≠ k) :
    (b.closeSession t tb k ending).session j = b.session j := by
  by_cases h : (b.session k).state = .idle
  · rw [Body.closeSession_idle h]
  · rw [Body.closeSession_session h, if_neg hj]

theorem Body.closeSession_otherSlot {m : Nat} (hm : (b.session k).state ≠ .idle → (b.session k).doc ≠ some m) :
    (b.closeSession t tb k ending).slot m = b.slot m := by
  by_cases h : (b.session k).state = .idle
  · rw [Body.closeSession_idle h]
  · rw [Body.closeSession_slot h]
    cases hd : (b.session k).doc with
    | none => rfl
    | some n => exact Body.closeDocument_otherSlots fun hmn => hm h (hmn ▸ hd)

theorem Body.closeSession_anyBuffer (hq : (b.session k).state = .inPage → (b.session k).queue ≠ []) (i : Nat) :
    (b.closeSession t tb k ending).buffer i = { b.buffer i with
      holder := if (b.session k).state ≠ .idle ∧ i ∈ (b.session k).queue then some .orphan else (b.buffer i).holder,
      state := if (b.session k).state = .inPage ∧ (b.session k).queue.getLast? = some i then .ready
        else (b.buffer i).state } := by
  by_cases h : (b.session k).state = .idle
  · rw [Body.closeSession_idle h]
    simp [h]
  · rw [Body.closeSession_buffer h hq]
    simp only [ne_eq, h, not_false_eq_true, true_and]

theorem Body.closeSession_ready (hq : (b.session k).state = .inPage → (b.session k).queue ≠ []) :
    (b.closeSession t tb k ending).ready =
      b.ready ++ if (b.session k).state = .inPage then (b.session k).queue.getLast?.toList else [] := by
  by_cases h : (b.session k).state = .idle
  · rw [Body.closeSession_idle h, if_neg (by simp [h]), List.append_nil]
  · rw [Body.closeSession_parts h]
    refine (Body.filledBy_ready hq).trans ?_
    split_ifs <;> simp

theorem Body.closeSession_leaf (hq : (b.session k).state = .inPage → (b.session k).queue ≠ []) (l : Nat) :
    (b.closeSession t tb k ending).leaf l =
      if (b.session k).state = .inPage ∧ ∃ i, (b.session k).queue.getLast? = some i ∧ (b.buffer i).leaf = some l
      then { b.leaf l with state := .ready } else b.leaf l := by
  by_cases h : (b.session k).state = .idle
  · rw [Body.closeSession_idle h, if_neg (by simp [h])]
  · rw [Body.closeSession_parts h]
    exact Body.filledBy_leaf hq l

theorem Body.closeSession_frame : b.closeSession t tb k ending = { b with
    sessions := (b.closeSession t tb k ending).sessions, buffers := (b.closeSession t tb k ending).buffers,
    ready := (b.closeSession t tb k ending).ready, leaves := (b.closeSession t tb k ending).leaves,
    catalog := (b.closeSession t tb k ending).catalog, accounts := (b.closeSession t tb k ending).accounts,
    purges := (b.closeSession t tb k ending).purges } := by
  by_cases h : (b.session k).state = .idle
  · rw [Body.closeSession_idle h]
  · rw [Body.closeSession_parts h]

/-! ### What becomes of the document -/

theorem Body.closingDoc_eq_some {d : Document} : b.closingDoc k = some d ↔
    (b.session k).state ≠ .idle ∧ ∃ n, (b.session k).doc = some n ∧ b.doc n = some d ∧ d.leafCount ≠ 0 := by
  unfold Body.closingDoc
  by_cases h : (b.session k).state = .idle
  · simp [h]
  · rw [if_neg h, Option.filter_eq_some_iff, Option.bind_eq_some_iff]
    simp only [ne_eq, h, not_false_eq_true, true_and, decide_eq_true_eq]
    exact ⟨fun ⟨⟨n, h1, h2⟩, h3⟩ => ⟨n, h1, h2, h3⟩, fun ⟨n, h1, h2, h3⟩ => ⟨⟨n, h1, h2⟩, h3⟩⟩

theorem Body.discardedSlot_eq_some {n : Nat} : b.discardedSlot k = some n ↔
    (b.session k).state ≠ .idle ∧ (b.session k).doc = some n ∧ ∃ d, b.doc n = some d ∧ d.leafCount = 0 := by
  unfold Body.discardedSlot
  by_cases h : (b.session k).state = .idle
  · simp [h]
  · rw [if_neg h, Option.filter_eq_some_iff, Option.any_eq_true]
    simp [h]

/-- The three ways a session's close can go: nothing of the catalog changes, a document is discarded, or one is kept. -/
theorem Body.closeSession_cases (t : Tables) (tb : Timebase) (b : Body) (k : Nat) (ending : Ending) :
    (b.closingDoc k = none ∧ b.discardedSlot k = none ∧
        (b.closeSession t tb k ending).catalog = b.catalog ∧ (b.closeSession t tb k ending).accounts = b.accounts ∧
        (b.closeSession t tb k ending).purges = b.purges) ∨
      (∃ n d, (b.session k).state ≠ .idle ∧ (b.session k).doc = some n ∧ b.doc n = some d ∧ d.leafCount = 0 ∧
        b.closingDoc k = none ∧ b.discardedSlot k = some n ∧
        (∀ m, (b.closeSession t tb k ending).slot m = (b.freeSlot n).slot m) ∧
        (b.closeSession t tb k ending).accounts = b.accounts ∧
        (b.closeSession t tb k ending).purges = b.purges.filter (fun m => m ≠ n)) ∨
      ∃ n d, (b.session k).state ≠ .idle ∧ (b.session k).doc = some n ∧ b.doc n = some d ∧ d.leafCount ≠ 0 ∧
        b.closingDoc k = some d ∧ b.discardedSlot k = none ∧
        (∀ m, (b.closeSession t tb k ending).slot m = (b.setDoc n (d.kept t tb ending)).slot m) ∧
        (b.closeSession t tb k ending).accounts = (b.moveAccounts d.obligations d.apportioned).accounts ∧
        (b.closeSession t tb k ending).purges = b.purges := by
  have none_of : ∀ {α : Type} {o : Option α}, (∀ x, o ≠ some x) → o = none := fun h =>
    Option.eq_none_iff_forall_ne_some.2 h
  by_cases hi : (b.session k).state = .idle
  · refine Or.inl ⟨none_of fun d hd => (Body.closingDoc_eq_some.1 hd).1 hi,
      none_of fun n hn => (Body.discardedSlot_eq_some.1 hn).1 hi, ?_⟩
    rw [Body.closeSession_idle hi]
    exact ⟨rfl, rfl, rfl⟩
  · have hparts := Body.closeSession_parts (t := t) (tb := tb) (ending := ending) hi
    have hslot := Body.closeSession_slot (t := t) (tb := tb) (ending := ending) hi
    cases hdoc : (b.session k).doc with
    | none =>
      refine Or.inl ⟨none_of fun d hd => ?_, none_of fun n hn => ?_, ?_⟩
      · obtain ⟨_, n, hn, _⟩ := Body.closingDoc_eq_some.1 hd
        rw [hdoc] at hn; cases hn
      · obtain ⟨_, hn, _⟩ := Body.discardedSlot_eq_some.1 hn
        rw [hdoc] at hn; cases hn
      · rw [hparts, hdoc]
        exact ⟨rfl, rfl, rfl⟩
    | some n =>
      have hclose : b.closeDocOf t tb (some n) ending = b.closeDocument t tb n ending := rfl
      rw [hdoc, hclose] at hparts hslot
      cases hd : b.doc n with
      | none =>
        refine Or.inl ⟨none_of fun d hd' => ?_, none_of fun m hm => ?_, ?_⟩
        · obtain ⟨_, m, hm, hd', _⟩ := Body.closingDoc_eq_some.1 hd'
          rw [hdoc] at hm; cases hm
          rw [hd] at hd'; cases hd'
        · obtain ⟨_, hm, d, hd', _⟩ := Body.discardedSlot_eq_some.1 hm
          rw [hdoc] at hm; cases hm
          rw [hd] at hd'; cases hd'
        · rw [hparts, Body.closeDocument_none hd]
          exact ⟨rfl, rfl, rfl⟩
      | some d =>
        by_cases hz : d.leafCount = 0
        · rw [Body.closeDocument_discards hd hz] at hparts hslot
          refine Or.inr (Or.inl ⟨n, d, hi, rfl, hd, hz, none_of fun e he => ?_,
            Body.discardedSlot_eq_some.2 ⟨hi, hdoc, d, hd, hz⟩, hslot, ?_⟩)
          · obtain ⟨_, m, hm, he, hne⟩ := Body.closingDoc_eq_some.1 he
            rw [hdoc] at hm; cases hm
            rw [hd] at he; cases he
            exact hne hz
          · rw [hparts]
            exact ⟨rfl, rfl⟩
        · rw [Body.closeDocument_keeps hd hz] at hparts hslot
          refine Or.inr (Or.inr ⟨n, d, hi, rfl, hd, hz, Body.closingDoc_eq_some.2 ⟨hi, n, hdoc, hd, hz⟩,
            none_of fun m hm => ?_, fun m => ?_, ?_⟩)
          · obtain ⟨_, hm, e, he, hze⟩ := Body.discardedSlot_eq_some.1 hm
            rw [hdoc] at hm; cases hm
            rw [hd] at he; cases he
            exact hz hze
          · rw [hslot, Body.slot_congr (Body.moveAccounts_catalog ..)]
          · rw [hparts]
            exact ⟨Body.moveAccounts_congr (b := b.setDoc n (d.kept t tb ending)) (c := b) rfl _ _, by simp⟩

theorem Body.closeSession_purges_eq :
    (b.closeSession t tb k ending).purges = b.purges.filter (fun m => b.discardedSlot k ≠ some m) := by
  rcases Body.closeSession_cases t tb b k ending with ⟨_, hn, _, _, hp⟩ | ⟨n, d, _, _, _, _, _, hn, _, _, hp⟩ |
    ⟨n, d, _, _, _, _, _, hn, _, _, hp⟩ <;> rw [hp, hn]
  · simp
  · exact List.filter_congr fun m _ => by simp [eq_comm]
  · simp

theorem Body.closeSession_uncharged (h : b.closingDoc k = none) :
    (b.closeSession t tb k ending).accounts = b.accounts := by
  rcases Body.closeSession_cases t tb b k ending with ⟨_, _, _, ha, _⟩ | ⟨n, d, _, _, _, _, _, _, _, ha, _⟩ |
    ⟨n, d, _, _, _, _, hc, _⟩
  · exact ha
  · exact ha
  · rw [h] at hc; cases hc

theorem Body.closeSession_charged {d : Document} (h : b.closingDoc k = some d)
    (hn : (d.obligations.map (fun o => o.department)).Nodup) (x : Nat) :
    (b.closeSession t tb k ending).account x = b.account x + chargeOf d.apportioned x - chargeOf d.obligations x := by
  rcases Body.closeSession_cases t tb b k ending with ⟨hc, _⟩ | ⟨n, e, _, _, _, _, hc, _⟩ |
    ⟨n, e, _, _, _, _, hc, _, _, ha, _⟩
  · rw [h] at hc; cases hc
  · rw [h] at hc; cases hc
  · obtain rfl : d = e := Option.some.inj (h.symm.trans hc)
    rw [← Body.moveAccounts_account b d.apportioned_departments hn]
    unfold Body.account
    rw [ha]

/-- Another session's slot is discarded later exactly where it was to be, unless it has gone already. -/
theorem Body.closeSession_discardedSlot {j m : Nat} (hj : j ≠ k) (hm : b.discardedSlot k ≠ some m) :
    (b.closeSession t tb k ending).discardedSlot j = some m ↔ b.discardedSlot j = some m := by
  have hdoc : (∃ d, (b.closeSession t tb k ending).doc m = some d ∧ d.leafCount = 0) ↔
      ∃ d, b.doc m = some d ∧ d.leafCount = 0 := by
    unfold Body.doc
    rcases Body.closeSession_cases t tb b k ending with ⟨_, _, hc, _⟩ | ⟨n, d, _, _, _, _, _, hn, hs, _⟩ |
      ⟨n, d, _, _, hd, hz, _, _, hs, _⟩
    · rw [Body.slot_congr hc]
    · have hmn : m ≠ n := fun h => hm (h ▸ hn)
      rw [hs, Body.freeSlot_slot, if_neg hmn]
    · rw [hs, Body.setDoc_slot]
      by_cases hmn : m = n
      · subst hmn
        have hslot : (b.slot m).doc = some d := hd
        have hcount : (d.kept t tb ending).leafCount = d.leafCount := by
          rw [← Document.stampClose_leafCount d ending ⟨tb.clock, tb.trusted⟩]
          unfold Document.leafCount
          rw [Document.kept_pages, Document.stampClose_pages]
        simp [hslot, hcount]
      · rw [if_neg hmn]
  rw [Body.discardedSlot_eq_some, Body.discardedSlot_eq_some, Body.closeSession_otherSession hj, hdoc]

/-- A session with no document to keep has none after another's close. -/
theorem Body.closeSession_closingDoc_none {j : Nat} (hj : j ≠ k) (hk : b.closingDoc k = none)
    (h : b.closingDoc j = none) : (b.closeSession t tb k ending).closingDoc j = none := by
  refine Option.eq_none_iff_forall_ne_some.2 fun d hd => ?_
  obtain ⟨hi, n, hn, hdoc, hz⟩ := Body.closingDoc_eq_some.1 hd
  rw [Body.closeSession_otherSession hj] at hi hn
  have absent : ∀ e, b.doc n = some e → e.leafCount ≠ 0 → False := fun e he hz => by
    have := Body.closingDoc_eq_some.2 ⟨hi, n, hn, he, hz⟩
    rw [h] at this; cases this
  rcases Body.closeSession_cases t tb b k ending with ⟨_, _, hc, _⟩ | ⟨m, e, _, _, _, _, _, _, hs, _⟩ |
    ⟨m, e, _, _, _, _, hc, _⟩
  · exact absent d ((Body.doc_congr hc n).symm.trans hdoc) hz
  · unfold Body.doc at hdoc
    rw [hs, Body.freeSlot_slot] at hdoc
    split_ifs at hdoc
    exact absent d hdoc hz
  · rw [hk] at hc; cases hc

theorem Body.closeSession_closingDoc {j : Nat} (hj : j ≠ k)
    (h : (b.session k).state ≠ .idle → (b.session j).state ≠ .idle → (b.session k).doc ≠ (b.session j).doc) :
    (b.closeSession t tb k ending).closingDoc j = b.closingDoc j := by
  have hiff : ∀ d, (b.closeSession t tb k ending).closingDoc j = some d ↔ b.closingDoc j = some d := fun d => by
    rw [Body.closingDoc_eq_some, Body.closingDoc_eq_some, Body.closeSession_otherSession hj]
    refine and_congr_right fun hi => exists_congr fun n => and_congr_right fun hn => ?_
    unfold Body.doc
    rw [Body.closeSession_otherSlot fun hk hkn => h hk hi (hkn.trans hn.symm)]
  cases hd : b.closingDoc j with
  | some d => exact (hiff d).2 hd
  | none =>
    refine Option.eq_none_iff_forall_ne_some.2 fun d hd' => ?_
    rw [(hiff d).1 hd'] at hd; cases hd

end

end Sys2Proof.Machine
end

section
/-! The laws of several closes in a row (R27, R59, R62). -/

namespace Sys2Proof.Machine

section
variable {t : Tables} {tb : Timebase} {b e : Body} {k : Nat} {ks : List Nat} {ending : Ending}

theorem Body.closeSessions_cons (b : Body) (k : Nat) (ks : List Nat) :
    b.closeSessions t tb (k :: ks) ending = (b.closeSession t tb k ending).closeSessions t tb ks ending := rfl

theorem exists_mem_congr {α β : Type} {l : List α} {f g : α → β} (h : ∀ x ∈ l, f x = g x) (p : β → Prop) :
    (∃ x ∈ l, p (f x)) ↔ ∃ x ∈ l, p (g x) :=
  exists_congr fun x => and_congr_right fun hx => by rw [h x hx]

theorem if_or_eq {α : Type} {p q : Prop} [Decidable p] [Decidable q] (x y : α) :
    (if p ∨ q then x else y) = if q then x else if p then x else y := by
  by_cases hp : p <;> simp [hp]

theorem Body.closingSum_cons (b : Body) (k : Nat) (ks : List Nat) (f : Document → Nat) :
    b.closingSum (k :: ks) f = ((b.closingDoc k).map f).getD 0 + b.closingSum ks f := rfl

theorem Body.closingSum_congr {b c : Body} (h : ∀ j ∈ ks, c.closingDoc j = b.closingDoc j) (f : Document → Nat) :
    c.closingSum ks f = b.closingSum ks f := by
  unfold Body.closingSum
  congr 1
  exact List.map_congr_left fun j hj => by rw [h j hj]

theorem ClosedAll.nil (t : Tables) (tb : Timebase) (b : Body) (ending : Ending) : ClosedAll t tb b b [] ending where
  sessions := nofun
  otherSessions _ _ := rfl
  documents := nofun
  otherSlots _ _ := rfl
  accounts _ _ _ _ := rfl
  uncharged _ _ := rfl
  purges := by simp
  buffers i := by simp
  ready := by simp
  leaves l := by simp
  others := rfl

/-- One more session is closed before the others. -/
theorem ClosedAll.cons (hk : k ∉ ks) (hq : (b.session k).state = .inPage → (b.session k).queue ≠ [])
    (h : ClosedAll t tb (b.closeSession t tb k ending) e ks ending) : ClosedAll t tb b e (k :: ks) ending := by
  have hne : ∀ j ∈ ks, j ≠ k := fun j hj hjk => hk (hjk ▸ hj)
  have hses : ∀ j ∈ ks, (b.closeSession t tb k ending).session j = b.session j := fun j hj =>
    Body.closeSession_otherSession (hne j hj)
  have hleaf : ∀ i, ((b.closeSession t tb k ending).buffer i).leaf = (b.buffer i).leaf := fun i => by
    rw [Body.closeSession_anyBuffer hq]
  refine ⟨?sessions, ?otherSessions, ?documents, ?otherSlots, ?accounts, ?uncharged, ?purges, ?buffers, ?ready,
    ?leaves, ?others⟩
  case sessions =>
    intro j hj hi
    rcases List.mem_cons.1 hj with rfl | hj
    · rw [h.otherSessions j (Or.inl hk), Body.closeSession_session hi, if_pos rfl]; rfl
    · exact h.sessions j hj (by rw [hses j hj]; exact hi)
  case otherSessions =>
    rintro j (hj | hi)
    · rw [List.mem_cons, not_or] at hj
      rw [h.otherSessions j (Or.inl hj.2), Body.closeSession_otherSession hj.1]
    · by_cases hjk : j = k
      · subst hjk
        rw [h.otherSessions j (Or.inl hk), Body.closeSession_idle hi]
      · have hs : (b.closeSession t tb k ending).session j = b.session j := Body.closeSession_otherSession hjk
        rw [h.otherSessions j (Or.inr (by rw [hs]; exact hi)), hs]
  case documents =>
    intro j hj n d hi hdoc hd hother
    rcases List.mem_cons.1 hj with rfl | hj
    · have hslot : e.slot n = (b.closeSession t tb j ending).slot n := h.otherSlots n fun m hm hmi hmn => by
        rw [hses m hm] at hmi hmn
        exact hother m (List.mem_cons_of_mem _ hm) (hne m hm) hmi hmn
      have hc := Body.closeSession_closed (t := t) (tb := tb) (ending := ending) rfl hi hdoc hd hq
      rw [hslot]
      exact ⟨hc.discarded, hc.kept⟩
    · have hslot : (b.closeSession t tb k ending).slot n = b.slot n := Body.closeSession_otherSlot fun hki hkn =>
        hother k List.mem_cons_self (Ne.symm (hne j hj)) hki hkn
      have hd1 : (b.closeSession t tb k ending).doc n = some d := by unfold Body.doc; rw [hslot]; exact hd
      rw [← hslot]
      refine h.documents j hj n d (by rw [hses j hj]; exact hi) (by rw [hses j hj]; exact hdoc) hd1 fun m hm hmj => ?_
      rw [hses m hm]
      exact hother m (List.mem_cons_of_mem _ hm) hmj
  case otherSlots =>
    intro n hn
    rw [h.otherSlots n fun j hj => by rw [hses j hj]; exact hn j (List.mem_cons_of_mem _ hj)]
    exact Body.closeSession_otherSlot fun hi => hn k List.mem_cons_self hi
  case accounts =>
    intro hnd hdist x hle
    have hdoc : ∀ j ∈ ks, (b.closeSession t tb k ending).closingDoc j = b.closingDoc j := fun j hj =>
      Body.closeSession_closingDoc (hne j hj) fun hki hji =>
        hdist k List.mem_cons_self j (List.mem_cons_of_mem _ hj) (Ne.symm (hne j hj)) hki hji
    have hsum := Body.closingSum_congr hdoc
    have hacc : (b.closeSession t tb k ending).account x = b.account x +
        ((b.closingDoc k).map (fun d => chargeOf d.apportioned x)).getD 0 -
        ((b.closingDoc k).map (fun d => chargeOf d.obligations x)).getD 0 := by
      cases hc : b.closingDoc k with
      | none => unfold Body.account; rw [Body.closeSession_uncharged hc]; rfl
      | some d => exact Body.closeSession_charged hc (hnd k List.mem_cons_self d hc) x
    rw [Body.closingSum_cons] at hle
    rw [Body.closingSum_cons, Body.closingSum_cons, h.accounts (fun j hj d hd => ?nodup) (fun i hi j hj => ?distinct) x
      (by rw [hsum, hacc]; omega), hsum, hsum, hacc]
    · omega
    case nodup => rw [hdoc j hj] at hd; exact hnd j (List.mem_cons_of_mem _ hj) d hd
    case distinct =>
      rw [hses i hi, hses j hj]
      exact hdist i (List.mem_cons_of_mem _ hi) j (List.mem_cons_of_mem _ hj)
  case uncharged =>
    intro hnone x
    have hck := hnone k List.mem_cons_self
    rw [h.uncharged (fun j hj => Body.closeSession_closingDoc_none (hne j hj) hck
      (hnone j (List.mem_cons_of_mem _ hj))) x]
    unfold Body.account
    rw [Body.closeSession_uncharged hck]
  case purges =>
    rw [h.purges, Body.closeSession_purges_eq, List.filter_filter]
    refine List.filter_congr fun m _ => ?_
    rw [← Bool.decide_and, decide_eq_decide, List.forall_mem_cons, and_comm]
    refine and_congr_right fun hm => forall₂_congr fun j hj => not_congr ?_
    exact Body.closeSession_discardedSlot (hne j hj) hm
  case buffers =>
    intro i
    rw [h.buffers, Body.closeSession_anyBuffer hq]
    simp only [List.mem_cons, exists_eq_or_imp, if_or_eq,
      exists_mem_congr hses fun c => c.state ≠ .idle ∧ i ∈ c.queue,
      exists_mem_congr hses fun c => c.state = .inPage ∧ c.queue.getLast? = some i]
  case ready =>
    rw [h.ready, Body.closeSession_ready hq, List.flatMap_cons, List.append_assoc]
    congr 2
    exact List.flatMap_congr fun j hj => by rw [hses j hj]
  case leaves =>
    intro l
    rw [h.leaves, Body.closeSession_leaf hq]
    simp only [hleaf, List.mem_cons, exists_eq_or_imp, if_or_eq,
      exists_mem_congr hses fun c => c.state = .inPage ∧ ∃ i, c.queue.getLast? = some i ∧ (b.buffer i).leaf = some l]
    split_ifs <;> rfl
  case others =>
    refine h.others.trans ?_
    apply Body.eq_of_fields
    all_goals first | rfl | simp

end

/-- Each close leaves the sessions still to be closed as they were. -/
theorem Body.closeSessions_closedAll {t : Tables} {tb : Timebase} {ks : List Nat} {ending : Ending} (hnd : ks.Nodup)
    {b : Body} (hq : ∀ k ∈ ks, (b.session k).state = .inPage → (b.session k).queue ≠ []) :
    ClosedAll t tb b (b.closeSessions t tb ks ending) ks ending := by
  induction ks generalizing b with
  | nil => exact ClosedAll.nil t tb b ending
  | cons k ks ih =>
    obtain ⟨hk, hnd⟩ := List.nodup_cons.1 hnd
    rw [Body.closeSessions_cons]
    refine ClosedAll.cons hk (hq k List.mem_cons_self) (ih hnd fun j hj => ?_)
    rw [Body.closeSession_otherSession (ne_of_mem_of_not_mem hj hk)]
    exact hq j (List.mem_cons_of_mem _ hj)

end Sys2Proof.Machine
end

section
/-! The records node's requests: SET NODE, the routes and the limits (R26 to R28, R32, R33). -/

namespace Sys2Proof.Machine

/-! ### SET NODE -/

theorem setNodeRefusal_notPermitted {t : Tables} {n : Nat} {r : Role} (h : n = t.recordsNode ∨ r = .records) :
    setNodeRefusal t n r = some .notPermitted := by
  unfold setNodeRefusal
  by_cases hn : n = t.recordsNode
  · rw [if_pos hn]
  · rw [if_neg hn, h.resolve_left hn]

theorem Tables.lineTaken_iff {t : Tables} {n i : Nat} :
    t.lineTaken n i = true ↔ ∃ m, m < 32 ∧ m ≠ n ∧ t.role m = .line i := by
  simp [Tables.lineTaken]

theorem setNodeRefusal_alreadyAssigned {t : Tables} {n : Nat} {r : Role} (hn : n ≠ t.recordsNode)
    (h : (∃ i m, r = .line i ∧ m < 32 ∧ m ≠ n ∧ t.role m = .line i) ∨
      ∃ d, r = .department d ∧ t.role n ≠ .department d ∧ 2 ≤ (t.dept d).nodes.length) :
    setNodeRefusal t n r = some .alreadyAssigned := by
  unfold setNodeRefusal
  rw [if_neg hn]
  rcases h with ⟨i, m, rfl, hm⟩ | ⟨d, rfl, hd⟩
  · exact if_pos (Tables.lineTaken_iff.2 ⟨m, hm⟩)
  · exact if_pos hd

theorem setNodeRefusal_passes {t : Tables} {n : Nat} {r : Role} (hn : n ≠ t.recordsNode) (hr : r ≠ .records)
    (ht : ¬ ∃ i m, r = .line i ∧ m < 32 ∧ m ≠ n ∧ t.role m = .line i)
    (hf : ¬ ∃ d, r = .department d ∧ t.role n ≠ .department d ∧ 2 ≤ (t.dept d).nodes.length) :
    setNodeRefusal t n r = none := by
  unfold setNodeRefusal
  rw [if_neg hn]
  cases r with
  | records => exact absurd rfl hr
  | line i => exact if_neg fun h => ht (by
      obtain ⟨m, hm⟩ := Tables.lineTaken_iff.1 h
      exact ⟨i, m, rfl, hm⟩)
  | department d => exact if_neg fun h => hf ⟨d, rfl, h⟩
  | none => rfl

section
variable {s : State} {h : Head} {node : BitVec 6} {code : BitVec 3} {value : BitVec 5} {r : Role}

theorem exec_setNode (hh : Heard s h .records) (hn : node.toNat < 32) (hr : roleOf code.toNat value.toNat = some r) :
    exec (.setNode h node code value) s = .next ((ownSetNode node.toNat r s.nextPacket).state.reply .records .setNode
      (ownSetNode node.toNat r s.nextPacket).verdict (ownSetNode node.toNat r s.nextPacket).block) := by
  dsimp only [exec, execSetNode]
  rw [request_taken hh nofun rfl (by simp [hn, hr]), hr]
  rfl

theorem exec_setNode_refused {e : Denied} (hh : Heard s h .records) (hn : node.toNat < 32)
    (hr : roleOf code.toNat value.toNat = some r) (he : setNodeRefusal s.tables node.toNat r = some e) :
    exec (.setNode h node code value) s =
      .next (State.reply { s with sent := none } .records .setNode (.denied e) .none) := by
  have hown : ownSetNode node.toNat r s.nextPacket = Taken.turnedAway s.nextPacket (.denied e) := by
    unfold ownSetNode
    rw [State.nextPacket_tables, he]
  rw [exec_setNode hh hn hr, hown]
  rfl

theorem exec_setNode_taken (hh : Heard s h .records) (hn : node.toNat < 32)
    (hr : roleOf code.toNat value.toNat = some r) (he : setNodeRefusal s.tables node.toNat r = none) :
    exec (.setNode h node code value) s =
      .next (answered (s.nextPacket.setNode node.toNat r) .records .setNode .plain) := by
  have hown : ownSetNode node.toNat r s.nextPacket = ⟨s.nextPacket.setNode node.toNat r, .taken .plain, .none⟩ := by
    unfold ownSetNode
    rw [State.nextPacket_tables, he]
  rw [exec_setNode hh hn hr, hown]
  rfl

end

theorem lostSessions_eq_nil {old new : Role} (h : ∀ i, old = .line i → new = .line i) : lostSessions old new = [] := by
  unfold lostSessions
  cases old with
  | line i => exact if_pos (h i rfl)
  | _ => rfl

theorem lostSessions_line {i : Nat} {new : Role} (h : new ≠ .line i) :
    lostSessions (.line i) new = (List.range 8).map (fun c => i * 8 + c) := if_neg h

theorem State.setNode_keepsLine {s : State} {n : Nat} {r : Role} (h : ∀ i, s.tables.role n = .line i → r = .line i) :
    s.setNode n r = { s with tables := s.tables.enrol n r } := by
  unfold State.setNode
  rw [lostSessions_eq_nil h, if_pos rfl]

theorem State.setNode_losesLine {s : State} {n i : Nat} {r : Role} (h : s.tables.role n = .line i) (hr : r ≠ .line i) :
    s.setNode n r = State.arbitrate { s with
      tables := s.tables.enrol n r,
      body := s.body.closeSessions s.tables s.time ((List.range 8).map (fun c => i * 8 + c)) .withdrawn } := by
  unfold State.setNode
  rw [h, lostSessions_line hr, if_neg (by simp)]
  rfl

/-- The state of SET NODE before the arbiters' choices. -/
def State.renamed (s : State) (n : Nat) (r : Role) : State :=
  { s with
    tables := s.tables.enrol n r,
    body := s.body.closeSessions s.tables s.time (lostSessions (s.tables.role n) r) .withdrawn,
    sent := none }

theorem State.renamed_keepsLine {s : State} {n : Nat} {r : Role} (h : ∀ i, s.tables.role n = .line i → r = .line i) :
    s.renamed n r = { s with tables := s.tables.enrol n r, sent := none } := by
  unfold State.renamed
  rw [lostSessions_eq_nil h]
  rfl

theorem State.renamed_losesLine {s : State} {n i : Nat} {r : Role} (h : s.tables.role n = .line i) (hr : r ≠ .line i) :
    s.renamed n r = { s with
      tables := s.tables.enrol n r,
      body := s.body.closeSessions s.tables s.time ((List.range 8).map (fun c => i * 8 + c)) .withdrawn,
      sent := none } := by
  unfold State.renamed
  rw [h, lostSessions_line hr]

theorem lineSessions_nodup (i : Nat) : ((List.range 8).map (fun c => i * 8 + c)).Nodup :=
  List.nodup_range.map_on fun _ _ _ _ h => Nat.add_left_cancel h

theorem State.renamed_closedAll {s : State} {n i : Nat} {r : Role} (h : s.tables.role n = .line i) (hr : r ≠ .line i)
    (hq : ∀ c, c < 8 → (s.body.session (i * 8 + c)).state = .inPage → (s.body.session (i * 8 + c)).queue ≠ []) :
    ClosedAll s.tables s.time s.body (s.renamed n r).body ((List.range 8).map (fun c => i * 8 + c)) .withdrawn := by
  have hbody : (s.renamed n r).body =
      s.body.closeSessions s.tables s.time ((List.range 8).map (fun c => i * 8 + c)) .withdrawn := by
    rw [State.renamed_losesLine h hr]
  rw [hbody]
  refine Body.closeSessions_closedAll (lineSessions_nodup i) fun k hk => ?_
  obtain ⟨c, hc, rfl⟩ := List.mem_map.1 hk
  exact hq c (List.mem_range.1 hc)

/-- Settles O39. -/
theorem setNodeMovesTheNode : Obligations.SetNodeMovesTheNode := by
  intro s h node code value r hh hn hr n refused taken full
  refine ⟨fun hp => exec_setNode_refused hh hn hr (setNodeRefusal_notPermitted hp),
    fun hrec ha => exec_setNode_refused hh hn hr (setNodeRefusal_alreadyAssigned hrec ha),
    fun hrec hrr ht hf => ⟨s.renamed n r, ?role, fun m hm => ?others, fun hsame => ?same, fun hnew d => ?dept,
      Tables.enrol_others .., rfl, fun hkeep => ⟨?body, ?plain⟩, fun i hi hri hq => ⟨?closed, ?lost⟩⟩⟩
  case role => exact (Tables.enrol_role _ _ _ hn _).trans (if_pos rfl)
  case others => exact (Tables.enrol_role _ _ _ hn _).trans (if_neg hm)
  case same => exact if_pos hsame
  case dept => exact (Tables.enrol_dept ..).trans (if_neg hnew)
  case body => rw [State.renamed_keepsLine hkeep]
  case plain =>
    rw [exec_setNode_taken hh hn hr (setNodeRefusal_passes hrec hrr ht hf),
      State.setNode_keepsLine (s := s.nextPacket) hkeep, State.renamed_keepsLine hkeep]
    rfl
  case closed =>
    exact State.renamed_closedAll hi hri hq
  case lost =>
    rw [exec_setNode_taken hh hn hr (setNodeRefusal_passes hrec hrr ht hf),
      State.setNode_losesLine (s := s.nextPacket) hi hri, State.renamed_losesLine hi hri]
    rfl

/-! ### Routes and limits -/

theorem patternOf_eq {v : BitVec 24} (h : ∀ p ∈ digitsOf 6 v.toNat, p ≤ 9 ∨ p = 14) :
    patternOf v = some (digitsOf 6 v.toNat) := by
  have hs := (patternOf_isSome v).2 h
  unfold patternOf at hs ⊢
  dsimp only at hs ⊢
  split_ifs at hs ⊢
  · rfl
  · cases hs

theorem routeRoleOf_eq {v : Nat} {r : RouteRole} (h : v = 0 ∧ r = .primary ∨ v = 1 ∧ r = .copy) :
    routeRoleOf v = some r := by
  rcases h with ⟨rfl, rfl⟩ | ⟨rfl, rfl⟩ <;> rfl

theorem clampTo_seconds (v : Nat) : clampTo 5 600 v = if v < 5 then 5 else min v 600 := by
  unfold clampTo
  split_ifs <;> omega

/-- Settles O40. -/
theorem routesAndLimitsAreStored : Obligations.RoutesAndLimitsAreStored := by
  refine ⟨fun s h index pattern department role r hh hi hp hd hr => ?_, fun s h floor idleTimeout hh => ?_⟩
  · have hp' := patternOf_eq hp
    have hr' := routeRoleOf_eq hr
    have hd' : departmentInRange department = true := (departmentInRange_iff department).2 (by omega)
    intro stores
    refine ⟨⟨{ s with
        tables := { s.tables with
          routes := Table.write none s.tables.routes index.toNat
            (some ⟨digitsOf 6 pattern.toNat, department.toNat, r⟩) },
        sent := none }, ?set, ?_, fun i hne => ?_, rfl, rfl⟩,
      ⟨{ s with tables := { s.tables with routes := Table.write none s.tables.routes index.toNat none }, sent := none },
        ?clear, ?_, fun i hne => ?_, rfl, rfl⟩⟩
    case set =>
      dsimp only [exec, execSetRoute]
      rw [request_taken hh nofun rfl (by simp [hi, hp', hd', hr', Config.routes]), hp', hr']
      rfl
    case clear =>
      dsimp only [exec, execClearRoute]
      rw [request_taken hh nofun rfl (by simp [hi, Config.routes])]
      rfl
    all_goals simp [Tables.route, *]
  · intro leaves seconds
    dsimp only [exec, execSetLimits]
    rw [request_taken hh nofun rfl rfl]
    simp only [clampTo_seconds, Nat.min_comm 8192]
    rfl

end Sys2Proof.Machine
end

section
/-! LIST, DESCRIBE and READ, and the refusals of the requests that name a document (R110 to R140). -/

namespace Sys2Proof.Machine

/-! ### Documents in serial order -/

theorem insertSerial_eq (e : Nat × Document) (l : List (Nat × Document)) :
    insertSerial e l = l.orderedInsert (fun x y => x.2.serial ≤ y.2.serial) e := by
  induction l with
  | nil => rfl
  | cons f l ih => rw [List.orderedInsert_cons, ← ih]; rfl

theorem bySerial_eq (l : List (Nat × Document)) :
    bySerial l = l.insertionSort (fun x y => x.2.serial ≤ y.2.serial) := by
  unfold bySerial List.insertionSort
  congr 1
  funext e l
  exact insertSerial_eq e l

theorem bySerial_perm (l : List (Nat × Document)) : (bySerial l).Perm l := by
  rw [bySerial_eq]
  exact List.perm_insertionSort _ l

theorem bySerial_pairwise (l : List (Nat × Document)) : (bySerial l).Pairwise (fun x y => x.2.serial ≤ y.2.serial) := by
  have total : Std.Total (fun x y : Nat × Document => x.2.serial ≤ y.2.serial) := ⟨fun _ _ => Nat.le_total ..⟩
  have trans : IsTrans (Nat × Document) (fun x y => x.2.serial ≤ y.2.serial) := ⟨fun _ _ _ => Nat.le_trans⟩
  rw [bySerial_eq]
  exact List.pairwise_insertionSort _ l

/-! ### LIST -/

/-- The body after a LIST: a department's own list from serial 0 on clears its attention (R39, R127). -/
def Body.listedFor (b : Body) (role : Role) (after : Nat) : Body :=
  match clearsAttention role after with
  | some d => b.setAttention d false
  | none => b

theorem clearsAttention_iff {role : Role} {after dept : Nat} :
    clearsAttention role after = some dept ↔ role = .department dept ∧ after = 0 := by
  unfold clearsAttention
  cases role <;> simp [and_comm]

theorem Body.listedFor_attends (b : Body) {role : Role} {after dept : Nat}
    (h : role = .department dept ∨ role = .records) (x : Nat) :
    (b.listedFor role after).attends x = if x = dept ∧ after = 0 ∧ role = .department dept then false
      else b.attends x := by
  unfold Body.listedFor clearsAttention
  rcases h with rfl | rfl
  · by_cases ha : after = 0 <;> simp [ha]
  · simp

theorem Body.listedFor_attention (b : Body) {role : Role} {after dept : Nat}
    (h : role = .department dept ∨ role = .records) :
    (b.listedFor role after).attentionFor role =
      (decide (role = .department dept) && decide (after ≠ 0) && b.attends dept) := by
  rcases h with rfl | rfl
  · refine (Body.listedFor_attends b (Or.inl rfl) dept).trans ?_
    by_cases ha : after = 0 <;> simp [ha]
  · simp [Body.attentionFor]

theorem Body.listedFor_frame (b : Body) (role : Role) (after : Nat) :
    b.listedFor role after = { b with attention := (b.listedFor role after).attention } := by
  unfold Body.listedFor
  split <;> rfl

/-- What a LIST finds in a body. -/
def Body.listEntries (b : Body) (dept after : Nat) : List ListEntry :=
  ((b.qualifying dept after).take listLimit).map (listEntry b dept)

theorem Body.listEntries_length (b : Body) (dept after : Nat) :
    (b.listEntries dept after).length = min 8 (b.qualifying dept after).length := by
  simp [Body.listEntries, listLimit]

theorem Body.listEntries_eq_nil (b : Body) (dept after : Nat) :
    b.listEntries dept after = [] ↔ b.qualifying dept after = [] := by
  rw [← List.length_eq_zero_iff, Body.listEntries_length, ← List.length_eq_zero_iff]
  omega

theorem Body.listEntries_getElem? {b : Body} {dept after j n : Nat} {d : Document} {o : Obligation} (hj : j < 8)
    (hf : (b.qualifying dept after)[j]? = some (n, d))
    (ho : d.obligations.find? (fun q => q.department == dept) = some o) :
    (b.listEntries dept after)[j]? = some ⟨n, (b.slot n).generation, d.serial, o.kind, o.state, d.state,
      decide (d.state = .receiving), d.pages.length, d.receipt⟩ := by
  have hob : d.obligation dept = some o := ho
  unfold Body.listEntries
  rw [List.getElem?_map, List.getElem?_take_of_lt (show j < listLimit from hj), hf, Option.map_some]
  unfold listEntry
  rw [hob]
  rfl

theorem exec_list {s : State} {h : Head} {role : Role} {after : BitVec 32} {department : BitVec 5} {dept : Nat}
    (hh : Heard s h role)
    (hr : role = .department dept ∨ (role = .records ∧ dept = department.toNat ∧ dept < 16)) :
    exec (.list h after department) s = .next (State.reply { s with body := s.body.listedFor role after.toNat } role .list
      (.taken (.list (s.body.listEntries dept after.toNat).length
        (decide (8 < (s.body.qualifying dept after.toNat).length))))
      (if s.body.listEntries dept after.toNat = [] then .none else .entries (s.body.listEntries dept after.toNat))) := by
  have hdept : listDepartment role department = dept := by
    rcases hr with rfl | ⟨rfl, rfl, hd⟩ <;> rfl
  have hnone : role ≠ .none := by rcases hr with rfl | ⟨rfl, _⟩ <;> exact nofun
  have hperm : Op.list.permits role = true := by rcases hr with rfl | ⟨rfl, _⟩ <;> rfl
  dsimp only [exec, execList]
  rw [request_taken hh hnone hperm ?form, hdept]
  case form =>
    rcases hr with rfl | ⟨rfl, rfl, hd⟩
    · rfl
    · exact (departmentInRange_iff department).2 (by omega)
  unfold Body.listedFor
  cases clearsAttention role after.toNat <;> rfl

/-! ### DESCRIBE -/

theorem mayRead_none {role : Role} {d : Document}
    (h : (∃ x, role = .department x ∧ d.obliges x = true) ∨ (role = .records ∧ d.state ≠ .purging)) :
    mayRead role d = none := by
  unfold mayRead
  rcases h with ⟨x, rfl, hx⟩ | ⟨rfl, hs⟩
  · exact if_pos hx
  · exact if_neg hs

theorem mayRead_reads {op : Op} (ho : op = .describe ∨ op = .read) {role : Role}
    (h : (∃ x, role = .department x) ∨ role = .records) : role ≠ .none ∧ op.permits role = true := by
  rcases ho with rfl | rfl <;> rcases h with ⟨x, rfl⟩ | rfl <;> exact ⟨nofun, rfl⟩

theorem slotInRange_iff (slot : BitVec 13) : slotInRange slot = true ↔ slot.toNat < Config.slots := by
  simp [slotInRange]

theorem pageInRange_iff (page : BitVec 10) : pageInRange page = true ↔ 1 ≤ page.toNat ∧ page.toNat ≤ 999 := by
  simp [pageInRange]

theorem summaries_length (d : Document) {first : Nat} (h : 1 ≤ first) :
    (summaries d first).length = min 12 (d.pages.length + 1 - first) := by
  simp only [summaries, List.length_map, List.length_take, List.length_drop, List.length_zipIdx]
  omega

theorem summaries_getElem? {d : Document} {first j : Nat} {p : Page} (h : 1 ≤ first) (hj : j < 12)
    (hp : d.pages[first - 1 + j]? = some p) :
    (summaries d first)[j]? =
      some ⟨first + j, p.state, p.density, p.width, p.coding, p.byteLength, p.counts⟩ := by
  have hidx : first - 1 + j + 1 = first + j := by omega
  unfold summaries
  rw [List.getElem?_map, List.getElem?_take_of_lt hj, List.getElem?_drop, List.getElem?_zipIdx, hp]
  simp [hidx]

section
variable {s : State} {h : Head} {role : Role} {slot : BitVec 13} {generation : BitVec 8} {d : Document}
  (hh : Heard s h role) (hr : (∃ x, role = .department x) ∨ role = .records) (hn : Names s.body slot generation d)
include hh hr hn

theorem exec_describe_refused {first : BitVec 10} {r : Denied} (h1 : 1 ≤ first.toNat) (h2 : first.toNat ≤ 999)
    (hm : mayRead role d = some r) : exec (.describe h slot generation first) s =
      .next (State.reply { s with sent := none } role .describe (.denied r) .none) := by
  obtain ⟨hnone, hperm⟩ := mayRead_reads (Or.inl rfl) hr
  dsimp only [exec, execDescribe]
  rw [request_taken hh hnone hperm (by simp [slotInRange_iff, pageInRange_iff, hn.inRange, h1, h2]),
    onDocument_named (s := s.nextPacket) _ hn, hm]
  rfl

theorem exec_describe_taken {first : BitVec 10} (h1 : 1 ≤ first.toNat) (h2 : first.toNat ≤ 999)
    (hm : mayRead role d = none) : exec (.describe h slot generation first) s =
      .next (answered { s with sent := none } role .describe .plain
        (.description (describeDocument s.time.run slot.toNat generation.toNat d first.toNat))) := by
  obtain ⟨hnone, hperm⟩ := mayRead_reads (Or.inl rfl) hr
  dsimp only [exec, execDescribe]
  rw [request_taken hh hnone hperm (by simp [slotInRange_iff, pageInRange_iff, hn.inRange, h1, h2]),
    onDocument_named (s := s.nextPacket) _ hn, hm]
  rfl

theorem exec_read_refused {page : BitVec 10} {offset : BitVec 18} {count : BitVec 9} {r : Denied}
    (h1 : 1 ≤ page.toNat) (h2 : page.toNat ≤ 999) (h3 : 1 ≤ count.toNat) (h4 : count.toNat ≤ 256)
    (hm : mayRead role d = some r) : exec (.read h slot generation page offset count) s =
      .next (State.reply { s with sent := none } role .read (.denied r) .none) := by
  obtain ⟨hnone, hperm⟩ := mayRead_reads (Or.inr rfl) hr
  dsimp only [exec, execRead]
  rw [request_taken hh hnone hperm
      (by simp [slotInRange_iff, pageInRange_iff, countInRange_iff, hn.inRange, h1, h2, h3, h4]),
    onDocument_named (s := s.nextPacket) _ hn, hm]
  rfl

theorem exec_read_allowed {page : BitVec 10} {offset : BitVec 18} {count : BitVec 9} (h1 : 1 ≤ page.toNat)
    (h2 : page.toNat ≤ 999) (h3 : 1 ≤ count.toNat) (h4 : count.toNat ≤ 256) (hm : mayRead role d = none) :
    let t := readDocument role slot.toNat d page.toNat offset.toNat count.toNat s.nextPacket
    exec (.read h slot generation page offset count) s = .next (t.state.reply role .read t.verdict t.block) := by
  obtain ⟨hnone, hperm⟩ := mayRead_reads (Or.inr rfl) hr
  dsimp only [exec, execRead]
  rw [request_taken hh hnone hperm
      (by simp [slotInRange_iff, pageInRange_iff, countInRange_iff, hn.inRange, h1, h2, h3, h4]),
    onDocument_named (s := s.nextPacket) _ hn, hm]

end

/-- Settles O31. -/
theorem listAndDescribeReportTheDocuments : Obligations.ListAndDescribeReportTheDocuments := by
  refine ⟨fun s h role after department dept hh hr => ?list, fun s h role slot generation first d hh hn h1 h2 hr => ?_⟩
  case list =>
    have hrole : role = .department dept ∨ role = .records := hr.imp_right fun h => h.1
    refine ⟨_, s.body.qualifying dept after.toNat, s.body.listEntries dept after.toNat, exec_list hh hr,
      bySerial_perm _, bySerial_pairwise _, ?answer, ?block, Body.listEntries_length .., fun j n d o hj hf ho =>
        Body.listEntries_getElem? hj hf ho, Body.listedFor_attends _ hrole, ?attention, Body.listedFor_frame ..,
      ⟨_, rfl, rfl, rfl⟩, rfl⟩
    case answer => rw [Body.listEntries_length]; rfl
    case block => simp only [Body.listEntries_eq_nil]; rfl
    case attention => exact congrArg some (Body.listedFor_attention _ hrole)
  · have hmay := mayRead_none hr
    refine ⟨describeDocument s.time.run slot.toNat generation.toNat d first.toNat, ?exec, rfl, rfl, rfl, rfl, rfl, rfl,
      rfl, rfl, rfl, rfl, rfl, rfl, rfl, rfl, rfl, rfl, rfl, summaries_length d h1, fun j p hj hp =>
        summaries_getElem? h1 hj hp⟩
    case exec => exact exec_describe_taken hh (hr.imp (fun ⟨x, hx, _⟩ => ⟨x, hx⟩) fun h => h.1) hn h1 h2 hmay

end Sys2Proof.Machine
end

section
/-! The requests that name a document, and when they are refused (R110 to R114, R133, R147, R148). -/

namespace Sys2Proof.Machine

section
variable {s : State} {h : Head} {slot : BitVec 13} {generation : BitVec 8} {d : Document}
  (hn : Names s.body slot generation d)
include hn

theorem exec_release {x : Nat} {choice : BitVec 2} (hh : Heard s h (.department x)) (hc : choice.toNat ≤ 1) :
    let t := ownRelease (choice.toNat == 0) (.department x) slot.toNat d s.nextPacket
    exec (.release h slot generation choice) s =
      .next (t.state.reply (.department x) .release t.verdict t.block) := by
  dsimp only [exec, execRelease]
  rw [request_taken hh nofun rfl (by simp [slotInRange_iff, hn.inRange, hc]), onDocument_named (s := s.nextPacket) _ hn]

theorem exec_forward {department : BitVec 5} (hh : Heard s h .records) (hd : department.toNat < 16) :
    let t := ownForward department.toNat slot.toNat d s.nextPacket
    exec (.forward h slot generation department) s = .next (t.state.reply .records .forward t.verdict t.block) := by
  have hd' : department.toNat ≤ 15 := by omega
  dsimp only [exec, execForward]
  rw [request_taken hh nofun rfl (by simp [slotInRange_iff, departmentInRange_iff, hn.inRange, hd']),
    onDocument_named (s := s.nextPacket) _ hn]

theorem exec_hold {tag : BitVec 16} (hh : Heard s h .records) (ht : 1 ≤ tag.toNat) :
    let t := ownHold tag.toNat slot.toNat d s.nextPacket
    exec (.hold h slot generation tag) s = .next (t.state.reply .records .hold t.verdict t.block) := by
  have ht' : tag.toNat ≠ 0 := by omega
  dsimp only [exec, execHold]
  rw [request_taken hh nofun rfl (by simp only [slotInRange_iff, hn.inRange, ht', Bool.and_eq_true, decide_eq_true_eq,
    ne_eq, not_false_eq_true, and_self]), onDocument_named (s := s.nextPacket) _ hn]

theorem exec_unhold {tag : BitVec 16} (hh : Heard s h .records) (ht : 1 ≤ tag.toNat) :
    let t := ownUnhold tag.toNat slot.toNat d s.nextPacket
    exec (.unhold h slot generation tag) s = .next (t.state.reply .records .unhold t.verdict t.block) := by
  have ht' : tag.toNat ≠ 0 := by omega
  dsimp only [exec, execUnhold]
  rw [request_taken hh nofun rfl (by simp only [slotInRange_iff, hn.inRange, ht', Bool.and_eq_true, decide_eq_true_eq,
    ne_eq, not_false_eq_true, and_self]), onDocument_named (s := s.nextPacket) _ hn]

end

/-! ### The refusals of the owners -/

theorem Document.obligation_none {d : Document} {x : Nat} (h : d.obliges x = false) : d.obligation x = none := by
  simpa [Document.obliges, Document.obligation] using h

theorem Document.obligation_some {d : Document} {x : Nat} (h : d.obliges x = true) : ∃ o, d.obligation x = some o := by
  refine Option.isSome_iff_exists.1 ?_
  simpa [Document.obliges, Document.obligation] using h

theorem Document.page_pos (d : Document) {p : Nat} (h : 1 ≤ p) : d.page p = d.pages[p - 1]? := by
  unfold Document.page
  exact if_neg (by omega)

section
variable {s : State} {d : Document} {n : Nat}

theorem ownRelease_receiving (accepts : Bool) (role : Role) (h : d.state = .receiving) :
    ownRelease accepts role n d s = Taken.turnedAway s (.denied .stillReceiving) := by
  unfold ownRelease
  exact if_pos h

theorem ownRelease_notObliged (accepts : Bool) {x : Nat} (h : d.state ≠ .receiving) (ho : d.obliges x = false) :
    ownRelease accepts (.department x) n d s = Taken.turnedAway s (.denied .notObliged) := by
  unfold ownRelease
  dsimp only
  rw [if_neg h, Document.obligation_none ho]

theorem ownRelease_intake (h : d.state ≠ .receiving) (ho : d.obliges 0 = true) :
    ownRelease false (.department 0) n d s = Taken.turnedAway s (.denied .intakeCannotDecline) := by
  obtain ⟨o, hob⟩ := Document.obligation_some ho
  unfold ownRelease
  dsimp only
  rw [if_neg h, hob]
  rfl

theorem owners_purging (h : d.state = .purging) (dept tag : Nat) :
    ownForward dept n d s = Taken.turnedAway s (.denied .purging) ∧
      ownHold tag n d s = Taken.turnedAway s (.denied .purging) ∧
      ownUnhold tag n d s = Taken.turnedAway s (.denied .purging) := by
  unfold ownForward ownHold ownUnhold
  exact ⟨if_pos h, if_pos h, if_pos h⟩

theorem ownForward_disabled {dept : Nat} (h : d.state ≠ .purging) (he : (s.tables.dept dept).enabled = false) :
    ownForward dept n d s = Taken.turnedAway s (.denied .departmentDisabled) := by
  unfold ownForward
  rw [if_neg h, if_pos (by rw [he]; rfl)]

theorem ownForward_obliged {dept : Nat} (h : d.state ≠ .purging) (he : (s.tables.dept dept).enabled = true)
    (ho : d.obliges dept = true) : ownForward dept n d s = Taken.turnedAway s (.denied .alreadyObliged) := by
  unfold ownForward
  rw [if_neg h, if_neg (by simp [he]), if_pos ho]

theorem ownHold_full {tag : Nat} (h : d.state ≠ .purging) (ht : tag ∉ d.holds) (hl : 4 ≤ d.holds.length) :
    ownHold tag n d s = Taken.turnedAway s (.denied .holdFull) := by
  unfold ownHold
  rw [if_neg h, if_neg ht]
  exact if_pos hl

theorem ownUnhold_absent {tag : Nat} (h : d.state ≠ .purging) (ht : tag ∉ d.holds) :
    ownUnhold tag n d s = Taken.turnedAway s (.denied .holdAbsent) := by
  unfold ownUnhold
  rw [if_neg h, if_pos ht]

theorem readDocument_noPage {role : Role} {page offset count : Nat} (h : d.page page = none) :
    readDocument role n d page offset count s =
      Taken.turnedAway s (if d.state = .receiving then .defer .notYet else .denied .range) := by
  unfold readDocument
  rw [h]

theorem readDocument_beyond {role : Role} {page offset count : Nat} {p : Page} (h : d.page page = some p)
    (ho : p.byteLength ≤ offset) : readDocument role n d page offset count s =
      Taken.turnedAway s (if p.state = .openPage then .defer .notYet else .denied .range) := by
  unfold readDocument
  rw [h]
  exact if_pos ho

theorem readDocument_within {role : Role} {page offset count : Nat} {p : Page} (h : d.page page = some p)
    (ho : offset < p.byteLength) :
    readDocument role n d page offset count s = readPage role n page p offset count s := by
  unfold readDocument
  rw [h]
  exact if_neg (by omega)

end

/-- Settles O32. -/
theorem refusedDocumentRequestsChangeNothing : Obligations.RefusedDocumentRequestsChangeNothing := by
  refine ⟨fun s h role slot generation page offset count d hh hn h1 h2 h3 h4 => ?_,
    fun s h role slot generation choice department tag d hh hn hc hd ht => ?_⟩
  · intro answer both
    have refused : ∀ r, (∃ x, role = .department x) ∨ role = .records → mayRead role d = some r → both r :=
      fun r hr hm =>
        ⟨exec_describe_refused hh hr hn h1 h2 hm, exec_read_refused hh hr hn h1 h2 h3 h4 hm⟩
    refine ⟨?notObliged, ?purging, fun hr => ?_⟩
    case notObliged =>
      rintro x rfl hx
      exact refused _ (Or.inl ⟨x, rfl⟩) (if_neg (by simp [hx]))
    case purging =>
      rintro rfl hp
      exact refused _ (Or.inr rfl) (if_pos hp)
    · have hread := exec_read_allowed (offset := offset) hh (hr.imp (fun ⟨x, hx, _⟩ => ⟨x, hx⟩) fun h => h.1) hn h1 h2
        h3 h4 (mayRead_none hr)
      refine ⟨fun hp => ?_, fun p hp ho => ?_⟩
      · rw [hread, readDocument_noPage ((d.page_pos h1).trans hp)]; rfl
      · rw [hread, readDocument_beyond ((d.page_pos h1).trans hp) ho]; rfl
  · intro refused records released
    refine ⟨?release, ?purging, ?others⟩
    case release =>
      rintro x rfl
      have hrel := exec_release hn hh hc
      refine ⟨fun hr => ?_, fun hr ho => ?_, fun hr ho hx h1 => ?_⟩
      · exact hrel.trans (by rw [ownRelease_receiving _ _ hr]; rfl)
      · exact hrel.trans (by rw [ownRelease_notObliged _ hr ho]; rfl)
      · subst hx
        have hchoice : (choice.toNat == 0) = false := by rw [h1]; rfl
        exact hrel.trans (by rw [hchoice, ownRelease_intake hr ho]; rfl)
    case purging =>
      rintro hp rfl
      obtain ⟨hf, hho, hu⟩ := owners_purging (n := slot.toNat) (s := s.nextPacket) hp department.toNat tag.toNat
      refine ⟨?_, ?_, ?_⟩
      · exact (exec_forward hn hh hd).trans (by rw [hf]; rfl)
      · exact (exec_hold hn hh ht).trans (by rw [hho]; rfl)
      · exact (exec_unhold hn hh ht).trans (by rw [hu]; rfl)
    case others =>
      rintro hp rfl
      refine ⟨fun he => ?_, fun he ho => ?_, fun hx hl => ?_, fun hx => ?_⟩
      · exact (exec_forward hn hh hd).trans (by rw [ownForward_disabled (s := s.nextPacket) hp he]; rfl)
      · exact (exec_forward hn hh hd).trans (by rw [ownForward_obliged (s := s.nextPacket) hp he ho]; rfl)
      · exact (exec_hold hn hh ht).trans (by rw [ownHold_full hp hx hl]; rfl)
      · exact (exec_unhold hn hh ht).trans (by rw [ownUnhold_absent hp hx]; rfl)

end Sys2Proof.Machine
end

section
/-! READ: the bytes of a page, and the windows it obtains (R75 to R77, R133 to R140). -/

namespace Sys2Proof.Machine

section
variable {s : State} {h : Head} {role : Role} {slot : BitVec 13} {generation : BitVec 8} {page : BitVec 10}
  {offset : BitVec 18} {count : BitVec 9} {d : Document} {p : Page}

theorem exec_read_within (hh : Heard s h role) (hn : Names s.body slot generation d) (h1 : 1 ≤ page.toNat)
    (h2 : page.toNat ≤ 999) (h3 : 1 ≤ count.toNat) (h4 : count.toNat ≤ 256)
    (hr : (∃ x, role = .department x ∧ d.obliges x = true) ∨ (role = .records ∧ d.state ≠ .purging))
    (hp : d.pages[page.toNat - 1]? = some p) (ho : offset.toNat < p.byteLength) :
    let t := readPage role slot.toNat page.toNat p offset.toNat count.toNat s.nextPacket
    exec (.read h slot generation page offset count) s = .next (t.state.reply role .read t.verdict t.block) := by
  have hread := exec_read_allowed (offset := offset) hh (hr.imp (fun ⟨x, hx, _⟩ => ⟨x, hx⟩) fun h => h.1) hn h1 h2 h3 h4
    (mayRead_none hr)
  rw [hread, readDocument_within ((d.page_pos h1).trans hp) ho]

end

/-! ### Where the bytes are -/

section
variable {b : Body} {p : Place} {l i : Nat}

theorem Body.source_live (h : (b.leaf l).buffer = some i) : b.source p (.placed l) = .live i := by
  unfold Body.source
  simp only [h]

theorem Body.source_waiting (h : b.ready.find? (fun j => (b.buffer j).place == some p && (b.buffer j).leaf == none) = some i) :
    b.source p .unplaced = .live i := by
  have hw : b.waitingBuffer p = some i := h
  unfold Body.source
  simp only [hw, Option.getD_some]

theorem Body.source_hit (h : (b.leaf l).buffer = none) (hw : b.windowOf l = some i)
    (hs : (b.buffer i).state = .window) : b.source p (.placed l) = .hit i := by
  unfold Body.source
  simp only [h, hw, hs, if_true]

theorem Body.source_fetching (h : (b.leaf l).buffer = none) (hw : b.windowOf l = some i)
    (hs : (b.buffer i).state ≠ .window) : b.source p (.placed l) = .fetching := by
  unfold Body.source
  simp only [h, hw, if_neg hs]

theorem Body.source_miss (h : (b.leaf l).buffer = none) (hw : b.windowOf l = none) :
    b.source p (.placed l) = .miss l := by
  unfold Body.source
  simp only [h, hw]

end

/-! ### Opening the sender's obligation -/

theorem Body.openObligation_doc {b : Body} {role : Role} {n : Nat} {d : Document} (hd : b.doc n = some d) :
    (b.openObligation role n).doc n = some { d with obligations := d.obligations.map (fun o =>
      if role = .department o.department then { o with state := .opened } else o) } := by
  unfold Body.openObligation
  cases role with
  | department x =>
    dsimp only
    rw [Body.updDoc_eq _ hd, Body.setDoc_doc, if_pos rfl]
    simp only [Document.updObligation, Role.department.injEq, eq_comm]
  | _ => simpa using hd

theorem Body.openObligation_otherSlot {b : Body} {role : Role} {n m : Nat} {d : Document} (hd : b.doc n = some d)
    (hm : m ≠ n) : (b.openObligation role n).slot m = b.slot m := by
  unfold Body.openObligation
  cases role with
  | department x =>
    dsimp only
    rw [Body.updDoc_eq _ hd, Body.setDoc_slot, if_neg hm]
  | _ => rfl

theorem Body.openObligation_frame {b : Body} {role : Role} {n : Nat} :
    b.openObligation role n = { b with catalog := (b.openObligation role n).catalog } := by
  unfold Body.openObligation Body.updDoc
  cases role with
  | department x => cases b.doc n <;> rfl
  | _ => rfl

/-- Settles O33. -/
theorem readTransfersTheBytesOfThePage : Obligations.ReadTransfersTheBytesOfThePage := by
  intro s h role slot generation page offset count d p buf hh hn h1 h2 h3 h4 hr hp ho index live hit hsrc size
  have hread := exec_read_within hh hn h1 h2 h3 h4 hr hp ho
  have hwin : (s.body.openObligation role slot.toNat).windows = s.body.windows := by rw [Body.openObligation_frame]
  rcases hsrc with hlive | hhit
  · have hsource : s.body.source ⟨slot.toNat, page.toNat, index⟩ ((p.slots[index]?).getD .unplaced) = .live buf := by
      rcases hlive with ⟨leaf, hs, hb⟩ | ⟨hs, hb⟩ <;> rw [hs]
      · exact Body.source_live hb
      · exact Body.source_waiting hb
    have hpage : readPage role slot.toNat page.toNat p offset.toNat count.toNat s.nextPacket =
        ⟨s.nextPacket.withBody (fun b => b.openObligation role slot.toNat), .taken (.read size),
          .bytes (s.body.readBytes buf (offset.toNat % 4096) size)⟩ := by
      unfold readPage
      dsimp only
      rw [State.nextPacket_body, show offset.toNat / Config.leafBytes = index from rfl, hsource]
      rfl
    refine ⟨{ s with body := s.body.openObligation role slot.toNat, sent := none }, ?_,
      Body.openObligation_doc hn.doc, fun m hm => Body.openObligation_otherSlot hn.doc hm, fun _ => ?_, fun hh => ?_,
      ?_, rfl⟩
    · rw [hread, hpage]; rfl
    · exact hwin
    · obtain ⟨leaf, hs, hb, _⟩ := hh
      rcases hlive with ⟨leaf', hs', hb'⟩ | ⟨hs', _⟩
      · rw [hs] at hs'; cases hs'
        rw [hb] at hb'; cases hb'
      · rw [hs] at hs'; cases hs'
    · dsimp only
      rw [hwin]
      exact Body.openObligation_frame
  · obtain ⟨leaf, hs, hb, hw, hst⟩ := hhit
    have hsource : s.body.source ⟨slot.toNat, page.toNat, index⟩ ((p.slots[index]?).getD .unplaced) = .hit buf := by
      rw [hs]
      exact Body.source_hit hb hw hst
    have hpage : readPage role slot.toNat page.toNat p offset.toNat count.toNat s.nextPacket =
        ⟨s.nextPacket.withBody (fun b => (b.openObligation role slot.toNat).touchWindow buf), .taken (.read size),
          .bytes (s.body.readBytes buf (offset.toNat % 4096) size)⟩ := by
      unfold readPage
      dsimp only
      rw [State.nextPacket_body, show offset.toNat / Config.leafBytes = index from rfl, hsource]
      rfl
    refine ⟨{ s with body := (s.body.openObligation role slot.toNat).touchWindow buf, sent := none }, ?_,
      Body.openObligation_doc hn.doc, fun m hm => Body.openObligation_otherSlot hn.doc hm, fun hl => ?_, fun _ => ?_,
      ?_, rfl⟩
    · rw [hread, hpage]; rfl
    · rcases hl with ⟨leaf', hs', hb'⟩ | ⟨hs', _⟩
      · rw [hs] at hs'; cases hs'
        rw [hb] at hb'; cases hb'
      · rw [hs] at hs'; cases hs'
    · unfold Body.touchWindow
      dsimp only
      rw [hwin]
    · unfold Body.touchWindow
      rw [Body.openObligation_frame]

/-! ### A READ that misses -/

section
variable {b : Body} {i l : Nat}

theorem Body.fetchInto_eq : b.fetchInto i l = { b with
    buffers := Table.write .free b.buffers i ⟨.fetching, some l, none, some .delivery, [], false⟩,
    windows := b.windows.filter (fun j => j ≠ i) ++ [i],
    banks := (b.fetchInto i l).banks } := rfl

theorem Body.fetchInto_bank (k : Nat) : (b.fetchInto i l).bank k =
    if k = l % 4 then { b.bank k with fetchQueue := (b.bank k).fetchQueue ++ [i] } else b.bank k := by
  unfold Body.fetchInto
  dsimp only
  rw [Body.setBank_bank, show leafBank l = l % 4 from rfl]
  split_ifs with hk
  · rw [hk]; rfl
  · rfl

theorem Body.fetchInto_buffer (j : Nat) : (b.fetchInto i l).buffer j =
    if j = i then ⟨.fetching, some l, none, some .delivery, [], false⟩ else b.buffer j := by
  unfold Body.buffer
  rw [Body.fetchInto_eq]
  simp only [Table.read_write]

theorem Body.windowAllowed_iff : b.windowAllowed = true ↔ b.windows.length < 24 ∧ 16 < b.freeBuffers := by
  unfold Body.windowAllowed
  rw [Bool.and_eq_true, decide_eq_true_iff, decide_eq_true_iff]
  rfl

end

section
variable {s : State} {role : Role} {n page offset count : Nat} {p : Page}

theorem readPage_obtains {l buf : Nat}
    (h : s.body.source ⟨n, page, offset / 4096⟩ ((p.slots[offset / 4096]?).getD .unplaced) = .miss l)
    (hb : s.body.windowBuffer = some buf) : readPage role n page p offset count s =
      Taken.turnedAway (s.withBody (fun b => b.fetchInto buf l)).arbitrate (.defer .fetching) := by
  unfold readPage
  dsimp only
  rw [show offset / Config.leafBytes = offset / 4096 from rfl, h]
  dsimp only
  rw [hb]

theorem readPage_busy {l : Nat}
    (h : s.body.source ⟨n, page, offset / 4096⟩ ((p.slots[offset / 4096]?).getD .unplaced) = .miss l)
    (hb : s.body.windowBuffer = none) :
    readPage role n page p offset count s = Taken.turnedAway s (.defer .windowsBusy) := by
  unfold readPage
  dsimp only
  rw [show offset / Config.leafBytes = offset / 4096 from rfl, h]
  dsimp only
  rw [hb]

theorem readPage_fetching
    (h : s.body.source ⟨n, page, offset / 4096⟩ ((p.slots[offset / 4096]?).getD .unplaced) = .fetching) :
    readPage role n page p offset count s = Taken.turnedAway s (.defer .fetching) := by
  unfold readPage
  dsimp only
  rw [show offset / Config.leafBytes = offset / 4096 from rfl, h]

end

/-- Settles O34. -/
theorem aReadThatMissesObtainsAWindow : Obligations.AReadThatMissesObtainsAWindow := by
  intro s h role slot generation page offset count d p leaf hh hn h1 h2 h3 h4 hr hp ho hs hb reads room old
  have hread := exec_read_within hh hn h1 h2 h3 h4 hr hp ho
  have hslot : (p.slots[offset.toNat / 4096]?).getD .unplaced = .placed leaf := by rw [hs]; rfl
  have hroom : s.body.windowAllowed = true ↔ room := Body.windowAllowed_iff
  refine ⟨fun buf hw hst => ?fetching, fun buf hw hobtain => ?obtains, fun hw hno hold => ?busy⟩
  case fetching =>
    refine hread.trans ?_
    rw [readPage_fetching (s := s.nextPacket) (by rw [hslot]; exact Body.source_fetching hb hw hst)]
    rfl
  case obtains =>
    have hbuf : s.body.windowBuffer = some buf := by
      unfold Body.windowBuffer
      rcases hobtain with ⟨hr, hf⟩ | ⟨hr, ho⟩
      · rw [if_pos (hroom.2 hr), hf]
      · rw [if_neg (fun h => hr (hroom.1 h))]; exact ho
    refine ⟨{ s with body := s.body.fetchInto buf leaf, sent := none }, ?_, ?_, rfl, ?_, fun j hj => ?_,
      fun k hk => ?_, rfl, rfl⟩
    · refine hread.trans ?_
      rw [readPage_obtains (s := s.nextPacket) (by rw [hslot]; exact Body.source_miss hb hw) hbuf]
      rfl
    · exact (Body.fetchInto_buffer ..).trans (if_pos rfl)
    · exact (Body.fetchInto_bank ..).trans (if_pos rfl)
    · exact (Body.fetchInto_buffer ..).trans (if_neg hj)
    · exact (Body.fetchInto_bank ..).trans (if_neg hk)
  case busy =>
    have hbuf : s.body.windowBuffer = none := by
      unfold Body.windowBuffer
      rw [if_neg fun h => hno (hroom.1 h)]
      exact hold
    refine hread.trans ?_
    rw [readPage_busy (s := s.nextPacket) (by rw [hslot]; exact Body.source_miss hb hw) hbuf]
    rfl

end Sys2Proof.Machine
end

section
/-! The leaf slots of a document and the purge cursor (R95, R119, R151). -/

namespace Sys2Proof.Machine

/-! ### One leaf slot replaced -/

theorem zipIdx_updateNth {α : Type} (f : α → α) (l : List α) (i k : Nat) :
    (updateNth f l i).zipIdx k = (l.zipIdx k).map (fun e => if e.2 = k + i then (f e.1, e.2) else e) := by
  refine List.ext_getElem? fun j => ?_
  simp only [List.getElem?_map, List.getElem?_zipIdx, getElem?_updateNth]
  cases hj : l[j]? <;> by_cases hji : j = i <;> simp [hji]

/-- The place of a leaf slot in its document. -/
def slotPlace (s : Nat × Nat × LeafSlot) : Nat × Nat := (s.1, s.2.1)

/-- A leaf slot's place with the slot replaced. -/
def slotWith (v : LeafSlot) (s : Nat × Nat × LeafSlot) : Nat × Nat × LeafSlot := (s.1, s.2.1, v)

theorem Document.leafSlots_setLeafSlot (d : Document) {page index : Nat} (h : 1 ≤ page) (v : LeafSlot) :
    (d.setLeafSlot page index v).leafSlots =
      d.leafSlots.map (fun s => if slotPlace s = (page, index) then slotWith v s else s) := by
  unfold Document.leafSlots Document.setLeafSlot Document.updLeafSlot Document.updPage
  dsimp only
  rw [zipIdx_updateNth, List.flatMap_map, List.map_flatMap]
  refine List.flatMap_congr fun e _ => ?_
  have hpage : e.2 = 0 + (page - 1) ↔ e.2 + 1 = page := by omega
  by_cases he : e.2 + 1 = page
  · rw [if_pos (hpage.2 he), zipIdx_updateNth, List.map_map, List.map_map]
    refine List.map_congr_left fun x _ => ?_
    by_cases hx : x.2 = index <;> simp [slotPlace, slotWith, he, hx]
  · rw [if_neg fun hp => he (hpage.1 hp), List.map_map]
    refine List.map_congr_left fun x _ => ?_
    simp [slotPlace, he]

theorem Document.page_pos_of_mem {d : Document} {s : Nat × Nat × LeafSlot} (h : s ∈ d.leafSlots) : 1 ≤ s.1 := by
  obtain ⟨e, _, he⟩ := List.mem_flatMap.1 h
  obtain ⟨x, _, rfl⟩ := List.mem_map.1 he
  exact Nat.le_add_left ..

theorem pairwise_zipIdx {α : Type} (l : List α) (k : Nat) : (l.zipIdx k).Pairwise (fun x y => x.2 ≠ y.2) := by
  rw [← List.pairwise_map (f := Prod.snd) (R := (· ≠ ·)), List.zipIdx_map_snd]
  exact List.nodup_range'

theorem Document.leafSlots_nodup (d : Document) : (d.leafSlots.map slotPlace).Nodup := by
  unfold Document.leafSlots
  rw [List.map_flatMap, List.nodup_flatMap]
  refine ⟨fun e _ => ?_, (pairwise_zipIdx d.pages 0).imp fun {x y} hxy => ?_⟩
  · rw [List.map_map]
    exact List.pairwise_map.2 ((pairwise_zipIdx e.1.slots 0).imp fun h heq => h (Prod.mk.inj heq).2)
  · intro p hp hq
    simp only [List.map_map, List.mem_map] at hp hq
    obtain ⟨_, _, rfl⟩ := hp
    obtain ⟨_, _, h⟩ := hq
    have hfst := (Prod.mk.inj h).1
    dsimp only at hfst
    omega

/-! ### Several leaf slots released -/

/-- A document after some of its leaf slots are released (R13, R119). -/
def Document.releasing (d : Document) (slots : List (Nat × Nat × LeafSlot)) : Document :=
  slots.foldl (fun e s => { e.setLeafSlot s.1 s.2.1 .released with retained := e.retained - 1 }) d

theorem Document.releasing_cons (d : Document) (s : Nat × Nat × LeafSlot) (l : List (Nat × Nat × LeafSlot)) :
    d.releasing (s :: l) =
      ({ d.setLeafSlot s.1 s.2.1 .released with retained := d.retained - 1 } : Document).releasing l := rfl

theorem Document.releasing_eq (d : Document) (l : List (Nat × Nat × LeafSlot)) :
    d.releasing l = { d with pages := (d.releasing l).pages, retained := d.retained - l.length } := by
  induction l generalizing d with
  | nil => rfl
  | cons s l ih =>
    rw [Document.releasing_cons, ih]
    simp only [Document.setLeafSlot, Document.updLeafSlot, Document.updPage, List.length_cons]
    congr 1
    omega

theorem Document.releasing_besidesSlots (d : Document) (l : List (Nat × Nat × LeafSlot)) :
    (d.releasing l).pages.map (fun p => { p with slots := [] }) = d.pages.map (fun p => { p with slots := [] }) := by
  induction l generalizing d with
  | nil => rfl
  | cons s l ih =>
    rw [Document.releasing_cons, ih]
    refine List.ext_getElem? fun j => ?_
    simp only [Document.setLeafSlot, Document.updLeafSlot, Document.updPage, List.getElem?_map, getElem?_updateNth]
    split_ifs
    · cases d.pages[j]? <;> rfl
    · rfl

theorem Document.releasing_leafSlots (d : Document) {l : List (Nat × Nat × LeafSlot)} (h : ∀ s ∈ l, 1 ≤ s.1) :
    (d.releasing l).leafSlots =
      d.leafSlots.map (fun s => if slotPlace s ∈ l.map slotPlace then slotWith .released s else s) := by
  induction l generalizing d with
  | nil => simp [Document.releasing]
  | cons t l ih =>
    have hstep : ({ d.setLeafSlot t.1 t.2.1 .released with retained := d.retained - 1 } : Document).leafSlots =
        (d.setLeafSlot t.1 t.2.1 .released).leafSlots := rfl
    rw [Document.releasing_cons, ih _ fun s hs => h s (List.mem_cons_of_mem _ hs), hstep,
      Document.leafSlots_setLeafSlot d (h t List.mem_cons_self), List.map_map]
    refine List.map_congr_left fun s _ => ?_
    have hplace : ∀ v, slotPlace (slotWith v s) = slotPlace s := fun _ => rfl
    have htwice : slotWith .released (slotWith .released s) = slotWith .released s := rfl
    have ht : slotPlace t = (t.1, t.2.1) := rfl
    simp only [Function.comp, List.map_cons, List.mem_cons, ht]
    by_cases h1 : slotPlace s = (t.1, t.2.1) <;> by_cases h2 : slotPlace s ∈ l.map slotPlace <;>
      simp [h1, h2, hplace, htwice, -List.mem_map]

/-! ### The slots at the cursor -/

/-- The slots before the first that names a leaf. -/
def Document.passed (d : Document) : List (Nat × Nat × LeafSlot) := d.leafSlots.takeWhile (fun s => !s.2.2.names)

theorem takeWhile_filter {α : Type} (p q : α → Bool) (l : List α) :
    (l.filter p).takeWhile q = (l.takeWhile (fun x => !p x || q x)).filter p := by
  induction l with
  | nil => rfl
  | cons x l ih => cases hp : p x <;> cases hq : q x <;> simp [hp, hq, ih]

theorem Document.unplacedAtCursor_eq (d : Document) :
    d.unplacedAtCursor = d.passed.filter (fun s => s.2.2 == .unplaced) := by
  unfold Document.unplacedAtCursor Document.passed
  rw [takeWhile_filter]
  have hpass : (fun s : Nat × Nat × LeafSlot => !(s.2.2 != .released) || s.2.2 == .unplaced) =
      fun s => !s.2.2.names := by
    funext s
    cases s.2.2 <;> rfl
  rw [hpass]
  refine List.filter_congr fun s hs => ?_
  have := List.mem_takeWhile_imp hs
  revert this
  cases s.2.2 <;> simp [LeafSlot.names]

theorem Document.passed_append (d : Document) : d.passed ++ d.leafSlots.drop d.passed.length = d.leafSlots := by
  have h := List.takeWhile_prefix (l := d.leafSlots) (fun s => !s.2.2.names)
  exact (List.prefix_append_drop h).symm

theorem Document.mem_unplacedAtCursor {d : Document} {s : Nat × Nat × LeafSlot} :
    s ∈ d.unplacedAtCursor ↔ s ∈ d.passed ∧ s.2.2 = .unplaced := by
  rw [Document.unplacedAtCursor_eq, List.mem_filter, beq_iff_eq]

theorem Document.mem_of_passed {d : Document} {s : Nat × Nat × LeafSlot} (h : s ∈ d.passed) : s ∈ d.leafSlots :=
  (List.takeWhile_subset _) h

/-- No two leaf slots have one place. -/
theorem Document.eq_of_slotPlace {d : Document} {s t : Nat × Nat × LeafSlot} (hs : s ∈ d.leafSlots)
    (ht : t ∈ d.leafSlots) (h : slotPlace s = slotPlace t) : s = t :=
  List.inj_on_of_nodup_map d.leafSlots_nodup hs ht h

/-- The leaf slots after the unplaced ones at the cursor are released. -/
theorem Document.releasing_atCursor (d : Document) : (d.releasing d.unplacedAtCursor).leafSlots =
    d.passed.map (slotWith .released) ++ d.leafSlots.drop d.passed.length := by
  have hpos : ∀ s ∈ d.unplacedAtCursor, 1 ≤ s.1 := fun s hs =>
    Document.page_pos_of_mem (Document.mem_of_passed (Document.mem_unplacedAtCursor.1 hs).1)
  rw [Document.releasing_leafSlots d hpos]
  conv_lhs => rw [← d.passed_append]
  rw [List.map_append]
  have hnodup := d.leafSlots_nodup
  rw [← d.passed_append, List.map_append, List.nodup_append] at hnodup
  obtain ⟨_, _, hdisj⟩ := hnodup
  congr 1
  · refine List.map_congr_left fun s hs => ?_
    split_ifs with h
    · rfl
    · have hnu : s.2.2 ≠ .unplaced := fun hu =>
        h (List.mem_map_of_mem (Document.mem_unplacedAtCursor.2 ⟨hs, hu⟩))
      have hname := List.mem_takeWhile_imp hs
      obtain ⟨p, x, v⟩ := s
      cases v with
      | placed l => simp [LeafSlot.names] at hname
      | unplaced => exact absurd rfl hnu
      | released => rfl
  · refine (List.map_congr_left fun s hs => ?_).trans (List.map_id _)
    refine if_neg fun h => ?_
    obtain ⟨t, ht, hts⟩ := List.mem_map.1 h
    exact hdisj _ (List.mem_map_of_mem (Document.mem_unplacedAtCursor.1 ht).1) _ (List.mem_map_of_mem hs) hts

theorem Document.drop_passed (d : Document) :
    d.leafSlots.drop d.passed.length = d.leafSlots.dropWhile (fun s => !s.2.2.names) := by
  refine List.append_cancel_left (as := d.passed) ?_
  rw [d.passed_append]
  exact List.takeWhile_append_dropWhile.symm

theorem Document.cursor_isNone_iff (d : Document) : (d.releasing d.unplacedAtCursor).cursor.isNone = true ↔
    ∀ s ∈ d.leafSlots, s.2.2.names = false := by
  unfold Document.cursor
  rw [Document.releasing_atCursor, Option.isNone_iff_eq_none, List.find?_eq_none]
  constructor
  · intro h s hs
    by_contra hname
    have hne : d.leafSlots.dropWhile (fun s => !s.2.2.names) ≠ [] := fun hnil =>
      hname (by simpa using List.dropWhile_eq_nil_iff.1 hnil s hs)
    have hhead := List.head_dropWhile_not (fun s : Nat × Nat × LeafSlot => !s.2.2.names) hne
    have hmem := h _ (List.mem_append_right _ (by rw [Document.drop_passed]; exact List.head_mem hne))
    revert hhead hmem
    cases ((d.leafSlots.dropWhile (fun s => !s.2.2.names)).head hne).2.2 <;> simp [LeafSlot.names]
  · intro h s hs
    have hdrop : d.leafSlots.drop d.passed.length = [] := by
      rw [Document.drop_passed, List.dropWhile_eq_nil_iff]
      exact fun s hs => by rw [h s hs]; rfl
    rw [hdrop, List.append_nil] at hs
    obtain ⟨t, _, rfl⟩ := List.mem_map.1 hs
    simp [slotWith]

end Sys2Proof.Machine
end

section
/-! Buffers freed one after another, and the move of a purge cursor (R14, R73, R95, R119, R151). -/

namespace Sys2Proof.Machine

/-! ### Buffers freed -/

theorem Body.releaseBuffer_buffer (b : Body) (i j : Nat) :
    (b.releaseBuffer i).buffer j = if j = i then Buffer.free else b.buffer j := by
  unfold Body.releaseBuffer Body.buffer
  split <;> simp [Body.setBuffer, Body.setSession]

theorem Body.releaseBuffer_ready (b : Body) (i : Nat) : (b.releaseBuffer i).ready = b.ready.filter (fun j => j ≠ i) := by
  unfold Body.releaseBuffer
  split <;> rfl

theorem Body.releaseBuffer_windows (b : Body) (i : Nat) :
    (b.releaseBuffer i).windows = b.windows.filter (fun j => j ≠ i) := by
  unfold Body.releaseBuffer
  split <;> rfl

theorem Body.releaseBuffer_session (b : Body) (i k : Nat) : (b.releaseBuffer i).session k = { b.session k with
    queue := (b.session k).queue.filter (fun j => ¬ (j = i ∧ (b.buffer j).holder = some (.session k))) } := by
  have keeps : ∀ c : Session, (∀ j ∈ c.queue, ¬ (j = i ∧ (b.buffer j).holder = some (.session k))) →
      { c with queue := c.queue.filter (fun j => ¬ (j = i ∧ (b.buffer j).holder = some (.session k))) } = c :=
    fun c h => by rw [List.filter_eq_self.2 fun j hj => decide_eq_true (h j hj)]
  by_cases hheld : ∃ n, (b.buffer i).holder = some (.session n)
  · obtain ⟨n, hn⟩ := hheld
    rw [Body.releaseBuffer_held hn]
    unfold Body.session
    rw [Table.read_write]
    split_ifs with hkn
    · subst hkn
      have hpred : ∀ j, (j = i ∧ (b.buffer j).holder = some (.session k)) ↔ j = i :=
        fun j => ⟨fun h => h.1, fun h => ⟨h, h ▸ hn⟩⟩
      simp only [hpred]
    · exact (keeps _ fun j _ ⟨hj, hk⟩ => hkn (by rw [hj, hn] at hk; cases hk; rfl)).symm
  · have hno : ∀ n, (b.buffer i).holder ≠ some (.session n) := fun n hn => hheld ⟨n, hn⟩
    rw [Body.releaseBuffer_unheld hno]
    exact (keeps _ fun j _ ⟨hj, hk⟩ => hno k (hj ▸ hk)).symm

/-- The buffers of a list freed one after another. -/
def Body.freeing (b : Body) (l : List Nat) : Body := l.foldl Body.releaseBuffer b

section
variable (b : Body) (l : List Nat)

theorem Body.freeing_cons (i : Nat) : b.freeing (i :: l) = (b.releaseBuffer i).freeing l := rfl

theorem Body.freeing_append (m : List Nat) : b.freeing (l ++ m) = (b.freeing l).freeing m := List.foldl_append

theorem Body.freeing_buffer (j : Nat) : (b.freeing l).buffer j = if j ∈ l then Buffer.free else b.buffer j := by
  induction l generalizing b with
  | nil => simp [Body.freeing]
  | cons i l ih =>
    rw [Body.freeing_cons, ih, Body.releaseBuffer_buffer]
    by_cases h1 : j ∈ l <;> by_cases h2 : j = i <;> simp [h1, h2]

theorem Body.freeing_ready : (b.freeing l).ready = b.ready.filter (fun j => j ∉ l) := by
  induction l generalizing b with
  | nil => simp [Body.freeing]
  | cons i l ih =>
    rw [Body.freeing_cons, ih, Body.releaseBuffer_ready, List.filter_filter]
    exact List.filter_congr fun j _ => by simp [Bool.and_comm]

theorem Body.freeing_windows : (b.freeing l).windows = b.windows.filter (fun j => j ∉ l) := by
  induction l generalizing b with
  | nil => simp [Body.freeing]
  | cons i l ih =>
    rw [Body.freeing_cons, ih, Body.releaseBuffer_windows, List.filter_filter]
    exact List.filter_congr fun j _ => by simp [Bool.and_comm]

theorem Body.freeing_session (k : Nat) : (b.freeing l).session k = { b.session k with
    queue := (b.session k).queue.filter (fun j => ¬ (j ∈ l ∧ (b.buffer j).holder = some (.session k))) } := by
  induction l generalizing b with
  | nil => simp [Body.freeing]
  | cons i l ih =>
    rw [Body.freeing_cons, ih, Body.releaseBuffer_session]
    dsimp only
    rw [List.filter_filter]
    congr 1
    refine List.filter_congr fun j _ => ?_
    rw [Body.releaseBuffer_buffer, ← Bool.decide_and, decide_eq_decide, List.mem_cons]
    by_cases hji : j = i
    · simp [hji, Buffer.free]
    · simp [hji]

theorem Body.freeing_frame : b.freeing l = { b with
    sessions := (b.freeing l).sessions, buffers := (b.freeing l).buffers, ready := (b.freeing l).ready,
    windows := (b.freeing l).windows } := by
  induction l generalizing b with
  | nil => rfl
  | cons i l ih =>
    rw [Body.freeing_cons, ih]
    apply Body.eq_of_fields
    all_goals first | rfl | simp

theorem Body.freeing_catalog (c : Table Slot) : ({ b with catalog := c } : Body).freeing l =
    { b.freeing l with catalog := c } := by
  induction l generalizing b with
  | nil => rfl
  | cons i l ih =>
    have hstep : ({ b with catalog := c } : Body).releaseBuffer i = { b.releaseBuffer i with catalog := c } := by
      unfold Body.releaseBuffer
      rw [show ({ b with catalog := c } : Body).buffer i = b.buffer i from rfl]
      split <;> rfl
    rw [Body.freeing_cons, hstep, ih]
    rfl

/-- Freed buffers that no session holds leave the sessions as they were. -/
theorem Body.freeing_sessions (h : ∀ i ∈ l, ∀ k, (b.buffer i).holder ≠ some (.session k)) :
    (b.freeing l).sessions = b.sessions := by
  induction l generalizing b with
  | nil => rfl
  | cons i l ih =>
    rw [Body.freeing_cons, ih, Body.releaseBuffer_unheld (h i List.mem_cons_self)]
    intro j hj k
    rw [Body.releaseBuffer_buffer]
    split_ifs
    · exact nofun
    · exact h j (List.mem_cons_of_mem _ hj) k

/-- A buffer waits behind a slot as before when others are freed. -/
theorem Body.freeing_waitingBuffer {p : Place} (h : ∀ j ∈ l, (b.buffer j).place ≠ some p) :
    (b.freeing l).waitingBuffer p = b.waitingBuffer p := by
  unfold Body.waitingBuffer
  rw [Body.freeing_ready, List.find?_filter]
  refine List.find?_congr fun j _ => ?_
  rw [Body.freeing_buffer]
  by_cases hj : j ∈ l
  · simp [hj, h j hj]
  · simp only [hj, if_false, not_false_eq_true, decide_true, true_and, Bool.decide_eq_true]

end

theorem Body.waitingBuffer_some {b : Body} {p : Place} {i : Nat} (h : b.waitingBuffer p = some i) :
    i ∈ b.ready ∧ (b.buffer i).place = some p ∧ (b.buffer i).leaf = none := by
  have hp := List.find?_some h
  rw [Bool.and_eq_true, beq_iff_eq, beq_iff_eq] at hp
  exact ⟨List.mem_of_find?_eq_some h, hp⟩

/-! ### Leaf slots released -/

/-- The slots of a list released one after another (R119). -/
def Body.releaseSlots (b : Body) (n : Nat) (l : List (Nat × Nat × LeafSlot)) : Body :=
  l.foldl (fun acc s => acc.releaseSlot n s.1 s.2.1) b

/-- The buffers that wait behind the slots of a list (R73). -/
def Body.waitingBehind (b : Body) (n : Nat) (l : List (Nat × Nat × LeafSlot)) : List Nat :=
  l.filterMap (fun s => b.waitingBuffer ⟨n, s.1, s.2.1⟩)

section
variable {b : Body} {n : Nat}

theorem Body.releaseSlot_eq (page index : Nat) : b.releaseSlot n page index =
    { b.freeing (b.waitingBuffer ⟨n, page, index⟩).toList with
      catalog := (b.updDoc n (fun d =>
        { d.setLeafSlot page index .released with retained := d.retained - 1 })).catalog } := by
  have hupd : ∀ f, b.updDoc n f = { b with catalog := (b.updDoc n f).catalog } := fun f => by
    apply Body.eq_of_fields
    all_goals first | rfl | simp
  unfold Body.releaseSlot
  dsimp only
  rw [hupd]
  cases b.waitingBuffer ⟨n, page, index⟩ with
  | none => rfl
  | some i => exact Body.freeing_catalog b [i] _

theorem Body.releaseSlots_cons (s : Nat × Nat × LeafSlot) (l : List (Nat × Nat × LeafSlot)) :
    b.releaseSlots n (s :: l) = (b.releaseSlot n s.1 s.2.1).releaseSlots n l := rfl

theorem Body.waitingBehind_cons (s : Nat × Nat × LeafSlot) (l : List (Nat × Nat × LeafSlot)) :
    b.waitingBehind n (s :: l) = (b.waitingBuffer ⟨n, s.1, s.2.1⟩).toList ++ b.waitingBehind n l := by
  unfold Body.waitingBehind
  rw [List.filterMap_cons]
  cases b.waitingBuffer ⟨n, s.1, s.2.1⟩ <;> rfl

theorem Body.mem_waitingBehind {l : List (Nat × Nat × LeafSlot)} {i : Nat} :
    i ∈ b.waitingBehind n l ↔ ∃ s ∈ l, b.waitingBuffer ⟨n, s.1, s.2.1⟩ = some i := List.mem_filterMap

/-- Releasing a slot leaves the buffers that wait behind others. -/
theorem Body.waitingBehind_releaseSlot {s : Nat × Nat × LeafSlot} {l : List (Nat × Nat × LeafSlot)}
    (h : slotPlace s ∉ l.map slotPlace) : (b.releaseSlot n s.1 s.2.1).waitingBehind n l = b.waitingBehind n l := by
  refine List.filterMap_congr fun t ht => ?_
  rw [Body.releaseSlot_eq]
  refine Body.freeing_waitingBuffer b _ fun j hj hp => ?_
  have hplace := (Body.waitingBuffer_some (Option.mem_toList.1 hj)).2.1
  rw [hp] at hplace
  injection Option.some.inj hplace with _ hpage hindex
  exact h (List.mem_map.2 ⟨t, ht, Prod.ext hpage hindex⟩)

/-- Released slots free exactly the buffers that waited behind them. -/
theorem Body.releaseSlots_eq {l : List (Nat × Nat × LeafSlot)} (h : (l.map slotPlace).Nodup) :
    b.releaseSlots n l = { b.freeing (b.waitingBehind n l) with catalog := (b.releaseSlots n l).catalog } := by
  induction l generalizing b with
  | nil => rfl
  | cons s l ih =>
    obtain ⟨hs, hl⟩ := List.nodup_cons.1 h
    rw [Body.releaseSlots_cons, ih hl, Body.waitingBehind_releaseSlot hs, Body.waitingBehind_cons, Body.freeing_append,
      Body.releaseSlot_eq, Body.freeing_catalog]

theorem Body.releaseSlot_slot {d : Document} (hd : b.doc n = some d) (page index m : Nat) :
    (b.releaseSlot n page index).slot m = if m = n then { b.slot n with
      doc := some { d.setLeafSlot page index .released with retained := d.retained - 1 } } else b.slot m := by
  rw [Body.releaseSlot_eq, Body.updDoc_eq _ hd]
  exact Body.setDoc_slot b n _ m

theorem Body.releaseSlots_slot {d : Document} (hd : b.doc n = some d) (l : List (Nat × Nat × LeafSlot)) (m : Nat) :
    (b.releaseSlots n l).slot m = if m = n then { b.slot n with doc := some (d.releasing l) } else b.slot m := by
  induction l generalizing b d with
  | nil =>
    split_ifs with hm
    · subst hm
      have hdoc : (b.slot m).doc = some d := hd
      rw [show d.releasing [] = d from rfl, ← hdoc]
      rfl
    · rfl
  | cons s l ih =>
    have hslot := Body.releaseSlot_slot hd s.1 s.2.1
    have hdoc : (b.releaseSlot n s.1 s.2.1).doc n =
        some { d.setLeafSlot s.1 s.2.1 .released with retained := d.retained - 1 } := by
      unfold Body.doc
      rw [hslot, if_pos rfl]
    rw [Body.releaseSlots_cons, ih hdoc, hslot, hslot, if_pos rfl]
    split_ifs <;> rfl

end

/-! ### The cursor moves -/

section
variable {b : Body} {n : Nat} {d : Document}

theorem Body.advancePurge_none (hd : b.doc n = none) : b.advancePurge n = b := by
  unfold Body.advancePurge; rw [hd]

theorem Body.advancePurge_eq (hd : b.doc n = some d) : b.advancePurge n =
    if (d.releasing d.unplacedAtCursor).cursor.isNone then (b.releaseSlots n d.unplacedAtCursor).freeSlot n
    else b.releaseSlots n d.unplacedAtCursor := by
  have hdoc : (b.releaseSlots n d.unplacedAtCursor).doc n = some (d.releasing d.unplacedAtCursor) := by
    unfold Body.doc
    rw [Body.releaseSlots_slot hd, if_pos rfl]
  unfold Body.advancePurge
  rw [hd]
  dsimp only
  rw [show d.unplacedAtCursor.foldl (fun acc s => acc.releaseSlot n s.1 s.2.1) b =
    b.releaseSlots n d.unplacedAtCursor from rfl, hdoc]

theorem Body.advancePurge_moves (hd : b.doc n = some d) (h : ∃ s ∈ d.leafSlots, s.2.2.names = true) :
    b.advancePurge n = b.releaseSlots n d.unplacedAtCursor := by
  obtain ⟨s, hs, hname⟩ := h
  rw [Body.advancePurge_eq hd, if_neg fun hc => ?_]
  rw [(Document.cursor_isNone_iff d).1 hc s hs] at hname
  cases hname

theorem Body.advancePurge_finishes (hd : b.doc n = some d) (h : ∀ s ∈ d.leafSlots, s.2.2.names = false) :
    b.advancePurge n = (b.releaseSlots n d.unplacedAtCursor).freeSlot n := by
  rw [Body.advancePurge_eq hd, if_pos ((Document.cursor_isNone_iff d).2 h)]

theorem Document.unplacedAtCursor_nodup (d : Document) : (d.unplacedAtCursor.map slotPlace).Nodup := by
  rw [Document.unplacedAtCursor_eq]
  refine d.leafSlots_nodup.sublist (List.Sublist.map _ ?_)
  exact List.filter_sublist.trans (List.takeWhile_sublist _)

/-- The buffers that a cursor's move frees. -/
def Body.goneBuffers (b : Body) (n : Nat) (d : Document) : List Nat := b.waitingBehind n d.unplacedAtCursor

theorem Body.advancePurge_frees (hd : b.doc n = some d) : b.advancePurge n = { b.freeing (b.goneBuffers n d) with
    catalog := (b.advancePurge n).catalog, purges := (b.advancePurge n).purges } := by
  have hslots := Body.releaseSlots_eq (b := b) (n := n) d.unplacedAtCursor_nodup
  rw [Body.advancePurge_eq hd]
  split_ifs
  · unfold Body.freeSlot Body.setSlot
    dsimp only
    rw [hslots]
    rfl
  · rw [hslots]
    rfl

theorem Body.advancePurge_otherSlot (hd : b.doc n = some d) {m : Nat} (hm : m ≠ n) :
    (b.advancePurge n).slot m = b.slot m := by
  rw [Body.advancePurge_eq hd]
  split_ifs
  · rw [Body.freeSlot_slot, if_neg hm, Body.releaseSlots_slot hd, if_neg hm]
  · rw [Body.releaseSlots_slot hd, if_neg hm]

theorem Body.mem_goneBuffers {i : Nat} : i ∈ b.goneBuffers n d ↔
    ∃ p x, (p, x, LeafSlot.unplaced) ∈ d.passed ∧
      b.ready.find? (fun j => (b.buffer j).place == some ⟨n, p, x⟩ && (b.buffer j).leaf == none) = some i := by
  unfold Body.goneBuffers
  rw [Body.mem_waitingBehind]
  constructor
  · rintro ⟨⟨p, x, v⟩, hs, hw⟩
    obtain ⟨hs, rfl⟩ := Document.mem_unplacedAtCursor.1 hs
    exact ⟨p, x, hs, hw⟩
  · rintro ⟨p, x, hs, hw⟩
    exact ⟨(p, x, .unplaced), Document.mem_unplacedAtCursor.2 ⟨hs, rfl⟩, hw⟩

theorem Body.goneBuffers_waits {i : Nat} (h : i ∈ b.goneBuffers n d) :
    ∃ p : Place, (b.buffer i).place = some p ∧ p.slot = n ∧ (b.buffer i).leaf = none := by
  obtain ⟨s, _, hw⟩ := Body.mem_waitingBehind.1 h
  obtain ⟨_, hp, hl⟩ := Body.waitingBuffer_some hw
  exact ⟨_, hp, rfl, hl⟩

/-- The cursor moves to the first slot that names a leaf, or the slot is freed (R95, R151). -/
theorem Body.advancePurge_cursorMoved (hd : b.doc n = some d) : CursorMoved b (b.advancePurge n) n d := by
  have hfrees := Body.advancePurge_frees hd
  have hwindows : (b.advancePurge n).windows = b.windows.filter (fun i => i ∉ b.goneBuffers n d) := by
    rw [hfrees]
    exact Body.freeing_windows ..
  refine ⟨fun hname => ?moved, fun hnone => ?finished, ⟨b.goneBuffers n d, fun i => Body.mem_goneBuffers, fun i => ?buffer,
    ?ready, hwindows, fun k => ?session⟩, fun hwin => ?windows, fun hunheld => ?sessions,
    fun m hm => Body.advancePurge_otherSlot hd hm, ?others, fun hname hstill => ?still⟩
  case moved =>
    refine ⟨d.releasing d.unplacedAtCursor, ?_, ?_, d.releasing_atCursor, d.releasing_besidesSlots _, ?_⟩
    · rw [Body.advancePurge_moves hd hname, Body.releaseSlots_slot hd, if_pos rfl]
    · have hcount : d.unplacedAtCursor.length = d.passed.countP (fun s => s.2.2 == .unplaced) := by
        rw [Document.unplacedAtCursor_eq, List.countP_eq_length_filter]
      rw [← show d.passed = d.leafSlots.takeWhile (fun s => !s.2.2.names) from rfl, ← hcount]
      exact d.releasing_eq _
    · rw [Body.advancePurge_moves hd hname, Body.releaseSlots_eq d.unplacedAtCursor_nodup]
      rw [Body.freeing_frame]
  case finished =>
    rw [Body.advancePurge_finishes hd hnone, Body.freeSlot_slot, if_pos rfl, Body.releaseSlots_slot hd, if_pos rfl]
    refine ⟨rfl, ?_⟩
    unfold Body.freeSlot
    dsimp only
    rw [Body.releaseSlots_eq d.unplacedAtCursor_nodup, Body.freeing_frame]
  case buffer =>
    rw [hfrees]
    exact Body.freeing_buffer ..
  case ready =>
    rw [hfrees]
    exact Body.freeing_ready ..
  case session =>
    rw [hfrees]
    exact Body.freeing_session ..
  case windows =>
    rw [hwindows, List.filter_eq_self]
    intro i hi
    refine decide_eq_true fun hg => ?_
    obtain ⟨p, hp, _⟩ := Body.goneBuffers_waits hg
    rw [hwin i hi] at hp
    cases hp
  case sessions =>
    rw [hfrees]
    refine Body.freeing_sessions _ _ fun i hi k => ?_
    obtain ⟨p, hp, hs, hl⟩ := Body.goneBuffers_waits hi
    exact hunheld i k p hp hs hl
  case others =>
    rw [hfrees, Body.freeing_frame]
  case still =>
    have hnil : d.unplacedAtCursor = [] := by
      rw [Document.unplacedAtCursor_eq, List.filter_eq_nil_iff]
      intro s hs hu
      rw [hstill s hs] at hu
      cases hu
    rw [Body.advancePurge_moves hd hname, hnil]
    rfl

/-- A purge starts (R150). -/
theorem Body.startPurge_started (hd : b.doc n = some d) : PurgeStarted b (b.startPurge n) n d := by
  have hstart : b.startPurge n =
      ({ b.setDoc n { d with state := .purging } with purges := b.purges ++ [n] } : Body).advancePurge n := by
    unfold Body.startPurge
    rw [Body.updDoc_eq _ hd]
    rfl
  have hslot : ∀ k, ({ b.setDoc n { d with state := .purging } with purges := b.purges ++ [n] } : Body).slot k =
      if k = n then { b.slot n with doc := some { d with state := .purging } } else b.slot k := Body.setDoc_slot b n _
  refine ⟨{ b.setDoc n { d with state := .purging } with purges := b.purges ++ [n] }, ?_, fun k hk => ?_, rfl, ?_⟩
  · exact (hslot n).trans (if_pos rfl)
  · exact (hslot k).trans (if_neg hk)
  · rw [hstart]
    refine Body.advancePurge_cursorMoved ?_
    unfold Body.doc
    rw [hslot, if_pos rfl]

end

end Sys2Proof.Machine
end

section
/-! RELEASE and FORWARD: charges and obligations move (R110 to R115, R145). -/

namespace Sys2Proof.Machine

/-! ### Due for purge, and the change that makes a document so -/

theorem Document.due_iff {d : Document} {clock : Nat} : d.due clock = true ↔ dueForPurge d clock := by
  unfold Document.due dueForPurge
  cases d.retainUntil <;> simp [and_assoc]

theorem Obligation.overdue_iff {o : Obligation} {run : Nat} : o.overdue run = true ↔ o.reached run := by
  unfold Obligation.overdue Obligation.reached
  cases o.deadline <;> simp

section
variable {b : Body} {part : PartState} {clock n : Nat} {d : Document}

theorem Body.purgeIfDue_not (hd : b.doc n = some d) (h : ¬ dueForPurge d clock) : b.purgeIfDue part clock n = b := by
  have hdue : d.due clock = false := Bool.eq_false_iff.2 fun hd => h (Document.due_iff.1 hd)
  unfold Body.purgeIfDue
  rw [hd]
  simp [hdue]

theorem Body.purgeIfDue_due (hd : b.doc n = some d) (hp : part.works = true) (h : dueForPurge d clock) :
    b.purgeIfDue part clock n = b.startPurge n := by
  unfold Body.purgeIfDue
  rw [hd]
  simp [hp, Document.due_iff.2 h]

end

/-! ### An obligation added -/

theorem Document.retainRaise_eq (t : Tables) (d : Document) (dept : Nat) : Document.retainRaise t d dept =
    { d with departments := insertRising dept d.departments, retainUntil := raisedUntil t d dept } := by
  unfold Document.retainRaise raisedUntil
  cases d.retainUntil <;> cases d.base <;> rfl

theorem Tables.deadline_intake (t : Tables) (kind : ObKind) (run : Nat) : t.deadline 0 kind run = none :=
  if_pos (Or.inl rfl)

/-- A document that is not RECEIVING with an obligation added at the end of its list (R116, R145). -/
def Document.obliged (t : Tables) (run : Nat) (d : Document) (dept : Nat) (kind : ObKind) (charge : Nat) : Document :=
  { d with obligations := d.obligations ++ [⟨dept, kind, .pending, run, t.deadline dept kind run, false, charge⟩],
           departments := insertRising dept d.departments, retainUntil := raisedUntil t d dept }

section
variable {b : Body} {t : Tables} {run n dept charge : Nat} {kind : ObKind} {d : Document}

theorem Body.addObligation_eq (hd : b.doc n = some d) : b.addObligation t run n dept kind charge = { b with
    catalog := Table.write Slot.free b.catalog n { b.slot n with doc := some (d.obliged t run dept kind charge) },
    accounts := Table.write 0 b.accounts dept (b.account dept + charge),
    attention := Table.write false b.attention dept true } := by
  unfold Body.addObligation
  rw [hd]
  dsimp only
  rw [Document.retainRaise_eq]
  rfl

end

/-! ### ACCEPT -/

/-- A document after a department's obligation is accepted (R111). -/
def Document.accepted (d : Document) (o : Obligation) : Document :=
  let obligations := d.obligations.filter (fun q => q.department != o.department)
  { d with obligations := obligations, retained := d.retained + o.charge,
           state := if obligations = [] then .retained else d.state }

theorem Body.accept_eq (b : Body) (n : Nat) (d : Document) (o : Obligation) : b.accept n d o = { b with
    catalog := Table.write Slot.free b.catalog n { b.slot n with doc := some (d.accepted o) },
    accounts := Table.write 0 b.accounts o.department (b.account o.department - o.charge) } := by
  have hdoc : (if (d.removeObligation o.department).obligations = [] then
      { d.removeObligation o.department with retained := d.retained + o.charge, state := .retained }
      else { d.removeObligation o.department with retained := d.retained + o.charge }) = d.accepted o := by
    unfold Document.accepted Document.removeObligation
    dsimp only
    split_ifs <;> rfl
  unfold Body.accept
  dsimp only
  rw [hdoc]
  rfl

theorem Document.obligation_department {d : Document} {x : Nat} {o : Obligation} (h : d.obligation x = some o) :
    o.department = x := by
  simpa using List.find?_some h

theorem ownRelease_accepts {s : State} {n x : Nat} {d : Document} {o : Obligation} (hr : d.state ≠ .receiving)
    (ho : d.obligation x = some o) : ownRelease true (.department x) n d s =
      let b1 := s.body.accept n d o
      ⟨(s.withBody (fun _ => b1.purgeIfDue s.recovery.part s.time.clock n)).arbitrate,
        .taken (.release (((b1.doc n).map (fun e => e.state)).getD .retained) (b1.account x)), .none⟩ := by
  unfold ownRelease
  dsimp only
  rw [if_neg hr, ho]
  rfl

theorem ownRelease_declines {s : State} {n x : Nat} {d : Document} {o : Obligation} (hr : d.state ≠ .receiving)
    (hx : x ≠ 0) (ho : d.obligation x = some o) : ownRelease false (.department x) n d s =
      let b1 := s.body.decline s.tables s.time.run n d o
      ⟨s.withBody (fun _ => b1), .taken (.release d.state (b1.account x)), .none⟩ := by
  unfold ownRelease
  dsimp only
  rw [if_neg hr, ho]
  exact if_neg hx

/-! ### DECLINE -/

/-- A document whose intake obligation takes a charge, created where it has none (R112). -/
def Document.rerouted (t : Tables) (run : Nat) (d : Document) (charge : Nat) : Document :=
  if d.obliges 0 then d.updObligation 0 (fun i => { i with charge := i.charge + charge })
  else d.obliged t run 0 .rerouted charge

/-- Intake takes the charge, in its account too, and its attention becomes yes (R112). -/
theorem Body.decline_rerouted {b : Body} {n : Nat} {d : Document} (t : Tables) (run : Nat) (o : Obligation)
    (hd : b.doc n = some d) : b.decline t run n d o = ((({ b with
      catalog := Table.write Slot.free b.catalog n { b.slot n with doc := some (d.rerouted t run o.charge) },
      accounts := Table.write 0 b.accounts 0 (b.account 0 + o.charge),
      attention := Table.write false b.attention 0 true } : Body).updDoc n
        (fun e => e.removeObligation o.department)).discharge o.department o.charge) := by
  unfold Body.decline Document.rerouted
  by_cases hi : d.obliges 0 = true
  · simp only [hi, if_true]
    rfl
  · rw [if_neg hi, if_neg hi, Body.addObligation_eq hd]

/-- A document after a department's obligation is declined: intake has its charge (R112). -/
def Document.declined (t : Tables) (run : Nat) (d : Document) (o : Obligation) : Document :=
  (d.rerouted t run o.charge).removeObligation o.department

theorem Body.decline_eq {b : Body} {n : Nat} {d : Document} (t : Tables) (run : Nat) {o : Obligation}
    (hd : b.doc n = some d) (ho : o.department ≠ 0) : b.decline t run n d o = { b with
      catalog := Table.write Slot.free b.catalog n { b.slot n with doc := some (d.declined t run o) },
      accounts := Table.write 0 (Table.write 0 b.accounts 0 (b.account 0 + o.charge)) o.department
        (b.account o.department - o.charge),
      attention := Table.write false b.attention 0 true } := by
  have hacc : ∀ c : Body, c.accounts = Table.write 0 b.accounts 0 (b.account 0 + o.charge) →
      c.account o.department = b.account o.department := fun c hc => by simp [Body.account, hc, ho]
  rw [Body.decline_rerouted t run o hd, Body.updDoc_eq (d := d.rerouted t run o.charge) _ (by simp [Body.doc, Body.slot])]
  unfold Body.discharge Body.setAccount
  rw [hacc _ rfl]
  have hcat := congrArg Body.catalog (Body.setDoc_setDoc b n (d.rerouted t run o.charge) (d.declined t run o))
  apply Body.eq_of_fields
  case h8 => exact hcat
  all_goals rfl

theorem Document.filter_map_comm (d : Document) (x : Nat) {f : Obligation → Obligation}
    (h : ∀ o, (f o).department = o.department) : (d.obligations.map f).filter (fun q => q.department != x) =
      (d.obligations.filter (fun q => q.department != x)).map f := by
  rw [List.filter_map]
  congr 1
  exact List.filter_congr fun q _ => by simp [h]

theorem Document.declined_obliging {t : Tables} {run : Nat} {d : Document} (o : Obligation) (h : d.obliges 0 = true) :
    d.declined t run o = { d with
      obligations := (d.obligations.filter (fun q => q.department != o.department)).map
        (fun q => if q.department = 0 then { q with charge := q.charge + o.charge } else q) } := by
  unfold Document.declined Document.rerouted
  rw [if_pos h]
  unfold Document.removeObligation Document.updObligation
  dsimp only
  rw [Document.filter_map_comm]
  intro q
  split_ifs <;> rfl

theorem Document.declined_rerouting {t : Tables} {run : Nat} {d : Document} {o : Obligation} (h : d.obliges 0 = false)
    (ho : o.department ≠ 0) : d.declined t run o = { d with
      obligations := d.obligations.filter (fun q => q.department != o.department) ++
        [⟨0, .rerouted, .pending, run, none, false, o.charge⟩],
      departments := insertRising 0 d.departments, retainUntil := raisedUntil t d 0 } := by
  unfold Document.declined Document.rerouted
  rw [if_neg (by simp [h])]
  unfold Document.removeObligation Document.obliged
  dsimp only
  rw [List.filter_append, Tables.deadline_intake]
  simp [Ne.symm ho]

/-- Settles O35. -/
theorem releaseMovesTheCharge : Obligations.ReleaseMovesTheCharge := by
  refine ⟨fun s h x slot generation choice d o hh hn hc hr ho => ?accept,
    fun s h x slot generation choice d o hh hn hc hr hx ho => ?decline⟩
  case accept =>
    have hdept := Document.obligation_department ho
    have hb := s.body.accept_eq slot.toNat d o
    have hdoc : (s.body.accept slot.toNat d o).doc slot.toNat = some (d.accepted o) := by
      rw [hb]; simp [Body.doc, Body.slot]
    have hacc : (s.body.accept slot.toNat d o).account x = s.body.account x - o.charge := by
      rw [hb, hdept]; simp [Body.account]
    refine ⟨{ s with
        body := (s.body.accept slot.toNat d o).purgeIfDue s.recovery.part s.time.clock slot.toNat, sent := none },
      s.body.accept slot.toNat d o, d.accepted o, ?exec, hdoc, ?fields, ?state, hacc, fun y hy => ?account,
      fun m hm => ?slot, ?frame, fun hnd => Body.purgeIfDue_not hdoc hnd, fun hdue => ?purge, rfl⟩
    case exec =>
      rw [exec_release hn hh (by omega), show (choice.toNat == 0) = true by rw [hc]; rfl, ownRelease_accepts hr ho]
      dsimp only
      rw [State.nextPacket_body, hdoc, hacc]
      rfl
    case fields => rw [← hdept]; rfl
    case state => rfl
    case account => rw [hb, hdept]; simp [Body.account, hy]
    case slot => rw [hb]; simp [Body.slot, hm]
    case frame => rw [hb]
    case purge =>
      rw [Body.purgeIfDue_due hdoc (by rw [hh.running]; rfl) hdue]
      exact Body.startPurge_started hdoc
  case decline =>
    have hdept := Document.obligation_department ho
    have hne : o.department ≠ 0 := hdept ▸ hx
    have hb := Body.decline_eq s.tables s.time.run hn.doc hne
    rw [hdept] at hb
    have hacc : (s.body.decline s.tables s.time.run slot.toNat d o).account x = s.body.account x - o.charge := by
      rw [hb]; simp [Body.account]
    refine ⟨{ s with body := s.body.decline s.tables s.time.run slot.toNat d o, sent := none },
      d.declined s.tables s.time.run o, ?exec, ?doc, ?fields, fun h0 => ?obliging, fun h0 => ?rerouting, ?intake, hacc,
      fun y h0 hy => ?account, ?attends, fun y hy => ?others, fun m hm => ?slot, ?frame, rfl⟩
    case exec =>
      rw [exec_release hn hh (by omega), show (choice.toNat == 0) = false by rw [hc]; rfl, ownRelease_declines hr hx ho]
      dsimp only
      rw [State.nextPacket_body, State.nextPacket_tables, State.nextPacket_time, hacc]
      rfl
    case doc => dsimp only; rw [hb]; simp [Body.doc, Body.slot]
    case fields =>
      by_cases h0 : d.obliges 0 = true
      · rw [Document.declined_obliging o h0]
      · rw [Document.declined_rerouting (by simpa using h0) hne]
    case obliging => rw [Document.declined_obliging o h0, hdept]; exact ⟨rfl, rfl, rfl⟩
    case rerouting =>
      rw [Document.declined_rerouting h0 hne, hdept]
      exact ⟨fun y => mem_insertRising .., rfl, rfl⟩
    case intake => dsimp only; rw [hb]; simp [Body.account, Ne.symm hx]
    case account => dsimp only; rw [hb]; simp [Body.account, h0, hy]
    case attends => dsimp only; rw [hb]; simp [Body.attends]
    case others => dsimp only; rw [hb]; simp [Body.attends, hy]
    case slot => dsimp only; rw [hb]; simp [Body.slot, hm]
    case frame => dsimp only; rw [hb]

/-! ### FORWARD -/

/-- A document after it is forwarded to a department (R11, R115). -/
def Document.forwarded (t : Tables) (run : Nat) (d : Document) (dept : Nat) : Document :=
  { d with
    obligations := d.obligations ++ [⟨dept, .forwarded, .pending, run,
      if d.state = .receiving then none else t.deadline dept .forwarded run, false,
      if d.state = .retained then d.retained else 0⟩],
    retained := if d.state = .retained then 0 else d.retained,
    state := if d.state = .receiving then .receiving else .distributing,
    departments := if d.state = .receiving then d.departments else insertRising dept d.departments,
    retainUntil := if d.state = .receiving then d.retainUntil else raisedUntil t d dept }

theorem Body.forwardTo_eq {b : Body} {n : Nat} {d : Document} (t : Tables) (run dept : Nat) (hd : b.doc n = some d)
    (hp : d.state ≠ .purging) : b.forwardTo t run n d dept = { b with
      catalog := Table.write Slot.free b.catalog n { b.slot n with doc := some (d.forwarded t run dept) },
      accounts := (b.forwardTo t run n d dept).accounts,
      attention := Table.write false b.attention dept true } ∧
    ∀ y, (b.forwardTo t run n d dept).account y =
      if y = dept then b.account y + (if d.state = .retained then d.retained else 0) else b.account y := by
  unfold Body.forwardTo Document.forwarded
  cases hs : d.state with
  | receiving =>
    refine ⟨?_, fun y => ?_⟩
    · simp only [reduceCtorEq, if_true, if_false]
      rw [← hs]
      rfl
    · simp only [reduceCtorEq, if_false, Nat.add_zero, ite_self]
      rfl
  | distributing =>
    dsimp only
    rw [Body.addObligation_eq hd]
    refine ⟨?_, fun y => ?_⟩
    · simp only [reduceCtorEq, if_false]
      rw [← hs]
      rfl
    · refine (Table.read_write ..).trans ?_
      by_cases hy : y = dept
      · rw [if_pos hy, if_pos hy, if_neg nofun, hy]
      · rw [if_neg hy, if_neg hy]; rfl
  | retained =>
    dsimp only
    rw [Body.addObligation_eq (d := { d with state := .distributing, retained := 0 }) (by rw [Body.setDoc_doc, if_pos rfl])]
    refine ⟨?_, fun y => ?_⟩
    · simp only [reduceCtorEq, if_false, if_true]
      have hcat := fun e => congrArg Body.catalog
        (Body.setDoc_setDoc b n { d with state := .distributing, retained := 0 } e)
      apply Body.eq_of_fields
      case h8 => exact hcat _
      all_goals rfl
    · refine (Table.read_write ..).trans ?_
      by_cases hy : y = dept
      · rw [if_pos hy, if_pos hy, if_pos rfl, hy]; rfl
      · rw [if_neg hy, if_neg hy]; rfl
  | purging => exact absurd hs hp

theorem Tables.deadline_eq (t : Tables) {dept run : Nat} {kind : ObKind} (h : kind ≠ .rebuilt) :
    t.deadline dept kind run = if dept = 0 ∨ (t.dept dept).escalation = 0 then none
      else some (min (run + (t.dept dept).escalation * 3840) 281474976710655) := by
  unfold Tables.deadline
  simp only [h, or_false]
  rfl

/-- Settles O36. -/
theorem forwardAddsAnObligation : Obligations.ForwardAddsAnObligation := by
  intro s h slot generation department d x hh hn hx hlt hen hob hp charge deadline
  subst hx
  obtain ⟨hb, hacc⟩ := Body.forwardTo_eq s.tables s.time.run department.toNat hn.doc hp
  have hdl : (if d.state = .receiving then none else s.tables.deadline department.toNat .forwarded s.time.run) =
      deadline := by
    rw [Tables.deadline_eq s.tables (kind := .forwarded) nofun]
    by_cases hr : d.state = .receiving <;> simp [deadline, hr]
  refine ⟨{ s with body := s.body.forwardTo s.tables s.time.run slot.toNat d department.toNat, sent := none },
    d.forwarded s.tables s.time.run department.toNat, ?exec, ?doc, ?fields, fun y => ?departments, ?account,
    fun y hy => ?accounts, ?attends, fun y hy => ?others, fun m hm => ?slot, ?frame, rfl⟩
  case exec =>
    rw [exec_forward hn hh hlt]
    unfold ownForward
    dsimp only
    rw [if_neg hp, State.nextPacket_tables, if_neg (by simp [hen]), if_neg (by simp [hob])]
    rfl
  case doc => dsimp only; rw [hb]; simp [Body.doc, Body.slot]
  case fields =>
    unfold Document.forwarded
    rw [hdl]
    congr 1
    by_cases hr : d.state = .retained <;> simp [charge, hr]
  case departments =>
    unfold Document.forwarded
    dsimp only
    by_cases hr : d.state = .receiving <;> simp [hr, mem_insertRising]
  case account => exact (hacc _).trans (if_pos rfl)
  case accounts => exact (hacc _).trans (if_neg hy)
  case attends => dsimp only; rw [hb]; simp [Body.attends]
  case others => dsimp only; rw [hb]; simp [Body.attends, hy]
  case slot => dsimp only; rw [hb]; simp [Body.slot, hm]
  case frame => dsimp only; rw [hb]

end Sys2Proof.Machine
end

section
/-! HOLD, UNHOLD, ESCALATION and RETENTION_DUE (R117, R147 to R150). -/

namespace Sys2Proof.Machine

/-! ### HOLD and UNHOLD -/

section
variable {s : State} {d : Document} {n tag : Nat} (hp : d.state ≠ .purging)
include hp

theorem ownHold_present (ht : tag ∈ d.holds) : ownHold tag n d s = ⟨s, .taken (.hold d.holds.length), .none⟩ := by
  unfold ownHold
  rw [if_neg hp, if_pos ht]

theorem ownHold_adds (ht : tag ∉ d.holds) (hl : d.holds.length < 4) : ownHold tag n d s =
    ⟨s.withBody (fun b => b.setDoc n { d with holds := insertRising tag d.holds }),
      .taken (.hold (d.holds.length + 1)), .none⟩ := by
  unfold ownHold
  rw [if_neg hp, if_neg ht, if_neg (by unfold Config.holdLimit; omega)]

theorem ownUnhold_lifts (ht : tag ∈ d.holds) : ownUnhold tag n d s =
    let d1 := { d with holds := d.holds.filter (fun t => t ≠ tag) }
    ⟨(s.withBody (fun b => (b.setDoc n d1).purgeIfDue s.recovery.part s.time.clock n)).arbitrate,
      .taken (.unhold d1.holds.length (if s.recovery.part.works && d1.due s.time.clock then .purging else d.state)),
      .none⟩ := by
  unfold ownUnhold
  rw [if_neg hp, if_neg (not_not.2 ht)]

end

/-- Settles O37. -/
theorem holdsAreAddedAndLifted : Obligations.HoldsAreAddedAndLifted := by
  intro s h slot generation tag d hh hn ht hp
  refine ⟨fun hin => ?present, fun hout hl => ?adds, fun hin => ?lifts⟩
  case present =>
    rw [exec_hold hn hh ht, ownHold_present hp hin]
    rfl
  case adds =>
    refine ⟨{ s with
        body := s.body.setDoc slot.toNat { d with holds := insertRising tag.toNat d.holds }, sent := none },
      { d with holds := insertRising tag.toNat d.holds }, ?_, ?_, rfl, fun y => mem_insertRising .., fun m hm => ?_, rfl,
      rfl⟩
    · rw [exec_hold hn hh ht, ownHold_adds hp hout hl]
      rfl
    · exact (Body.setDoc_doc ..).trans (if_pos rfl)
    · exact (Body.setDoc_slot ..).trans (if_neg hm)
  case lifts =>
    have hdoc : (s.body.setDoc slot.toNat { d with holds := d.holds.filter (fun y => y ≠ tag.toNat) }).doc slot.toNat =
        some { d with holds := d.holds.filter (fun y => y ≠ tag.toNat) } := (Body.setDoc_doc ..).trans (if_pos rfl)
    have hworks : s.recovery.part.works = true := by rw [hh.running]; rfl
    refine ⟨{ s with
        body := (s.body.setDoc slot.toNat { d with holds := d.holds.filter (fun y => y ≠ tag.toNat) }).purgeIfDue
          s.recovery.part s.time.clock slot.toNat,
        sent := none },
      s.body.setDoc slot.toNat { d with holds := d.holds.filter (fun y => y ≠ tag.toNat) },
      { d with holds := d.holds.filter (fun y => y ≠ tag.toNat) }, hdoc, rfl,
      fun m hm => (Body.setDoc_slot ..).trans (if_neg hm), rfl, rfl, fun hnd => ⟨?stays, ?plain⟩,
      fun hdue => ⟨?starts, ?purging⟩⟩
    case stays => exact Body.purgeIfDue_not hdoc hnd
    case plain =>
      have hdue : Document.due { d with holds := d.holds.filter (fun y => y ≠ tag.toNat) } s.time.clock = false :=
        Bool.eq_false_iff.2 fun h => hnd (Document.due_iff.1 h)
      rw [exec_unhold hn hh ht, ownUnhold_lifts hp hin]
      dsimp only
      rw [State.nextPacket_time, hdue, Bool.and_false]
      rfl
    case starts =>
      dsimp only
      rw [Body.purgeIfDue_due hdoc hworks hdue]
      exact Body.startPurge_started hdoc
    case purging =>
      rw [exec_unhold hn hh ht, ownUnhold_lifts hp hin]
      dsimp only
      rw [State.nextPacket_time, Document.due_iff.2 hdue, State.nextPacket_recovery, hworks,
        show (d.holds.filter (fun y => y ≠ tag.toNat)).length = 0 from List.length_eq_zero_iff.2 hdue.2.1]
      rfl

/-! ### ESCALATION -/

theorem State.escalationDue_iff {s : State} {n dept : Nat} : s.escalationDue n dept = true ↔
    (s.recovery.part = .running ∨ s.recovery.part = .powerFail) ∧
      ∃ d o, s.body.doc n = some d ∧ d.obligation dept = some o ∧ o.reached s.time.run := by
  unfold State.escalationDue
  rw [Bool.and_eq_true, PartState.works_iff]
  refine and_congr_right fun _ => ?_
  cases hd : s.body.doc n with
  | none => simp
  | some d => cases ho : d.obligation dept <;> simp [ho, Obligation.overdue_iff]

theorem State.retentionDue_iff {s : State} {n : Nat} : s.retentionDue n = true ↔
    (s.recovery.part = .running ∨ s.recovery.part = .powerFail) ∧
      ∃ d, s.body.doc n = some d ∧ dueForPurge d s.time.clock := by
  unfold State.retentionDue
  rw [Bool.and_eq_true, PartState.works_iff]
  refine and_congr_right fun _ => ?_
  cases hd : s.body.doc n <;> simp [Document.due_iff]

theorem State.purgeStarted_iff {s : State} {n : Nat} : s.purgeStarted n = true ↔
    (s.recovery.part = .running ∨ s.recovery.part = .powerFail) ∧ ∃ d, s.body.doc n = some d ∧ d.state = .purging := by
  unfold State.purgeStarted
  rw [Bool.and_eq_true, PartState.works_iff]
  refine and_congr_right fun _ => ?_
  cases hd : s.body.doc n <;> simp

/-- A document whose obligation of a department is escalated (R117). -/
def Document.escalated (t : Tables) (run : Nat) (d : Document) (dept : Nat) : Document :=
  let e := d.updObligation dept (fun o => { o with escalated := true, deadline := none })
  if d.obliges 0 then e else e.obliged t run 0 .escalated 0

theorem Document.updObligation_obliges (d : Document) (dept : Nat) {f : Obligation → Obligation}
    (h : ∀ o, (f o).department = o.department) (x : Nat) : (d.updObligation dept f).obliges x = d.obliges x := by
  unfold Document.updObligation Document.obliges
  dsimp only
  rw [List.any_map]
  congr 1
  funext o
  simp only [Function.comp]
  split_ifs
  · rw [h]
  · rfl

section
variable {b : Body} {n : Nat} {d : Document} (t : Tables) (run dept : Nat) (hd : b.doc n = some d)
include hd

theorem Body.escalate_obliged (h : d.obliges 0 = true) :
    b.escalate t run n dept = b.setDoc n (d.escalated t run dept) := by
  unfold Body.escalate Document.escalated
  rw [Body.updDoc_eq _ hd]
  dsimp only
  rw [Body.setDoc_doc, if_pos rfl]
  dsimp only
  rw [Document.updObligation_obliges, if_pos h, if_pos h]
  exact fun _ => rfl

theorem Body.escalate_unobliged (h : d.obliges 0 = false) : b.escalate t run n dept = { b with
    catalog := (b.setDoc n (d.escalated t run dept)).catalog,
    accounts := Table.write 0 b.accounts 0 (b.account 0),
    attention := Table.write false b.attention 0 true } := by
  have hcat := fun e f => congrArg Body.catalog (Body.setDoc_setDoc b n e f)
  unfold Body.escalate Document.escalated
  rw [Body.updDoc_eq _ hd]
  dsimp only
  rw [Body.setDoc_doc, if_pos rfl]
  dsimp only
  rw [Document.updObligation_obliges, if_neg (by simp [h]), if_neg (by simp [h]),
    Body.addObligation_eq (d := d.updObligation dept _) ((Body.setDoc_doc ..).trans (if_pos rfl))]
  · apply Body.eq_of_fields
    case h8 => exact hcat _ _
    all_goals rfl
  · exact fun _ => rfl

end

theorem Document.escalated_fields (t : Tables) (run : Nat) (d : Document) (dept : Nat) :
    d.escalated t run dept = { d with
      obligations := d.obligations.map (fun q => if q.department = dept
          then { q with escalated := true, deadline := none } else q) ++
        (if d.obliges 0 then [] else [⟨0, .escalated, .pending, run, none, false, 0⟩]),
      departments := if d.obliges 0 then d.departments else insertRising 0 d.departments,
      retainUntil := if d.obliges 0 then d.retainUntil else raisedUntil t d 0 } := by
  unfold Document.escalated
  by_cases h : d.obliges 0 = true
  · simp only [h, if_true, List.append_nil]
    rfl
  · simp only [h, Document.obliged, Tables.deadline_intake]
    rfl

/-- Settles O38. -/
theorem deadlinesActWhenReached : Obligations.DeadlinesActWhenReached := by
  refine ⟨fun s slot department => ⟨fun h1 h2 => ?_, fun hno => ?_, fun d o hpart hd ho hreached => ?escalation⟩,
    fun s slot => ⟨fun h1 h2 => ?_, fun hno => ?_, fun d hpart hd hpurging => ?_, fun d hpart hd hdue => ?_⟩⟩
  case escalation =>
    have hdue : s.escalationDue slot.toNat department.toNat = true :=
      State.escalationDue_iff.2 ⟨hpart, d, o, hd, ho, hreached⟩
    have hfields := d.escalated_fields s.tables s.time.run department.toNat
    refine ⟨{ s with body := s.body.escalate s.tables s.time.run slot.toNat department.toNat, sent := none },
      d.escalated s.tables s.time.run department.toNat, ?_, ?_⟩
    · dsimp only [exec, execEscalation]
      rw [if_pos hdue]
      rfl
    · by_cases h0 : d.obliges 0 = true
      · rw [Body.escalate_obliged s.tables s.time.run department.toNat hd h0]
        simp only [h0, if_true] at hfields ⊢
        refine ⟨(Body.setDoc_doc ..).trans (if_pos rfl), ?_, ?_, fun _ => ⟨rfl, ?_, ?_⟩, nofun, fun y => rfl,
          fun y _ => rfl, fun m hm => (Body.setDoc_slot ..).trans (if_neg hm), rfl, trivial⟩ <;> rw [hfields]
      · have hnone : d.obliges 0 = false := by simpa using h0
        rw [Body.escalate_unobliged s.tables s.time.run department.toNat hd hnone]
        simp only [hnone, Bool.false_eq_true, if_false] at hfields ⊢
        refine ⟨(Body.setDoc_doc ..).trans (if_pos rfl), ?_, ?_, nofun, fun _ => ⟨?_, fun y => ?_, ?_⟩,
          fun y => ?_, fun y hy => ?_, fun m hm => (Body.setDoc_slot ..).trans (if_neg hm), trivial, trivial⟩
        · rw [hfields]
        · rw [hfields]
        · simp [Body.attends]
        · rw [hfields]; exact mem_insertRising ..
        · rw [hfields]
        · by_cases hy : y = 0 <;> simp [Body.account, hy]
        · simp [Body.attends, hy]
  · have hdue : s.escalationDue slot.toNat department.toNat = false := Bool.eq_false_iff.2 fun h =>
      (State.escalationDue_iff.1 h).1.elim h1 h2
    dsimp only [exec, execEscalation]
    rw [hdue]
    rfl
  · have hdue : s.escalationDue slot.toNat department.toNat = false := Bool.eq_false_iff.2 fun h => by
      obtain ⟨_, d, o, hd, ho, hr⟩ := State.escalationDue_iff.1 h
      exact hno d o hd ho hr
    dsimp only [exec, execEscalation]
    rw [hdue]
    rfl
  · have hdue : s.retentionDue slot.toNat = false := Bool.eq_false_iff.2 fun h =>
      (State.retentionDue_iff.1 h).1.elim h1 h2
    have hst : s.purgeStarted slot.toNat = false := Bool.eq_false_iff.2 fun h =>
      (State.purgeStarted_iff.1 h).1.elim h1 h2
    dsimp only [exec, execRetentionDue]
    rw [hdue, hst]
    rfl
  · have hdue : s.retentionDue slot.toNat = false := Bool.eq_false_iff.2 fun h => by
      obtain ⟨_, d, hd, hdue⟩ := State.retentionDue_iff.1 h
      exact (hno d hd).1 hdue
    have hst : s.purgeStarted slot.toNat = false := Bool.eq_false_iff.2 fun h => by
      obtain ⟨_, d, hd, hp⟩ := State.purgeStarted_iff.1 h
      exact (hno d hd).2 hp
    dsimp only [exec, execRetentionDue]
    rw [hdue, hst]
    rfl
  · have hdue : s.retentionDue slot.toNat = false := Bool.eq_false_iff.2 fun h => by
      obtain ⟨_, e, he, hdue⟩ := State.retentionDue_iff.1 h
      rw [hd] at he; cases he
      rw [hdue.1] at hpurging
      cases hpurging
    dsimp only [exec, execRetentionDue]
    rw [hdue, State.purgeStarted_iff.2 ⟨hpart, d, hd, hpurging⟩]
    rfl
  · refine ⟨{ s with body := s.body.startPurge slot.toNat, sent := none }, ?_, Body.startPurge_started hd, rfl⟩
    dsimp only [exec, execRetentionDue]
    rw [State.retentionDue_iff.2 ⟨hpart, d, hd, hdue⟩]
    rfl

end Sys2Proof.Machine
end

section
/-! The events of the banks (R72, R76, R91 to R98). -/

namespace Sys2Proof.Machine

/-! ### What the array holds after an operation -/

theorem readHeader_byteCount {words : List Word} {h : LeafHeader} (hh : readHeader words = some h) :
    numberOf (((wordBits words).drop 68).take 13) = h.byteCount ∧ h.byteCount ≤ 4096 := by
  unfold readHeader at hh
  dsimp only at hh
  simp only [readFields, headerWidths, List.drop_drop] at hh
  split_ifs at hh with _ _ hrange
  all_goals
    revert hh
    split <;> intro hh <;> cases hh <;> exact ⟨rfl, hrange.2.2.2.1⟩

theorem readHeader_erased : readHeader Spare.erased.header = none := by decide +kernel

theorem Spare.ne_erased_of_header {v : Spare} {h : LeafHeader} (hh : readHeader v.header = some h) : v ≠ Spare.erased := by
  rintro rfl
  rw [readHeader_erased] at hh
  cases hh

theorem Spare.classOf_header {v : Spare} {h : LeafHeader} (hh : readHeader v.header = some h) :
    v.classOf = if voidProgrammed v.voidWord then .voidMarked else .valid h := by
  unfold Spare.classOf
  rw [if_neg (Spare.ne_erased_of_header hh), hh]

theorem Spare.classOf_zeroed {v : Spare} {h : LeafHeader} (hh : readHeader v.header = some h) :
    ({ v with voidWord := 0#16 } : Spare).classOf = .voidMarked := by
  have hword : voidProgrammed 0#16 = true := by decide
  rw [Spare.classOf_header (v := { v with voidWord := 0#16 }) hh, hword]
  rfl

theorem limitedSpare_cases (allowed : LeafClass → Bool) (free otherwise : Spare) :
    allowed (limitedSpare allowed free otherwise).classOf = true ∨ limitedSpare allowed free otherwise = otherwise := by
  unfold limitedSpare
  by_cases h : allowed free.classOf = true
  · exact Or.inl (by rw [if_pos h]; exact h)
  · exact Or.inr (if_neg h)

theorem LeafClass.blankOrUnreadable_iff {c : LeafClass} :
    c.blankOrUnreadable = true ↔ c = .erased ∨ c = .unreadable := by
  cases c <;> simp [LeafClass.blankOrUnreadable]

theorem freeData_length (draw : Nat) : (freeData draw).length = 4096 := by
  simp [freeData, Config.leafBytes]

section
variable {f : Flash} {l m a : Nat} {v : Spare} {header : List Word} {data : List Byte}

theorem dataAddress_zero (l : Nat) : dataAddress l 0 = l * 4096 := by
  simp [dataAddress, Config.leafBytes]

theorem Flash.programmed_spareOf : (f.programmed l header data).spareOf m =
    if m = l then ⟨header, 0xFFFF#16⟩ else f.spareOf m := by
  have h := f.setSpare_spareOf l m ⟨header, 0xFFFF#16⟩
  unfold Flash.programmed
  unfold Flash.spareOf at h ⊢
  exact h

theorem Flash.programmed_within {j : Nat} {x : Byte} (h : data[j]? = some x) :
    Memory.read (f.programmed l header data).data (l * 4096 + j) = x := by
  obtain ⟨hj, hx⟩ := List.getElem?_eq_some_iff.1 h
  unfold Flash.programmed
  rw [dataAddress_zero, Memory.read_writeBytes, if_pos (by omega), Nat.add_sub_cancel_left, List.getD_eq_getElem?_getD, h]
  rfl

theorem Flash.programmed_outside (h : a < l * 4096 ∨ l * 4096 + data.length ≤ a) :
    Memory.read (f.programmed l header data).data a = Memory.read f.data a := by
  unfold Flash.programmed
  rw [dataAddress_zero, Memory.read_writeBytes, if_neg (by omega)]

theorem Flash.leaves_spareOf : (f.leaves l v).spareOf m = if m = l then v else f.spareOf m := by
  have h := f.setSpare_spareOf l m v
  unfold Flash.leaves
  unfold Flash.spareOf at h ⊢
  exact h

theorem Flash.leaves_outside (h : a < l * 4096 ∨ l * 4096 + 4096 ≤ a) :
    Memory.read (f.leaves l v).data a = Memory.read f.data a := by
  unfold Flash.leaves
  rw [dataAddress_zero, Memory.read_writeBytes, freeData_length, if_neg (by omega)]

theorem Flash.leavesSpare_spareOf : (f.leavesSpare l v).spareOf m = if m = l then v else f.spareOf m :=
  Flash.setSpare_spareOf ..

theorem Flash.erased_spareOf : (f.erased l).spareOf m = if m = l then Spare.erased else f.spareOf m := by
  have h := f.setSpare_spareOf l m Spare.erased
  unfold Flash.erased
  unfold Flash.spareOf at h ⊢
  exact h

theorem Flash.erased_within {j : Nat} (h : j < 4096) : Memory.read (f.erased l).data (l * 4096 + j) = 255#8 := by
  refine (Memory.read_eraseLeaf ..).trans (if_pos ?_)
  unfold Config.leafBytes
  omega

theorem Flash.erased_outside (h : a < l * 4096 ∨ l * 4096 + 4096 ≤ a) :
    Memory.read (f.erased l).data a = Memory.read f.data a := by
  refine (Memory.read_eraseLeaf ..).trans (if_neg ?_)
  unfold Config.leafBytes
  omega

end

theorem Memory.readBytes_eq (m : Memory) (a n : Nat) :
    Memory.readBytes m a n = (List.range n).map (fun j => Memory.read m (a + j)) := by
  induction n generalizing a with
  | zero => rfl
  | succ n ih =>
    rw [List.range_succ_eq_map, List.map_cons, List.map_map]
    refine congrArg₂ List.cons rfl ((ih (a + 1)).trans (List.map_congr_left fun j _ => ?_))
    simp only [Function.comp, Nat.succ_eq_add_one]
    congr 1
    omega

theorem Flash.fetched_eq {f : Flash} {l : Nat} {h : LeafHeader} (hh : readHeader (f.spareOf l).header = some h) :
    f.fetched l = (List.range h.byteCount).map (fun j => Memory.read f.data (l * 4096 + j)) := by
  obtain ⟨hc, hle⟩ := readHeader_byteCount hh
  have hcount : min h.byteCount Config.leafBytes = h.byteCount := Nat.min_eq_left hle
  unfold Flash.fetched
  dsimp only
  rw [hc, hcount, dataAddress_zero]
  exact Memory.readBytes_eq ..

/-! ### Programs -/

theorem Body.releaseBuffer_session_if (b : Body) (i k : Nat) : (b.releaseBuffer i).session k =
    if (b.buffer i).holder = some (.session k)
    then { b.session k with queue := (b.session k).queue.filter (fun j => j ≠ i) } else b.session k := by
  rw [Body.releaseBuffer_session]
  split_ifs with h
  · have hpred : ∀ j, (j = i ∧ (b.buffer j).holder = some (.session k)) ↔ j = i :=
      fun j => ⟨fun hj => hj.1, fun hj => ⟨hj, hj ▸ h⟩⟩
    simp only [hpred]
  · have hpred : ∀ j, ¬ (j = i ∧ (b.buffer j).holder = some (.session k)) := fun j hj => h (hj.1 ▸ hj.2)
    simp only [hpred, not_false_eq_true, decide_true, List.filter_true]

/-- Settles O46. -/
theorem aCompletedProgramStoresTheBuffer : Obligations.ACompletedProgramStoresTheBuffer := by
  intro s bank i l header hop bytes
  have hexec : exec (.programComplete bank) s = .next (State.arbitrate { s with
      body := s.body.programDone bank.toNat i l, flash := s.flash.programmed l header bytes, sent := none }) := by
    dsimp only [exec, execProgramComplete]
    rw [hop]
    rfl
  refine ⟨_, hexec, ?leaf, ?buffer, ?ready, ?windows, fun k => ?session, ?bank, fun m hm => ?leaves, fun j hj => ?buffers,
    fun k hk => ?banks, ?frame, Flash.programmed_spareOf.trans (if_pos rfl),
    fun m hm => Flash.programmed_spareOf.trans (if_neg hm), fun j v => Flash.programmed_within,
    fun a => Flash.programmed_outside, rfl, rfl⟩
  all_goals dsimp only; unfold Body.programDone; dsimp only
  case leaf => simp [Body.leaf, Body.setLeaf, Body.setOp, Body.setBank]
  case buffer => rw [Body.releaseBuffer_buffer, if_pos rfl]; rfl
  case ready => rw [Body.releaseBuffer_ready]; rfl
  case windows => rw [Body.releaseBuffer_windows]; rfl
  case session =>
    rw [Body.releaseBuffer_session_if]
    rfl
  case bank => simp [Body.bank, Body.setLeaf, Body.setOp, Body.setBank]
  case leaves => simp [Body.leaf, Body.setLeaf, Body.setOp, Body.setBank, hm]
  case buffers => rw [Body.releaseBuffer_buffer, if_neg hj]; rfl
  case banks => simp [Body.bank, Body.setLeaf, Body.setOp, Body.setBank, hk]
  case frame =>
    apply Body.eq_of_fields
    all_goals first | rfl | simp

theorem updateNth_eq_modify {α : Type} (f : α → α) (l : List α) (i : Nat) : updateNth f l i = l.modify i f := by
  refine List.ext_getElem? fun j => ?_
  rw [getElem?_updateNth, List.getElem?_modify]
  by_cases h : j = i
  · simp [h]
  · simp [h, Ne.symm h]

theorem LeafSlot.lost_eq : LeafSlot.lost = fun v => if v = .released then .released else .unplaced := by
  funext v
  cases v <;> rfl

/-- A document whose slot a failed program leaves unplaced (R18, R92). -/
def Document.unplacedAt (d : Document) (p : Place) : Document :=
  { d with
    pages := d.pages.modify (p.page - 1) (fun g =>
      { g with slots := g.slots.modify p.index (fun v => if v = .released then .released else .unplaced) }) }

theorem Document.unplacedAt_eq (d : Document) (p : Place) :
    d.updLeafSlot p.page p.index LeafSlot.lost = d.unplacedAt p := by
  unfold Document.updLeafSlot Document.updPage Document.unplacedAt
  simp only [updateNth_eq_modify, LeafSlot.lost_eq]

/-- The body after a failed program, before the slot it leaves becomes unplaced (R92). -/
def Body.programMissed (b : Body) (k i l : Nat) : Body :=
  ((b.setOp k .none).setLeaf l ⟨.retired, none, none⟩).setBuffer i { b.buffer i with state := .ready, leaf := none }

/-- The body after a failed program, before a purge's cursor moves past the slot it leaves (R92). -/
def Body.programUnplaced (b : Body) (k i l : Nat) (p : Place) (d : Document) : Body :=
  (b.programMissed k i l).setDoc p.slot (d.unplacedAt p)

theorem Body.programLost_unplace {b : Body} {k i l : Nat} {p : Place} (hp : (b.buffer i).place = some p) :
    b.programLost k i l = (b.programMissed k i l).unplace p := by
  have hplace : ((b.programMissed k i l).buffer i).place = some p := by
    unfold Body.programMissed
    rw [Body.setBuffer_buffer, if_pos rfl]
    exact hp
  unfold Body.programLost
  dsimp only
  split
  · rename_i q hq
    cases hplace.symm.trans hq
    rfl
  · rename_i hq
    cases hplace.symm.trans hq

theorem Body.programLost_eq {b : Body} {k i l : Nat} {p : Place} {d : Document} (hp : (b.buffer i).place = some p)
    (hd : b.doc p.slot = some d) : b.programLost k i l =
      if d.state = .purging then (b.programUnplaced k i l p d).advancePurge p.slot
      else b.programUnplaced k i l p d := by
  have hdoc : (b.programUnplaced k i l p d).doc p.slot = some (d.unplacedAt p) :=
    (Body.setDoc_doc ..).trans (if_pos rfl)
  have hunplace : (b.programMissed k i l).updDoc p.slot (fun d => d.updLeafSlot p.page p.index LeafSlot.lost) =
      b.programUnplaced k i l p d := by
    rw [Body.updDoc_eq (b := b.programMissed k i l) (d := d) _ hd, Document.unplacedAt_eq]
    rfl
  rw [Body.programLost_unplace hp]
  unfold Body.unplace
  dsimp only
  rw [hunplace, hdoc]
  simp [Document.unplacedAt]

/-- Settles O47. -/
theorem aFailedProgramUnplacesTheSlot : Obligations.AFailedProgramUnplacesTheSlot := by
  intro s bank i l header p d hop hp hd
  have hexec : exec (.programFail bank) s = .next (State.arbitrate { s with
      body := s.body.programLost bank.toNat i l, flash := s.flash.programFailed l header, sent := none }) := by
    dsimp only [exec, execProgramFail]
    rw [hop]
    rfl
  have hdoc : (s.body.programUnplaced bank.toNat i l p d).doc p.slot = some (d.unplacedAt p) :=
    (Body.setDoc_doc ..).trans (if_pos rfl)
  refine ⟨_, s.body.programUnplaced bank.toNat i l p d, d.unplacedAt p, hexec, hdoc, rfl, ?leaf, ?buffer, ?bank,
    fun m hm => (Body.setDoc_slot ..).trans (if_neg hm), fun m hm => ?leaves, fun j hj => ?buffers, fun k hk => ?banks,
    rfl, fun hs => ?stays, fun hs => ?moves, ?spare, fun m hm => ?spares, fun a ha => ?outside, rfl⟩
  case leaf => simp [Body.programUnplaced, Body.programMissed, Body.leaf, Body.setDoc, Body.setSlot, Body.setBuffer, Body.setLeaf]
  case buffer => simp [Body.programUnplaced, Body.programMissed, Body.buffer, Body.setDoc, Body.setSlot, Body.setBuffer]
  case bank => simp [Body.programUnplaced, Body.programMissed, Body.bank, Body.setDoc, Body.setSlot, Body.setBuffer, Body.setLeaf,
    Body.setOp, Body.setBank]
  case leaves =>
    simp [Body.programUnplaced, Body.programMissed, Body.leaf, Body.setDoc, Body.setSlot, Body.setBuffer, Body.setLeaf, Body.setOp,
      Body.setBank, hm]
  case buffers =>
    simp [Body.programUnplaced, Body.programMissed, Body.buffer, Body.setDoc, Body.setSlot, Body.setBuffer, Body.setLeaf, Body.setOp,
      Body.setBank, hj]
  case banks => simp [Body.programUnplaced, Body.programMissed, Body.bank, Body.setDoc, Body.setSlot, Body.setBuffer, Body.setLeaf,
    Body.setOp, Body.setBank, hk]
  case stays => exact (Body.programLost_eq hp hd).trans (if_neg hs)
  case moves =>
    dsimp only
    rw [Body.programLost_eq hp hd, if_pos hs]
    exact Body.advancePurge_cursorMoved hdoc
  case spare =>
    dsimp only [Flash.programFailed]
    rw [Flash.leaves_spareOf, if_pos rfl]
    exact (limitedSpare_cases (fun c => c == .unreadable) _ _).imp_left beq_iff_eq.1
  case spares => exact Flash.leaves_spareOf.trans (if_neg hm)
  case outside => exact Flash.leaves_outside ha

/-! ### Fetches -/

section
variable {b : Body} {f : Flash} {k i : Nat}

theorem Body.fetchDone_window {l : Nat} (h : (b.buffer i).discard = false) (hl : (b.buffer i).leaf = some l) :
    b.fetchDone f k i = (b.setOp k .none).setBuffer i { b.buffer i with state := .window, data := f.fetched l } := by
  unfold Body.fetchDone
  dsimp only
  rw [show (b.setOp k .none).buffer i = b.buffer i from rfl, h, hl]
  rfl

theorem Body.fetchDone_discards (h : (b.buffer i).discard = true) :
    b.fetchDone f k i = (b.setOp k .none).releaseBuffer i := by
  unfold Body.fetchDone
  dsimp only
  rw [show (b.setOp k .none).buffer i = b.buffer i from rfl, h]
  rfl

end

theorem Body.setOp_bank (b : Body) (k : Nat) (op : BankOp) (j : Nat) :
    (b.setOp k op).bank j = if j = k then { b.bank j with op := op } else b.bank j := by
  unfold Body.setOp
  rw [Body.setBank_bank]
  split_ifs with h
  · rw [h]
  · rfl

/-- Settles O48. -/
theorem aFetchFillsItsWindow : Obligations.AFetchFillsItsWindow := by
  intro s bank i l hop hl
  have hexec : exec (.fetchComplete bank) s = .next (State.arbitrate { s with
      body := s.body.fetchDone s.flash bank.toNat i, sent := none }) := by
    dsimp only [exec, execFetchComplete]
    rw [hop]
    rfl
  have hbank : ∀ k, (s.body.fetchDone s.flash bank.toNat i).bank k =
      if k = bank.toNat then { s.body.bank k with op := .none } else s.body.bank k := fun k => by
    rw [← Body.setOp_bank]
    cases hdis : (s.body.buffer i).discard with
    | false => rw [Body.fetchDone_window hdis hl]; rfl
    | true => rw [Body.fetchDone_discards hdis]; unfold Body.bank; rw [Body.releaseBuffer_banks]
  refine ⟨_, hexec, (hbank _).trans (if_pos rfl), fun hdis => ⟨fun h hh => ?window, ?windowFrame⟩,
    fun hdis hheld => ⟨?freed, ?freedFrame⟩, fun j hj => ?buffers, fun k hk => (hbank k).trans (if_neg hk), rfl⟩
  case window =>
    dsimp only
    rw [Body.fetchDone_window hdis hl, Body.setBuffer_buffer, if_pos rfl, Flash.fetched_eq hh]
  case windowFrame =>
    dsimp only
    rw [Body.fetchDone_window hdis hl]
    rfl
  case freed =>
    dsimp only
    rw [Body.fetchDone_discards hdis, Body.releaseBuffer_buffer, if_pos rfl]
    rfl
  case freedFrame =>
    dsimp only
    rw [Body.fetchDone_discards hdis, Body.releaseBuffer_unheld]
    · rfl
    · intro k hk
      rw [show (s.body.setOp bank.toNat .none).buffer i = s.body.buffer i from rfl, hheld] at hk
      cases hk
  case buffers =>
    dsimp only
    cases hdis : (s.body.buffer i).discard with
    | false => rw [Body.fetchDone_window hdis hl, Body.setBuffer_buffer, if_neg hj]; rfl
    | true => rw [Body.fetchDone_discards hdis, Body.releaseBuffer_buffer, if_neg hj]; rfl

/-! ### Void marks and erases -/

theorem Body.voidLeaf_bank (b : Body) (l k : Nat) : (b.voidLeaf l).bank k =
    { b.bank k with eraseQueue := (b.bank k).eraseQueue ++ if k = l % 4 then [l] else [] } := by
  unfold Body.voidLeaf
  dsimp only
  rw [Body.setBank_bank, show leafBank l = l % 4 from rfl]
  split_ifs with h
  · rw [h]; rfl
  · rw [List.append_nil]; rfl

theorem Body.pushBlank_bank (b : Body) (l k : Nat) : (b.pushBlank l).bank k =
    { b.bank k with blank := (b.bank k).blank ++ if k = l % 4 then [l] else [] } := by
  unfold Body.pushBlank
  rw [Body.setBank_bank, show leafBank l = l % 4 from rfl]
  split_ifs with h
  · rw [h]
  · rw [List.append_nil]

/-- Settles O49. -/
theorem aVoidMarkEndsInTheEraseQueue : Obligations.AVoidMarkEndsInTheEraseQueue := by
  intro s bank l hop
  have hexec : ∀ completed, exec (.voidMarkEnd bank completed) s = .next (State.arbitrate { s with
      body := (s.body.setOp bank.toNat .none).voidLeaf l,
      flash := if completed then s.flash.voidMarked l else s.flash.voidFailed l, sent := none }) := fun completed => by
    dsimp only [exec, execVoidMarkEnd]
    rw [hop]
    rfl
  have hfailed : (s.flash.voidFailed l).spareOf l = limitedSpare (fun c => c == .unreadable)
      (freeSpare s.flash.draws) { s.flash.spareOf l with voidWord := Config.freeWord s.flash.draws 13 } :=
    Flash.leavesSpare_spareOf.trans (if_pos rfl)
  have hdone : (s.flash.voidMarked l).spareOf l = { s.flash.spareOf l with voidWord := 0#16 } :=
    (Flash.setSpare_spareOf ..).trans (if_pos rfl)
  refine ⟨_, _, _, hexec true, hexec false, ?leaf, fun m hm => ?leaves, fun k => ?banks, rfl, hdone, rfl, rfl, rfl,
    fun m hm => ⟨?marked, ?failed⟩, fun h hh => ⟨?classed, ?limits⟩⟩
  case leaf => simp [Body.voidLeaf, Body.leaf, Body.setBank, Body.setLeaf]
  case leaves => simp [Body.voidLeaf, Body.leaf, Body.setBank, Body.setLeaf, Body.setOp, hm]
  case banks =>
    rw [Body.voidLeaf_bank, Body.setOp_bank]
    split_ifs <;> rfl
  case marked => exact (Flash.setSpare_spareOf ..).trans (if_neg hm)
  case failed => exact Flash.leavesSpare_spareOf.trans (if_neg hm)
  case classed =>
    rw [if_pos rfl, hdone]
    exact Spare.classOf_zeroed hh
  case limits =>
    rw [if_neg nofun, hfailed]
    rcases limitedSpare_cases (fun c => c == .unreadable) (freeSpare s.flash.draws)
      { s.flash.spareOf l with voidWord := Config.freeWord s.flash.draws 13 } with hu | ho
    · exact Or.inr (Or.inr (beq_iff_eq.1 hu))
    · rw [ho, Spare.classOf_header (v := { s.flash.spareOf l with voidWord := Config.freeWord s.flash.draws 13 }) hh]
      split_ifs
      · exact Or.inr (Or.inl rfl)
      · exact Or.inl rfl

/-- Settles O50. -/
theorem anEraseBlanksOrRetiresTheLeaf : Obligations.AnEraseBlanksOrRetiresTheLeaf := by
  intro s bank l hop
  have hdone : exec (.eraseEnd bank true) s = .next (State.arbitrate { s with
      body := s.body.eraseDone bank.toNat l, flash := s.flash.erased l, sent := none }) := by
    dsimp only [exec, execEraseEnd]
    rw [hop]
    rfl
  have hlost : exec (.eraseEnd bank false) s = .next (State.arbitrate { s with
      body := s.body.eraseLost bank.toNat l, flash := s.flash.eraseFailed l, sent := none }) := by
    dsimp only [exec, execEraseEnd]
    rw [hop]
    rfl
  have hspare : ∀ m, (s.flash.eraseFailed l).spareOf m = if m = l then limitedSpare LeafClass.blankOrUnreadable
      (freeSpare s.flash.draws) { s.flash.spareOf l with voidWord := Config.freeWord s.flash.draws 13 }
      else s.flash.spareOf m := fun m => Flash.leaves_spareOf
  have hblank : (Spare.erased).classOf = .erased := if_pos rfl
  refine ⟨_, _, hdone, hlost, ?blanked, ?retired, fun m hm => ⟨?_, ?_⟩, fun k => ?blank, fun k => ?banks, rfl, rfl,
    ?erased, fun j hj => Flash.erased_within hj, ?limits, fun m hm => ⟨Flash.erased_spareOf.trans (if_neg hm),
      (hspare m).trans (if_neg hm)⟩, fun a ha => ⟨Flash.erased_outside ha, Flash.leaves_outside ha⟩, rfl, rfl⟩
  case blanked => simp [Body.eraseDone, Body.pushBlank, Body.leaf, Body.setBank, Body.setLeaf, Leaf.blank]
  case retired => simp [Body.eraseLost, Body.leaf, Body.setLeaf]
  case blank =>
    dsimp only [Body.eraseDone]
    rw [Body.pushBlank_bank, show ((s.body.setOp bank.toNat .none).setLeaf l Leaf.blank).bank k =
      (s.body.setOp bank.toNat .none).bank k from rfl, Body.setOp_bank]
    split_ifs <;> rfl
  case banks =>
    refine (Body.setOp_bank ..).trans ?_
    split_ifs <;> rfl
  case erased =>
    dsimp only
    rw [Flash.erased_spareOf, if_pos rfl, hblank]
  case limits =>
    dsimp only
    rw [hspare, if_pos rfl]
    rcases limitedSpare_cases LeafClass.blankOrUnreadable (freeSpare s.flash.draws)
      { s.flash.spareOf l with voidWord := Config.freeWord s.flash.draws 13 } with hu | ho
    · exact (LeafClass.blankOrUnreadable_iff.1 hu).imp_right Or.inl
    · rw [ho]
      exact Or.inr (Or.inr rfl)
  · simp [Body.eraseDone, Body.pushBlank, Body.leaf, Body.setBank, Body.setLeaf, Body.setOp, hm]
  · simp [Body.eraseLost, Body.leaf, Body.setLeaf, Body.setOp, Body.setBank, hm]

end Sys2Proof.Machine
end

section
/-! The order in which an idle bank chooses its work (R71, R88, R89, R95). -/

namespace Sys2Proof.Machine

/-! ### The first of several kinds -/

/-- The first of several choices that offers anything. -/
def firstChoice (l : List (Option Work)) : Option Work := l.foldr (fun o rest => o <|> rest) none

theorem firstChoice_eq_some {choices : List (Option Work)} {kinds : List (Work → Prop)}
    (h : List.Forall₂ (fun o kind => ∀ w, o = some w ↔ kind w) choices kinds) (w : Work) :
    firstChoice choices = some w ↔
      ∃ before kind after, kinds = before ++ kind :: after ∧ kind w ∧ ∀ q ∈ before, ∀ v, ¬ q v := by
  induction h with
  | nil => simp [firstChoice]
  | @cons o kind choices kinds ho _ ih =>
    have hstep : firstChoice (o :: choices) = (o <|> firstChoice choices) := rfl
    rw [hstep]
    cases o with
    | some v =>
      have hv := (ho v).1 rfl
      constructor
      · intro hw
        exact ⟨[], kind, kinds, rfl, (ho w).1 hw, nofun⟩
      · rintro ⟨before, q, after, hsplit, hq, hnone⟩
        cases before with
        | nil =>
          obtain ⟨rfl, rfl⟩ := List.cons.inj hsplit
          exact (ho w).2 hq
        | cons p before =>
          obtain ⟨rfl, rfl⟩ := List.cons.inj hsplit
          exact absurd hv (hnone kind List.mem_cons_self v)
    | none =>
      have hno : ∀ v, ¬ kind v := fun v hv => nomatch (ho v).2 hv
      refine ih.trans ⟨?_, ?_⟩
      · rintro ⟨before, q, after, rfl, hq, hnone⟩
        refine ⟨kind :: before, q, after, rfl, hq, fun r hr => ?_⟩
        rcases List.mem_cons.1 hr with rfl | hr
        · exact hno
        · exact hnone r hr
      · rintro ⟨before, q, after, hsplit, hq, hnone⟩
        cases before with
        | nil =>
          obtain ⟨rfl, rfl⟩ := List.cons.inj hsplit
          exact absurd hq (hno w)
        | cons p before =>
          obtain ⟨rfl, rfl⟩ := List.cons.inj hsplit
          exact ⟨before, q, after, rfl, hq, fun r hr => hnone r (List.mem_cons_of_mem _ hr)⟩

/-- What each kind of work offers, in the order of choice (R88, R89). -/
def Body.choices (b : Body) (part : PartState) (floor k : Nat) : List (Option Work) :=
  match part with
  | .running => [b.programWork k 3, if b.deviceBlank < floor then b.eraseWork k else none, b.fetchWork k,
      b.programWork k 2, b.voidWork k, b.programWork k 1, b.eraseWork k]
  | .powerFail => [b.programWork k 3, b.programWork k 2, b.programWork k 1]
  | .off | .starting | .rebuilding => []

theorem Body.choose_eq (b : Body) (part : PartState) (floor k : Nat) :
    b.choose part floor k = firstChoice (b.choices part floor k) := by
  cases part <;> simp [Body.choose, Body.choices, firstChoice]

/-! ### Each kind -/

section
variable {b : Body} {k : Nat}

/-- Buffer `i` is work `w` for bank `k` (R88, R93). -/
def Body.worksAs (b : Body) (k i : Nat) (w : Work) : Prop :=
  (b.buffer i).state = .ready ∧
    ((∃ l, (b.buffer i).leaf = some l ∧ l % 4 = k ∧ w = .program i l) ∨
      ((b.buffer i).leaf = none ∧ b.allocationBank = some k ∧ w = .replace i))

theorem Body.bufferWork_eq_some {i : Nat} {w : Work} : b.bufferWork k i = some w ↔ b.worksAs k i w := by
  unfold Body.bufferWork Body.worksAs
  by_cases hr : (b.buffer i).state = .ready
  · rw [if_pos hr]
    cases hl : (b.buffer i).leaf with
    | some l =>
      by_cases hk : leafBank l = k
      · have hk' : l % 4 = k := hk
        simp [hr, hk, hk', eq_comm]
      · have hk' : ¬ l % 4 = k := hk
        simp [hk, hk']
    | none =>
      by_cases ha : b.allocationBank = some k <;> simp [hr, ha, eq_comm]
  · simp [hr]

theorem Body.bufferWork_eq_none {i : Nat} : b.bufferWork k i = none ↔ ∀ w, ¬ b.worksAs k i w := by
  rw [Option.eq_none_iff_forall_ne_some]
  exact forall_congr' fun w => not_congr Body.bufferWork_eq_some

theorem Body.programWork_eq_some {u : Nat} {w : Work} : b.programWork k u = some w ↔
    ∃ before i after, b.ready = before ++ i :: after ∧ b.urgency i = u ∧ b.worksAs k i w ∧
      ∀ j ∈ before, b.urgency j = u → ∀ v, ¬ b.worksAs k j v := by
  have hfilter : b.programWork k u =
      b.ready.findSome? (fun i => if b.urgency i = u then b.bufferWork k i else none) := by
    unfold Body.programWork
    induction b.ready with
    | nil => rfl
    | cons i l ih =>
      rw [List.findSome?_cons]
      by_cases hu : b.urgency i = u
      · rw [List.filter_cons_of_pos (by simpa using hu), List.findSome?_cons, if_pos hu, ih]
      · rw [List.filter_cons_of_neg (by simpa using hu), if_neg hu, ih]
  rw [hfilter, List.findSome?_eq_some_iff]
  refine exists_congr fun before => exists_congr fun i => exists_congr fun after => and_congr_right fun _ => ?_
  have hfront : (∀ j ∈ before, (if b.urgency j = u then b.bufferWork k j else none) = none) ↔
      ∀ j ∈ before, b.urgency j = u → ∀ v, ¬ b.worksAs k j v :=
    forall₂_congr fun j _ => by
      rw [← Body.bufferWork_eq_none]
      by_cases hu : b.urgency j = u <;> simp [hu]
  rw [hfront, ← and_assoc]
  refine and_congr_left fun _ => ?_
  by_cases hu : b.urgency i = u <;> simp [hu, Body.bufferWork_eq_some]

theorem Body.eraseWork_eq_some {w : Work} :
    b.eraseWork k = some w ↔ ∃ l rest, (b.bank k).eraseQueue = l :: rest ∧ w = .erase l := by
  unfold Body.eraseWork
  cases (b.bank k).eraseQueue <;> simp [eq_comm]

theorem Body.fetchWork_eq_some {w : Work} :
    b.fetchWork k = some w ↔ ∃ i rest, (b.bank k).fetchQueue = i :: rest ∧ w = .fetch i := by
  unfold Body.fetchWork
  cases (b.bank k).fetchQueue <;> simp [eq_comm]

/-- The document in slot `n` is void-mark work `w` for bank `k` (R95). -/
def Body.voidsAs (b : Body) (k n : Nat) (w : Work) : Prop :=
  ∃ d p x l, b.doc n = some d ∧ d.cursor = some (p, x, .placed l) ∧ (b.leaf l).state = .programmed ∧ l % 4 = k ∧
    w = .voidMark n p x l

theorem Body.voidWorkOf_eq_some {n : Nat} {w : Work} : b.voidWorkOf k n = some w ↔ b.voidsAs k n w := by
  unfold Body.voidWorkOf Body.voidsAs
  cases hd : b.doc n with
  | none => simp
  | some d =>
    rw [Option.bind_some]
    cases hc : d.cursor with
    | none => simp [hc]
    | some c =>
      obtain ⟨p, x, v⟩ := c
      cases v with
      | placed l =>
        have hbank : leafBank l = l % 4 := rfl
        simp only [hbank, Option.some.injEq, exists_and_left, exists_eq_left', hc, Prod.mk.injEq, LeafSlot.placed.injEq]
        by_cases hl : (b.leaf l).state = .programmed ∧ l % 4 = k
        · rw [if_pos hl]
          constructor
          · rintro h
            cases h
            exact ⟨p, x, l, ⟨rfl, rfl, rfl⟩, hl.1, hl.2, rfl⟩
          · rintro ⟨_, _, _, ⟨rfl, rfl, rfl⟩, _, _, rfl⟩
            rfl
        · rw [if_neg hl]
          refine ⟨nofun, ?_⟩
          rintro ⟨_, _, _, ⟨rfl, rfl, rfl⟩, h1, h2, _⟩
          exact absurd ⟨h1, h2⟩ hl
      | unplaced => simp [hc]
      | released => simp [hc]

theorem Body.voidWork_eq_some {w : Work} : b.voidWork k = some w ↔
    ∃ before n after, b.purges = before ++ n :: after ∧ b.voidsAs k n w ∧ ∀ m ∈ before, ∀ v, ¬ b.voidsAs k m v := by
  unfold Body.voidWork
  rw [List.findSome?_eq_some_iff]
  refine exists_congr fun before => exists_congr fun n => exists_congr fun after => and_congr_right fun _ => ?_
  refine and_congr Body.voidWorkOf_eq_some (forall₂_congr fun m _ => ?_)
  rw [Option.eq_none_iff_forall_ne_some]
  exact forall_congr' fun v => not_congr Body.voidWorkOf_eq_some

end

/-- Settles O51. -/
theorem arbitersFollowTheOrderOfChoice : Obligations.ArbitersFollowTheOrderOfChoice := by
  intro b part floor k urgency works programs erases fetches voids marks kinds w
  have hurgency : urgency = b.urgency := by
    funext i
    simp only [urgency]
    unfold Body.urgency Body.readyOf
    cases (b.buffer i).holder with
    | none => rfl
    | some holder => cases holder <;> rfl
  have hprograms : ∀ u v, b.programWork k u = some v ↔ programs u v := fun u v => by
    simp only [programs, hurgency]
    exact Body.programWork_eq_some
  have herases : ∀ v, b.eraseWork k = some v ↔ erases v := fun v => Body.eraseWork_eq_some
  have hblank : ∀ v, (if b.deviceBlank < floor then b.eraseWork k else none) = some v ↔
      b.deviceBlank < floor ∧ erases v := fun v => by
    by_cases hf : b.deviceBlank < floor
    · simp [hf, herases]
    · simp [hf]
  have hfetches : ∀ v, b.fetchWork k = some v ↔ fetches v := fun v => Body.fetchWork_eq_some
  have hmarks : ∀ v, b.voidWork k = some v ↔ marks v := fun v => Body.voidWork_eq_some
  rw [Body.choose_eq]
  refine firstChoice_eq_some ?_ w
  simp only [kinds]
  cases part with
  | running =>
    exact .cons (hprograms 3) (.cons hblank (.cons hfetches (.cons (hprograms 2) (.cons hmarks
      (.cons (hprograms 1) (.cons herases .nil))))))
  | powerFail => exact .cons (hprograms 3) (.cons (hprograms 2) (.cons (hprograms 1) .nil))
  | off => exact .nil
  | starting => exact .nil
  | rebuilding => exact .nil

end Sys2Proof.Machine
end

section
/-! What an operation does when it starts (R78, R90, R93 to R97). -/

namespace Sys2Proof.Machine

section
variable {b : Body} {k i l : Nat}

/-! ### Programs and replacements -/

theorem Body.headerFor_eq {p : Place} {d : Document} (hp : (b.buffer i).place = some p) (hd : b.doc p.slot = some d) :
    b.headerFor i = (assembleHeader d (b.slot p.slot).generation p (b.buffer i).data.length).words := by
  unfold Body.headerFor
  dsimp only
  rw [hp]
  dsimp only
  rw [hd]

/-- Leaf and buffer of a program that starts (R72, R90). -/
def Body.programming (b : Body) (i l : Nat) : Body :=
  (b.setLeaf l { b.leaf l with state := .programming }).setBuffer i { b.buffer i with state := .programming }

theorem Body.startProgram_eq (b : Body) (k i l : Nat) : b.startProgram k i l =
    (b.programming i l).setBank k { b.bank k with op := .program i l ((b.programming i l).headerFor i) } := rfl

theorem Body.programming_header {p : Place} {d : Document} (hp : (b.buffer i).place = some p)
    (hd : b.doc p.slot = some d) : (b.programming i l).headerFor i =
      (assembleHeader d (b.slot p.slot).generation p (b.buffer i).data.length).words := by
  have hbuf : (b.programming i l).buffer i = { b.buffer i with state := .programming } :=
    (Body.setBuffer_buffer ..).trans (if_pos rfl)
  rw [Body.headerFor_eq (b := b.programming i l) (p := p) (d := d) (by rw [hbuf]; exact hp) hd, hbuf]
  rfl

/-- A document whose unplaced slot a replacement leaf takes (R18, R93). -/
def Document.filledAt (d : Document) (p : Place) (l : Nat) : Document :=
  { d with
    pages := d.pages.modify (p.page - 1) (fun g =>
      { g with slots := g.slots.modify p.index (fun v => if v = .unplaced then .placed l else v) }) }

theorem LeafSlot.filled_eq (l : Nat) : LeafSlot.filled l = fun v => if v = .unplaced then .placed l else v := by
  funext v
  cases v <;> rfl

theorem Document.filledAt_eq (d : Document) (p : Place) (l : Nat) :
    d.updLeafSlot p.page p.index (LeafSlot.filled l) = d.filledAt p l := by
  unfold Document.updLeafSlot Document.updPage Document.filledAt
  simp only [updateNth_eq_modify, LeafSlot.filled_eq]

/-- The body of a replacement before its program starts: the front BLANK leaf is placed (R93). -/
def Body.replaced (b : Body) (k i l : Nat) (p : Place) (d : Document) : Body :=
  (((b.popBlank k).setLeaf l ⟨.blank, some p, some i⟩).setDoc p.slot (d.filledAt p l)).setBuffer i
    { b.buffer i with leaf := some l }

theorem Body.startReplace_eq {rest : List Nat} {p : Place} {d : Document} (hb : (b.bank k).blank = l :: rest)
    (hp : (b.buffer i).place = some p) (hd : b.doc p.slot = some d) :
    b.startReplace k i = (b.replaced k i l p d).startProgram k i l := by
  unfold Body.startReplace
  rw [hb, hp]
  dsimp only [List.head?_cons]
  rw [Body.updDoc_eq (b := (b.popBlank k).setLeaf l ⟨.blank, some p, some i⟩) (d := d) _ hd, Document.filledAt_eq]
  rfl

theorem Body.startReplace_none (h : (b.bank k).blank = [] ∨ (b.buffer i).place = none) : b.startReplace k i = b := by
  unfold Body.startReplace
  split
  · rename_i l p hl hp
    rcases h with h | h
    · rw [h] at hl; cases hl
    · rw [h] at hp; cases hp
  · rfl

/-! ### Void marks -/

/-- The body of a void mark before the cursor moves on (R78, R95). -/
def Body.marked (b : Body) (k n page index l : Nat) : Body :=
  (((b.setLeaf l ⟨.voiding, none, none⟩).setOp k (.voidMark l)).releaseSlot n page index).dropWindow l

theorem Body.startVoidMark_eq (b : Body) (k n page index l : Nat) :
    b.startVoidMark k n page index l = (b.marked k n page index l).advancePurge n := rfl

theorem Body.marked_leaf (n page index m : Nat) :
    (b.marked k n page index l).leaf m = if m = l then ⟨.voiding, none, none⟩ else b.leaf m := by
  have hleaves : (b.marked k n page index l).leaves = (b.setLeaf l ⟨.voiding, none, none⟩).leaves := by
    unfold Body.marked
    rw [Body.dropWindow_leaves, Body.releaseSlot_leaves]
    rfl
  unfold Body.leaf
  rw [hleaves]
  exact Body.setLeaf_leaf b l _ m

theorem Body.marked_bank (n page index j : Nat) : (b.marked k n page index l).bank j =
    if j = k then { b.bank j with op := .voidMark l } else b.bank j := by
  have hbanks : (b.marked k n page index l).banks =
      ((b.setLeaf l ⟨.voiding, none, none⟩).setOp k (.voidMark l)).banks := by
    unfold Body.marked
    rw [Body.dropWindow_banks, Body.releaseSlot_banks]
  unfold Body.bank
  rw [hbanks]
  exact Body.setOp_bank (b.setLeaf l ⟨.voiding, none, none⟩) k _ j

theorem Body.marked_slot {n : Nat} {d : Document} (hd : b.doc n = some d) (page index m : Nat) :
    (b.marked k n page index l).slot m = if m = n then { b.slot n with
      doc := some { d.setLeafSlot page index .released with retained := d.retained - 1 } } else b.slot m := by
  have hcatalog : (b.marked k n page index l).catalog =
      (((b.setLeaf l ⟨.voiding, none, none⟩).setOp k (.voidMark l)).releaseSlot n page index).catalog := by
    unfold Body.marked
    rw [Body.dropWindow_catalog]
  rw [Body.slot_congr hcatalog]
  exact Body.releaseSlot_slot (b := (b.setLeaf l ⟨.voiding, none, none⟩).setOp k (.voidMark l)) hd page index m

/-- The body of a void mark where no buffer waits behind the slot, before the leaf's window goes (R78). -/
def Body.unslotted (b : Body) (k n page index l : Nat) : Body :=
  ((b.setLeaf l ⟨.voiding, none, none⟩).setOp k (.voidMark l)).updDoc n (fun d =>
    { d.setLeafSlot page index .released with retained := d.retained - 1 })

theorem Body.unslotted_frame (n page index : Nat) : b.unslotted k n page index l = { b with
    leaves := (b.unslotted k n page index l).leaves, banks := (b.unslotted k n page index l).banks,
    catalog := (b.unslotted k n page index l).catalog } := by
  unfold Body.unslotted Body.updDoc
  split <;> rfl

theorem Body.marked_eq {n page index : Nat} (h : b.waitingBuffer ⟨n, page, index⟩ = none) :
    b.marked k n page index l = (b.unslotted k n page index l).dropWindow l := by
  have hslot : ((b.setLeaf l ⟨.voiding, none, none⟩).setOp k (.voidMark l)).releaseSlot n page index =
      b.unslotted k n page index l := by
    have hw : ((b.setLeaf l ⟨.voiding, none, none⟩).setOp k (.voidMark l)).waitingBuffer ⟨n, page, index⟩ = none := h
    unfold Body.releaseSlot
    dsimp only
    rw [hw]
    rfl
  unfold Body.marked
  rw [hslot]

theorem Body.dropWindow_none (h : b.windowOf l = none) : b.dropWindow l = b := by
  unfold Body.dropWindow; rw [h]

theorem Body.dropWindow_frees (h : b.windowOf l = some i) (hs : (b.buffer i).state = .window) :
    b.dropWindow l = b.releaseBuffer i := by
  unfold Body.dropWindow
  rw [h]
  exact if_pos hs

theorem Body.dropWindow_discards (h : b.windowOf l = some i) (hs : (b.buffer i).state ≠ .window) :
    b.dropWindow l = b.setBuffer i { b.buffer i with discard := true } := by
  unfold Body.dropWindow
  rw [h]
  exact if_neg hs

end

theorem modify_const {α : Type} (v : α) (l : List α) (i : Nat) : l.modify i (fun _ => v) = l.set i v := by
  refine List.ext_getElem? fun j => ?_
  rw [List.getElem?_modify, List.getElem?_set]
  by_cases h : i = j
  · subst h
    by_cases hi : i < l.length <;> simp [hi]
  · simp [h]

theorem Document.releasedAt_eq (d : Document) (p : Place) : d.setLeafSlot p.page p.index .released = { d with
    pages := d.pages.modify (p.page - 1) (fun g => { g with slots := g.slots.set p.index .released }) } := by
  unfold Document.setLeafSlot Document.updLeafSlot Document.updPage
  simp only [updateNth_eq_modify, modify_const]

/-- Settles O52. -/
theorem startedOperationsTakeTheirWork : Obligations.StartedOperationsTakeTheirWork := by
  intro b k i l n p d
  refine ⟨?program, fun rest hb hp hd => ?replace, fun rest hq => ?fetch, fun rest hq => ?erase, fun hd hc => ?void⟩
  case program =>
    intro u
    have hu : u = b.startProgram k i l := rfl
    rw [hu, Body.startProgram_eq]
    refine ⟨?_, ?_, ⟨(b.programming i l).headerFor i, ?_, fun hp hd => Body.programming_header hp hd⟩, fun m hm => ?_,
      fun j hj => ?_, fun j hj => ?_, rfl⟩
    all_goals simp [Body.programming, *]
  case replace =>
    intro u f header
    have hu : u = (b.replaced k i l p d).startProgram k i l := Body.startReplace_eq hb hp hd
    have hbuf : ∀ j, (b.replaced k i l p d).buffer j = if j = i then { b.buffer i with leaf := some l } else b.buffer j :=
      fun j => Body.setBuffer_buffer ..
    have hleaf : ∀ m, (b.replaced k i l p d).leaf m = if m = l then ⟨.blank, some p, some i⟩ else b.leaf m :=
      fun m => Body.setLeaf_leaf (b.popBlank k) l ⟨.blank, some p, some i⟩ m
    have hbank : ∀ j, (b.replaced k i l p d).bank j = if j = k then { b.bank k with blank := rest } else b.bank j :=
      fun j => by
        refine (Body.setBank_bank b k _ j).trans ?_
        rw [hb]
        rfl
    have hslot : ∀ m, (b.replaced k i l p d).slot m = if m = p.slot then { b.slot p.slot with doc := some f }
        else b.slot m := fun m => Body.setDoc_slot ((b.popBlank k).setLeaf l ⟨.blank, some p, some i⟩) p.slot _ m
    have hdoc : (b.replaced k i l p d).doc p.slot = some f := by
      unfold Body.doc
      rw [hslot, if_pos rfl]
    have hheader : ((b.replaced k i l p d).programming i l).headerFor i = header := by
      rw [Body.programming_header (p := p) (d := f) (by rw [hbuf, if_pos rfl]; exact hp) hdoc, hslot, if_pos rfl, hbuf,
        if_pos rfl]
    rw [hu, Body.startProgram_eq, hheader]
    refine ⟨?_, ?_, ?_, ?_, fun m hm => ?_, fun j hj => ?_, fun j hj => ?_, fun m hm => ?_, rfl⟩
    all_goals simp [Body.programming, *]
  case fetch =>
    intro u
    have hu : u = b.startFetch k i := rfl
    rw [hu]
    unfold Body.startFetch
    rw [hq]
    exact ⟨by simp, fun j hj => by simp [hj], rfl⟩
  case erase =>
    intro u
    have hu : u = b.startErase k l := rfl
    rw [hu]
    unfold Body.startErase
    dsimp only
    rw [show (b.setLeaf l ⟨.erasing, none, none⟩).bank k = b.bank k from rfl, hq]
    exact ⟨by simp, by simp, fun m hm => by simp [hm], fun j hj => by simp [hj], rfl⟩
  case void =>
    intro u window
    have hu : u = (b.marked k n p.page p.index l).advancePurge n := rfl
    have hslot := Body.marked_slot (k := k) (l := l) hd p.page p.index
    have hframe := b.unslotted_frame (k := k) (l := l) n p.page p.index
    refine ⟨?leaf, ?bank, fun m hm => ?leaves, fun j hj => ?banks, b.marked k n p.page p.index l, ?slot,
      fun f hf => Body.advancePurge_cursorMoved hf, fun hwait => ⟨fun q hq => (hslot q).trans (if_neg hq),
        fun hw => ?none, fun w hw hs hheld => ?frees, fun w hw hs => ?discards⟩⟩
    case leaf =>
      rw [hu]
      unfold Body.leaf
      rw [Body.advancePurge_leaves]
      exact (Body.marked_leaf ..).trans (if_pos rfl)
    case bank =>
      rw [hu]
      unfold Body.bank
      rw [Body.advancePurge_banks]
      exact (Body.marked_bank ..).trans (if_pos rfl)
    case leaves =>
      rw [hu]
      unfold Body.leaf
      rw [Body.advancePurge_leaves]
      exact (Body.marked_leaf ..).trans (if_neg hm)
    case banks =>
      rw [hu]
      unfold Body.bank
      rw [Body.advancePurge_banks]
      exact (Body.marked_bank ..).trans (if_neg hj)
    case slot => rw [hslot, if_pos rfl, Document.releasedAt_eq]
    case none =>
      have hwin : (b.unslotted k n p.page p.index l).windowOf l = none := by rw [hframe]; exact hw
      rw [Body.marked_eq hwait, Body.dropWindow_none hwin]
      exact hframe
    case frees =>
      have hwin : (b.unslotted k n p.page p.index l).windowOf l = some w := by rw [hframe]; exact hw
      have hbuf : ∀ j, (b.unslotted k n p.page p.index l).buffer j = b.buffer j := fun j => by rw [hframe]; rfl
      rw [Body.marked_eq hwait, Body.dropWindow_frees hwin (by rw [hbuf]; exact hs)]
      refine ⟨?_, fun j hj => ?_, ?_⟩
      · rw [Body.releaseBuffer_buffer, if_pos rfl]; rfl
      · rw [Body.releaseBuffer_buffer, if_neg hj, hbuf]
      · have hno : ∀ x, ((b.unslotted k n p.page p.index l).buffer w).holder ≠ some (.session x) := fun x hx => by
          rw [hbuf, hheld] at hx
          cases hx
        rw [Body.releaseBuffer_unheld hno, hframe]
    case discards =>
      have hwin : (b.unslotted k n p.page p.index l).windowOf l = some w := by rw [hframe]; exact hw
      have hbuf : ∀ j, (b.unslotted k n p.page p.index l).buffer j = b.buffer j := fun j => by rw [hframe]; rfl
      rw [Body.marked_eq hwait, Body.dropWindow_discards hwin (by rw [hbuf]; exact hs)]
      refine ⟨?_, fun j hj => ?_, ?_⟩
      · rw [Body.setBuffer_buffer, if_pos rfl, hbuf]
      · rw [Body.setBuffer_buffer, if_neg hj, hbuf]
      · rw [hframe]; rfl

end Sys2Proof.Machine
end

section
/-! The idle banks choose one after another until none has work (R88, R89). -/

namespace Sys2Proof.Machine

/-! ### One choice after another -/

section
variable {part : PartState} {floor : Nat}

theorem Body.pick_mem {b : Body} {l : List Nat} (h : l ≠ []) : b.pick l ∈ l := by
  have hlt : Config.freeChoice b.draws % l.length < l.length := Nat.mod_lt _ (List.length_pos_iff.2 h)
  unfold Body.pick
  rw [List.getD_eq_getElem _ _ hlt]
  exact List.getElem_mem hlt

theorem Body.mem_waitingBanks {b : Body} {k : Nat} : k ∈ b.waitingBanks part floor ↔
    k < 4 ∧ (b.bank k).op = .none ∧ ∃ w, b.choose part floor k = some w := by
  unfold Body.waitingBanks
  rw [List.mem_filter, Bool.and_eq_true, decide_eq_true_iff, Option.isSome_iff_exists]
  refine and_congr_left fun _ => ?_
  simp only [List.mem_cons, List.not_mem_nil, or_false]
  omega

theorem Body.startChosen_eq {b : Body} {k : Nat} {w : Work} (h : b.choose part floor k = some w) :
    b.startChosen part floor k = b.startWork k w := by
  unfold Body.startChosen; rw [h]

/-- One round of the arbiters: nothing waits, or one waiting bank starts its choice, a free choice counted perhaps. -/
theorem Body.arbitrateFor_succ (part : PartState) (floor fuel : Nat) (b : Body) :
    (b.waitingBanks part floor = [] ∧ Body.arbitrateFor part floor (fuel + 1) b = b) ∨
      ∃ c k w, (c = b ∨ c = { b with draws := b.draws + 1 }) ∧ k < 4 ∧ (b.bank k).op = .none ∧
        c.choose part floor k = some w ∧
        Body.arbitrateFor part floor (fuel + 1) b = Body.arbitrateFor part floor fuel (c.startWork k w) := by
  have hrun : ∀ c k, (c = b ∨ c = { b with draws := b.draws + 1 }) → k ∈ b.waitingBanks part floor →
      Body.arbitrateFor part floor (fuel + 1) b = Body.arbitrateFor part floor fuel (c.startChosen part floor k) →
      ∃ c k w, (c = b ∨ c = { b with draws := b.draws + 1 }) ∧ k < 4 ∧ (b.bank k).op = .none ∧
        c.choose part floor k = some w ∧
        Body.arbitrateFor part floor (fuel + 1) b = Body.arbitrateFor part floor fuel (c.startWork k w) := by
    intro c k hc hk heq
    obtain ⟨hlt, hidle, w, hw⟩ := Body.mem_waitingBanks.1 hk
    have hcw : c.choose part floor k = some w := by rcases hc with rfl | rfl <;> exact hw
    exact ⟨c, k, w, hc, hlt, hidle, hcw, by rw [heq, Body.startChosen_eq hcw]⟩
  cases hw : b.waitingBanks part floor with
  | nil =>
    refine Or.inl ⟨rfl, ?_⟩
    unfold Body.arbitrateFor
    rw [hw]
  | cons k ks =>
    refine Or.inr ?_
    cases ks with
    | nil =>
      refine hrun b k (Or.inl rfl) (by rw [hw]; exact List.mem_cons_self) ?_
      conv_lhs => unfold Body.arbitrateFor
      rw [hw]
    | cons j ks =>
      refine hrun { b with draws := b.draws + 1 } (b.pick (k :: j :: ks)) (Or.inr rfl)
        (by rw [hw]; exact Body.pick_mem nofun) ?_
      conv_lhs => unfold Body.arbitrateFor
      rw [hw]

/-- What a free choice counted and each operation's start keep, the arbiters keep. -/
theorem Body.arbitrateFor_keeps {P : Body → Prop} (hdraw : ∀ b, P b → P { b with draws := b.draws + 1 })
    (hstart : ∀ b k w, P b → k < 4 → (b.bank k).op = .none → b.choose part floor k = some w → P (b.startWork k w))
    (fuel : Nat) {b : Body} (h : P b) : P (Body.arbitrateFor part floor fuel b) := by
  induction fuel generalizing b with
  | zero => exact h
  | succ fuel ih =>
    rcases Body.arbitrateFor_succ part floor fuel b with ⟨_, heq⟩ | ⟨c, k, w, hc, hlt, hidle, hw, heq⟩
    · rw [heq]; exact h
    · have hPc : P c := by rcases hc with rfl | rfl; exacts [h, hdraw b h]
      have hci : (c.bank k).op = .none := by rcases hc with rfl | rfl <;> exact hidle
      rw [heq]
      exact ih (hstart c k w hPc hlt hci hw)

theorem Body.arbitrate_keeps {P : Body → Prop} (hdraw : ∀ b, P b → P { b with draws := b.draws + 1 })
    (hstart : ∀ b k w, P b → k < 4 → (b.bank k).op = .none → b.choose part floor k = some w → P (b.startWork k w))
    {b : Body} (h : P b) : P (b.arbitrate part floor) := Body.arbitrateFor_keeps hdraw hstart 4 h

end

/-! ### What a start does to the banks -/

/-- No READY buffer lacks a place (R73). -/
def Body.readyPlaced (b : Body) : Prop := ∀ i, (b.buffer i).state = .ready → (b.buffer i).place ≠ none

section
variable {b : Body} {k : Nat}

theorem Body.startVoidMark_bank (n page index l j : Nat) : (b.startVoidMark k n page index l).bank j =
    if j = k then { b.bank j with op := .voidMark l } else b.bank j := by
  rw [Body.startVoidMark_eq]
  unfold Body.bank
  rw [Body.advancePurge_banks]
  exact Body.marked_bank ..

theorem Body.startReplace_cases (i : Nat) :
    (((b.bank k).blank = [] ∨ (b.buffer i).place = none) ∧ b.startReplace k i = b) ∨ ∃ l rest p, (b.bank k).blank = l :: rest ∧ (b.buffer i).place = some p ∧
      b.startReplace k i = (((((b.popBlank k).setLeaf l ⟨.blank, some p, some i⟩).updDoc p.slot
        (fun d => d.updLeafSlot p.page p.index (LeafSlot.filled l))).setBuffer i
          { b.buffer i with leaf := some l }).startProgram k i l) := by
  cases hb : (b.bank k).blank with
  | nil => exact Or.inl ⟨Or.inl rfl, Body.startReplace_none (Or.inl hb)⟩
  | cons l rest =>
    cases hp : (b.buffer i).place with
    | none => exact Or.inl ⟨Or.inr rfl, Body.startReplace_none (Or.inr hp)⟩
    | some p =>
      refine Or.inr ⟨l, rest, p, rfl, rfl, ?_⟩
      have hbuf : (((b.popBlank k).setLeaf l ⟨.blank, some p, some i⟩).updDoc p.slot
          (fun d => d.updLeafSlot p.page p.index (LeafSlot.filled l))).buffer i = b.buffer i := by
        unfold Body.buffer
        rw [Body.updDoc_buffers]
        rfl
      rw [← hbuf]
      unfold Body.startReplace
      rw [hb, hp]
      rfl

theorem Body.startProgram_bank (i l j : Nat) : (b.startProgram k i l).bank j =
    if j = k then { b.bank k with op := .program i l ((b.programming i l).headerFor i) } else b.bank j :=
  Body.setBank_bank (b.programming i l) k _ j

theorem Body.startReplace_otherBank (i : Nat) {j : Nat} (hj : j ≠ k) : (b.startReplace k i).bank j = b.bank j := by
  rcases Body.startReplace_cases (b := b) (k := k) i with ⟨_, h⟩ | ⟨l, rest, p, _, _, h⟩
  · rw [h]
  · rw [h, Body.startProgram_bank, if_neg hj, Body.setBuffer_bank]
    unfold Body.bank
    rw [Body.updDoc_banks]
    exact (Body.setBank_bank b k _ j).trans (if_neg hj)

/-- An operation's start leaves the other banks alone. -/
theorem Body.startWork_otherBank (w : Work) {j : Nat} (hj : j ≠ k) : (b.startWork k w).bank j = b.bank j := by
  cases w with
  | program i l => exact (Body.startProgram_bank i l j).trans (if_neg hj)
  | replace i => exact Body.startReplace_otherBank i hj
  | fetch i => exact (Body.setBank_bank ..).trans (if_neg hj)
  | voidMark n page index l => exact (Body.startVoidMark_bank ..).trans (if_neg hj)
  | erase l => exact (Body.setBank_bank (b.setLeaf l ⟨.erasing, none, none⟩) k _ j).trans (if_neg hj)

theorem firstChoice_mem {l : List (Option Work)} {w : Work} (h : firstChoice l = some w) : some w ∈ l := by
  induction l with
  | nil => cases h
  | cons o l ih =>
    have hstep : firstChoice (o :: l) = (o <|> firstChoice l) := rfl
    rw [hstep] at h
    cases o with
    | some v => exact h ▸ List.mem_cons_self
    | none => exact List.mem_cons_of_mem _ (ih h)

/-- Where a choice comes from: the ready list, or while RUNNING a queue of the bank or the purge list. -/
theorem Body.choose_source {part : PartState} {floor : Nat} {w : Work} (h : b.choose part floor k = some w) :
    (∃ i ∈ b.ready, b.worksAs k i w) ∨ (part = .running ∧
      ((∃ l rest, (b.bank k).eraseQueue = l :: rest ∧ w = .erase l) ∨
        (∃ i rest, (b.bank k).fetchQueue = i :: rest ∧ w = .fetch i) ∨ ∃ n ∈ b.purges, b.voidsAs k n w)) := by
  have hprogram : ∀ {u}, b.programWork k u = some w → ∃ i ∈ b.ready, b.worksAs k i w := fun hu => by
    obtain ⟨before, i, after, hr, _, hi, _⟩ := Body.programWork_eq_some.1 hu
    exact ⟨i, by rw [hr]; exact List.mem_append_right _ List.mem_cons_self, hi⟩
  have hvoid : b.voidWork k = some w → ∃ n ∈ b.purges, b.voidsAs k n w := fun hv => by
    obtain ⟨before, n, after, hr, hn, _⟩ := Body.voidWork_eq_some.1 hv
    exact ⟨n, by rw [hr]; exact List.mem_append_right _ List.mem_cons_self, hn⟩
  rw [Body.choose_eq] at h
  have hmem := firstChoice_mem h
  cases part with
  | running =>
    simp only [Body.choices, List.mem_cons, List.not_mem_nil, or_false] at hmem
    rcases hmem with h | h | h | h | h | h | h
    · exact Or.inl (hprogram h.symm)
    · split_ifs at h
      exact Or.inr ⟨rfl, Or.inl (Body.eraseWork_eq_some.1 h.symm)⟩
    · exact Or.inr ⟨rfl, Or.inr (Or.inl (Body.fetchWork_eq_some.1 h.symm))⟩
    · exact Or.inl (hprogram h.symm)
    · exact Or.inr ⟨rfl, Or.inr (Or.inr (hvoid h.symm))⟩
    · exact Or.inl (hprogram h.symm)
    · exact Or.inr ⟨rfl, Or.inl (Body.eraseWork_eq_some.1 h.symm)⟩
  | powerFail =>
    simp only [Body.choices, List.mem_cons, List.not_mem_nil, or_false] at hmem
    rcases hmem with h | h | h <;> exact Or.inl (hprogram h.symm)
  | off => cases hmem
  | starting => cases hmem
  | rebuilding => cases hmem

/-- The program a bank has started is a READY buffer's, or a replacement that lacked its place or its leaf. -/
theorem Body.startWork_program {i : Nat} {w : Work} (h : b.worksAs k i w) :
    (b.startWork k w = b ∧ (b.buffer i).place = none) ∨
      ∃ l header, ((b.startWork k w).bank k).op = .program i l header := by
  rcases h.2 with ⟨l, _, _, rfl⟩ | ⟨_, ha, rfl⟩
  · exact Or.inr ⟨l, _, by rw [show b.startWork k (.program i l) = b.startProgram k i l from rfl,
      Body.startProgram_bank, if_pos rfl]⟩
  · rcases Body.startReplace_cases (b := b) (k := k) i with ⟨hno, h⟩ | ⟨l, rest, p, _, _, h⟩
    · exact Or.inl ⟨h, hno.resolve_left (Body.allocationBank_blank ha)⟩
    · exact Or.inr ⟨l, _, by rw [show b.startWork k (.replace i) = b.startReplace k i from rfl, h,
        Body.startProgram_bank, if_pos rfl]⟩

/-- An operation's start makes its bank busy. -/
theorem Body.startWork_busy {part : PartState} {floor : Nat} {w : Work} (hp : b.readyPlaced)
    (hw : b.choose part floor k = some w) : ((b.startWork k w).bank k).op ≠ .none := by
  rcases Body.choose_source hw with ⟨i, _, hi⟩ | ⟨_, ⟨l, _, _, rfl⟩ | ⟨i, _, _, rfl⟩ | ⟨n, _, d, p, x, l, _, _, _, _, rfl⟩⟩
  · rcases Body.startWork_program hi with ⟨_, hno⟩ | ⟨l, header, hop⟩
    · exact absurd hno (hp i hi.1)
    · rw [hop]; exact nofun
  · rw [show (b.startWork k (.erase l)).bank k = _ from
      (Body.setBank_bank (b.setLeaf l ⟨.erasing, none, none⟩) k _ k).trans (if_pos rfl)]
    exact nofun
  · rw [show (b.startWork k (.fetch i)).bank k = _ from (Body.setBank_bank b k _ k).trans (if_pos rfl)]
    exact nofun
  · rw [show (b.startWork k (.voidMark n p x l)).bank k = _ from (Body.startVoidMark_bank ..).trans (if_pos rfl)]
    exact nofun

end

/-! ### What a start does to the READY buffers -/

/-- Every READY buffer was READY before, at the same place. -/
def Body.ReadyFrom (b u : Body) : Prop :=
  ∀ j, (u.buffer j).state = .ready → (b.buffer j).state = .ready ∧ (u.buffer j).place = (b.buffer j).place

theorem Body.ReadyFrom.of_buffers {b u : Body} (h : ∀ j, u.buffer j = b.buffer j) : b.ReadyFrom u :=
  fun j hj => ⟨by rw [← h]; exact hj, by rw [h]⟩

theorem Body.ReadyFrom.trans {b c u : Body} (h : b.ReadyFrom c) (hu : c.ReadyFrom u) : b.ReadyFrom u := fun j hj =>
  ⟨(h j (hu j hj).1).1, (hu j hj).2.trans (h j (hu j hj).1).2⟩

theorem Body.ReadyFrom.freeing (b : Body) (l : List Nat) : b.ReadyFrom (b.freeing l) := fun j hj => by
  rw [Body.freeing_buffer] at hj ⊢
  by_cases hl : j ∈ l
  · rw [if_pos hl] at hj; cases hj
  · rw [if_neg hl] at hj ⊢
    exact ⟨hj, rfl⟩

theorem Body.ReadyFrom.setBuffer {b : Body} {i : Nat} {v : Buffer}
    (h : v.state = .ready → (b.buffer i).state = .ready ∧ v.place = (b.buffer i).place) :
    b.ReadyFrom (b.setBuffer i v) := fun j hj => by
  rw [Body.setBuffer_buffer] at hj ⊢
  split_ifs at hj ⊢ with hji
  · subst hji; exact h hj
  · exact ⟨hj, rfl⟩

theorem Body.ReadyFrom.advancePurge (b : Body) (n : Nat) : b.ReadyFrom (b.advancePurge n) := by
  cases hd : b.doc n with
  | none => rw [Body.advancePurge_none hd]; exact .of_buffers fun _ => rfl
  | some d =>
    rw [Body.advancePurge_frees hd]
    exact .freeing b _

theorem Body.ReadyFrom.dropWindow (b : Body) (l : Nat) : b.ReadyFrom (b.dropWindow l) := by
  cases hw : b.windowOf l with
  | none => rw [Body.dropWindow_none hw]; exact .of_buffers fun _ => rfl
  | some i =>
    by_cases hs : (b.buffer i).state = .window
    · rw [Body.dropWindow_frees hw hs]
      exact .freeing b [i]
    · rw [Body.dropWindow_discards hw hs]
      exact .setBuffer fun h => ⟨h, rfl⟩

theorem Body.ReadyFrom.releaseSlot (b : Body) (n page index : Nat) : b.ReadyFrom (b.releaseSlot n page index) := by
  rw [Body.releaseSlot_eq]
  exact .freeing b _

theorem Body.ReadyFrom.startProgram (b : Body) (k i l : Nat) : b.ReadyFrom (b.startProgram k i l) := by
  have h : (b.setLeaf l { b.leaf l with state := .programming }).ReadyFrom (b.programming i l) :=
    .setBuffer fun hs => by cases hs
  exact h

theorem Body.ReadyFrom.startWork (b : Body) (k : Nat) (w : Work) : b.ReadyFrom (b.startWork k w) := by
  cases w with
  | program i l => exact .startProgram b k i l
  | replace i =>
    rcases Body.startReplace_cases (b := b) (k := k) i with ⟨_, h⟩ | ⟨l, rest, p, _, _, h⟩
    · rw [show b.startWork k (.replace i) = b.startReplace k i from rfl, h]
      exact .of_buffers fun _ => rfl
    · rw [show b.startWork k (.replace i) = b.startReplace k i from rfl, h]
      refine .trans ?_ (.startProgram _ k i l)
      have hbuf : ∀ j, (((b.popBlank k).setLeaf l ⟨.blank, some p, some i⟩).updDoc p.slot
          (fun d => d.updLeafSlot p.page p.index (LeafSlot.filled l))).buffer j = b.buffer j := fun j => by
        unfold Body.buffer
        rw [Body.updDoc_buffers]
        rfl
      refine (Body.ReadyFrom.of_buffers hbuf).trans (.setBuffer fun h => ?_)
      rw [hbuf]
      exact ⟨h, rfl⟩
  | fetch i => exact .of_buffers fun _ => rfl
  | voidMark n page index l =>
    rw [show b.startWork k (.voidMark n page index l) = _ from Body.startVoidMark_eq b k n page index l]
    refine .trans ?_ (.advancePurge _ n)
    refine .trans ?_ (.dropWindow _ l)
    exact Body.ReadyFrom.releaseSlot ((b.setLeaf l ⟨.voiding, none, none⟩).setOp k (.voidMark l)) n page index
  | erase l => exact .of_buffers fun _ => rfl

theorem Body.readyPlaced_startWork {b : Body} (h : b.readyPlaced) (k : Nat) (w : Work) :
    (b.startWork k w).readyPlaced := fun j hj => by
  obtain ⟨hr, hp⟩ := Body.ReadyFrom.startWork b k w j hj
  rw [hp]
  exact h j hr

/-! ### Until none has work -/

/-- The idle banks. -/
def Body.idleBanks (b : Body) : Finset Nat := (Finset.range 4).filter (fun k => (b.bank k).op = .none)

theorem Body.idleBanks_startWork {b : Body} {part : PartState} {floor k : Nat} {w : Work} (hp : b.readyPlaced)
    (hk : k < 4) (hidle : (b.bank k).op = .none) (hw : b.choose part floor k = some w) :
    (b.startWork k w).idleBanks.card < b.idleBanks.card := by
  refine Finset.card_lt_card (Finset.ssubset_iff_subset_ne.2 ⟨fun j hj => ?_, fun heq => ?_⟩)
  · obtain ⟨hlt, hop⟩ := Finset.mem_filter.1 hj
    have hjk : j ≠ k := by
      rintro rfl
      exact Body.startWork_busy hp hw hop
    rw [Body.startWork_otherBank w hjk] at hop
    exact Finset.mem_filter.2 ⟨hlt, hop⟩
  · have hmem : k ∈ (b.startWork k w).idleBanks := by
      rw [heq]
      exact Finset.mem_filter.2 ⟨Finset.mem_range.2 hk, hidle⟩
    exact Body.startWork_busy hp hw (Finset.mem_filter.1 hmem).2

/-- Each round makes an idle bank busy, so as many rounds as idle banks are enough. -/
theorem Body.arbitrateFor_done {part : PartState} {floor fuel : Nat} {b : Body} (hp : b.readyPlaced)
    (h : b.idleBanks.card ≤ fuel) : (Body.arbitrateFor part floor fuel b).waitingBanks part floor = [] := by
  induction fuel generalizing b with
  | zero =>
    refine List.eq_nil_iff_forall_not_mem.2 fun k hk => ?_
    obtain ⟨hlt, hop, _⟩ := Body.mem_waitingBanks.1 hk
    have hmem : k ∈ b.idleBanks := Finset.mem_filter.2 ⟨Finset.mem_range.2 hlt, hop⟩
    rw [Finset.card_eq_zero.1 (Nat.le_zero.1 h)] at hmem
    exact absurd hmem (Finset.notMem_empty k)
  | succ fuel ih =>
    rcases Body.arbitrateFor_succ part floor fuel b with ⟨hnone, heq⟩ | ⟨c, k, w, hc, hlt, hidle, hw, heq⟩
    · rw [heq]; exact hnone
    · have hpc : c.readyPlaced := by rcases hc with rfl | rfl <;> exact hp
      have hci : (c.bank k).op = .none := by rcases hc with rfl | rfl <;> exact hidle
      have hcard : c.idleBanks.card ≤ fuel + 1 := by rcases hc with rfl | rfl <;> exact h
      rw [heq]
      refine ih (Body.readyPlaced_startWork hpc k w) ?_
      have := Body.idleBanks_startWork hpc hlt hci hw
      omega

theorem Body.idleBanks_card (b : Body) : b.idleBanks.card ≤ 4 :=
  (Finset.card_filter_le ..).trans (by rw [Finset.card_range])

/-- Nothing starts while the part does not work (R88). -/
theorem Body.arbitrate_resting (b : Body) (floor : Nat) {part : PartState} (h1 : part ≠ .running)
    (h2 : part ≠ .powerFail) : b.arbitrate part floor = b := by
  rcases Body.arbitrateFor_succ part floor 3 b with ⟨_, heq⟩ | ⟨c, k, w, _, _, _, hw, _⟩
  · exact heq
  · rw [Body.choose_eq] at hw
    cases part with
    | running => exact absurd rfl h1
    | powerFail => exact absurd rfl h2
    | off => cases hw
    | starting => cases hw
    | rebuilding => cases hw

/-- Settles O53. -/
theorem idleBanksChooseUntilNoneHasWork : Obligations.IdleBanksChooseUntilNoneHasWork := by
  intro s hready
  have hp : s.body.readyPlaced := hready
  refine ⟨fun k hk hop => ?_, fun k hop => ?_, fun k hpart => ?_, fun h1 h2 => ?_, rfl⟩
  · have hdone := Body.arbitrateFor_done (part := s.recovery.part) (floor := s.tables.floor) hp s.body.idleBanks_card
    by_contra hw
    obtain ⟨w, hw⟩ := Option.ne_none_iff_exists'.1 hw
    have hmem : k ∈ (s.body.arbitrate s.recovery.part s.tables.floor).waitingBanks s.recovery.part s.tables.floor :=
      Body.mem_waitingBanks.2 ⟨hk, hop, w, hw⟩
    rw [show s.body.arbitrate s.recovery.part s.tables.floor =
      Body.arbitrateFor s.recovery.part s.tables.floor 4 s.body from rfl, hdone] at hmem
    cases hmem
  · refine Body.arbitrate_keeps (P := fun c => (c.bank k).op = (s.body.bank k).op) (fun b h => h)
      (fun b j w h _ hidle _ => ?_) rfl
    have hjk : k ≠ j := by
      rintro rfl
      exact hop (h.symm.trans hidle)
    rw [Body.startWork_otherBank w hjk]
    exact h
  · refine Body.arbitrate_keeps (P := fun c => (c.bank k).op = (s.body.bank k).op ∨
      ∃ i l header, (c.bank k).op = .program i l header) (fun b h => h) (fun b j w h _ _ hw => ?_) (Or.inl rfl)
    by_cases hjk : k = j
    · subst hjk
      rcases Body.choose_source hw with ⟨i, _, hi⟩ | ⟨hrun, _⟩
      · rcases Body.startWork_program hi with ⟨hsame, _⟩ | ⟨l, header, hop⟩
        · rw [hsame]; exact h
        · exact Or.inr ⟨i, l, header, hop⟩
      · rw [hpart] at hrun; cases hrun
    · rw [Body.startWork_otherBank w hjk]
      exact h
  · unfold State.arbitrate
    rw [Body.arbitrate_resting s.body s.tables.floor h1 h2]

end Sys2Proof.Machine
end

section
/-! BUS RESET (R39, R62, R79, R176, R178). -/

namespace Sys2Proof.Machine

/-! ### The windows at a bus reset -/

theorem Body.resetWindow_frees {b : Body} {i : Nat} (h : (b.buffer i).state = .window) :
    b.resetWindow i = b.releaseBuffer i := if_pos h

theorem Body.resetWindow_discards {b : Body} {i : Nat} (h : (b.buffer i).state ≠ .window) :
    b.resetWindow i = b.setBuffer i { b.buffer i with discard := true } := if_neg h

/-- Windows released one after another (R79). -/
def Body.resetWindows (b : Body) (l : List Nat) : Body := l.foldl Body.resetWindow b

/-- Buffer `i` stands in the list and is a WINDOW, so it is freed. -/
def Body.freedBy (b : Body) (l : List Nat) (i : Nat) : Prop := i ∈ l ∧ (b.buffer i).state = .window

section
variable (b : Body) (i : Nat) (l : List Nat)

theorem Body.resetWindows_cons : b.resetWindows (i :: l) = (b.resetWindow i).resetWindows l := rfl

theorem Body.resetWindow_otherBuffer {j : Nat} (hj : j ≠ i) : (b.resetWindow i).buffer j = b.buffer j := by
  by_cases h : (b.buffer i).state = .window
  · rw [Body.resetWindow_frees h, Body.releaseBuffer_buffer, if_neg hj]
  · rw [Body.resetWindow_discards h, Body.setBuffer_buffer, if_neg hj]

/-- Which buffers are freed, after the first of the list is dealt with. -/
theorem Body.freedBy_cons (j : Nat) : b.freedBy (i :: l) j ↔
    (j = i ∧ (b.buffer i).state = .window) ∨ (b.resetWindow i).freedBy l j := by
  unfold Body.freedBy
  by_cases hj : j = i
  · subst hj
    by_cases h : (b.buffer j).state = .window
    · simp [h]
    · rw [Body.resetWindow_discards h, Body.setBuffer_buffer, if_pos rfl]
      simp [h]
  · rw [Body.resetWindow_otherBuffer b i hj]
    simp [hj]

theorem Body.resetWindow_windows : (b.resetWindow i).windows =
    b.windows.filter (fun j => ¬ (j = i ∧ (b.buffer i).state = .window)) := by
  by_cases h : (b.buffer i).state = .window
  · rw [Body.resetWindow_frees h, Body.releaseBuffer_windows]
    simp [h]
  · rw [Body.resetWindow_discards h]
    simp [h]

theorem Body.resetWindow_ready : (b.resetWindow i).ready =
    b.ready.filter (fun j => ¬ (j = i ∧ (b.buffer i).state = .window)) := by
  by_cases h : (b.buffer i).state = .window
  · rw [Body.resetWindow_frees h, Body.releaseBuffer_ready]
    simp [h]
  · rw [Body.resetWindow_discards h]
    simp [h]

end

section
variable {b : Body} {l : List Nat}

open Classical in
theorem Body.resetWindows_windows (b : Body) (l : List Nat) :
    (b.resetWindows l).windows = b.windows.filter (fun i => ¬ b.freedBy l i) := by
  induction l generalizing b with
  | nil => simp [Body.resetWindows, Body.freedBy]
  | cons i l ih =>
    rw [Body.resetWindows_cons, ih, Body.resetWindow_windows, List.filter_filter]
    refine List.filter_congr fun j _ => ?_
    rw [← Bool.decide_and, decide_eq_decide, Body.freedBy_cons]
    tauto

open Classical in
theorem Body.resetWindows_ready (b : Body) (l : List Nat) :
    (b.resetWindows l).ready = b.ready.filter (fun i => ¬ b.freedBy l i) := by
  induction l generalizing b with
  | nil => simp [Body.resetWindows, Body.freedBy]
  | cons i l ih =>
    rw [Body.resetWindows_cons, ih, Body.resetWindow_ready, List.filter_filter]
    refine List.filter_congr fun j _ => ?_
    rw [← Bool.decide_and, decide_eq_decide, Body.freedBy_cons]
    tauto

theorem Body.resetWindow_session (b : Body) (i k : Nat) : (b.resetWindow i).session k = { b.session k with
    queue := (b.session k).queue.filter (fun j => ¬ (j = i ∧ (b.buffer i).state = .window ∧
      (b.buffer j).holder = some (.session k))) } := by
  by_cases h : (b.buffer i).state = .window
  · rw [Body.resetWindow_frees h, Body.releaseBuffer_session]
    simp [h]
  · rw [Body.resetWindow_discards h]
    simp [h]

open Classical in
theorem Body.resetWindows_session (b : Body) (l : List Nat) (k : Nat) : (b.resetWindows l).session k =
    { b.session k with queue := (b.session k).queue.filter (fun i =>
      ¬ (b.freedBy l i ∧ (b.buffer i).holder = some (.session k))) } := by
  induction l generalizing b with
  | nil => simp [Body.resetWindows, Body.freedBy]
  | cons i l ih =>
    rw [Body.resetWindows_cons, ih, Body.resetWindow_session]
    dsimp only
    rw [List.filter_filter]
    congr 1
    refine List.filter_congr fun j _ => ?_
    rw [← Bool.decide_and, decide_eq_decide, Body.freedBy_cons]
    by_cases hj : j = i
    · subst hj
      by_cases h : (b.buffer j).state = .window
      · have hfree : ¬ (b.resetWindow j).freedBy l j := by
          rw [Body.resetWindow_frees h]
          unfold Body.freedBy
          rw [Body.releaseBuffer_buffer, if_pos rfl]
          exact fun hf => by cases hf.2
        simp [h, hfree]
      · have hheld : ((b.resetWindow j).buffer j).holder = (b.buffer j).holder := by
          rw [Body.resetWindow_discards h, Body.setBuffer_buffer, if_pos rfl]
        simp [h, hheld]
    · rw [Body.resetWindow_otherBuffer b i hj]
      simp [hj]

theorem Body.resetWindows_unlisted (b : Body) {i : Nat} (h : i ∉ l) : (b.resetWindows l).buffer i = b.buffer i := by
  induction l generalizing b with
  | nil => rfl
  | cons j l ih =>
    rw [List.mem_cons, not_or] at h
    rw [Body.resetWindows_cons, ih _ h.2, Body.resetWindow_otherBuffer b j h.1]

theorem Body.resetWindows_listed (b : Body) {i : Nat} (h : l.count i = 1) :
    (b.resetWindows l).buffer i = (b.resetWindow i).buffer i := by
  induction l generalizing b with
  | nil => cases h
  | cons j l ih =>
    rw [Body.resetWindows_cons]
    by_cases hj : j = i
    · subst hj
      rw [List.count_cons_self] at h
      exact Body.resetWindows_unlisted _ (List.count_eq_zero.1 (by omega))
    · rw [List.count_cons_of_ne hj] at h
      have hbuf := Body.resetWindow_otherBuffer b j (Ne.symm hj)
      rw [ih _ h]
      by_cases hw : (b.buffer i).state = .window
      · rw [Body.resetWindow_frees hw, Body.resetWindow_frees (by rw [hbuf]; exact hw), Body.releaseBuffer_buffer,
          Body.releaseBuffer_buffer, if_pos rfl, if_pos rfl]
      · rw [Body.resetWindow_discards hw, Body.resetWindow_discards (by rw [hbuf]; exact hw), Body.setBuffer_buffer,
          Body.setBuffer_buffer, if_pos rfl, if_pos rfl, hbuf]

theorem Body.resetWindows_sessions (b : Body) (h : ∀ i, b.freedBy l i → ∀ k, (b.buffer i).holder ≠ some (.session k)) :
    (b.resetWindows l).sessions = b.sessions := by
  induction l generalizing b with
  | nil => rfl
  | cons i l ih =>
    have hstep : (b.resetWindow i).sessions = b.sessions := by
      by_cases hw : (b.buffer i).state = .window
      · rw [Body.resetWindow_frees hw, Body.releaseBuffer_unheld (h i ⟨List.mem_cons_self, hw⟩)]
      · rw [Body.resetWindow_discards hw]; rfl
    rw [Body.resetWindows_cons, ih, hstep]
    intro j hj k hk
    have hfreed : b.freedBy (i :: l) j := (Body.freedBy_cons ..).2 (Or.inr hj)
    by_cases hji : j = i
    · subst hji
      have hw := hfreed.2
      rw [Body.resetWindow_frees hw, Body.releaseBuffer_buffer, if_pos rfl] at hk
      cases hk
    · rw [Body.resetWindow_otherBuffer b i hji] at hk
      exact h j hfreed k hk

theorem Body.resetWindows_frame (b : Body) (l : List Nat) : b.resetWindows l = { b with
    buffers := (b.resetWindows l).buffers, windows := (b.resetWindows l).windows, ready := (b.resetWindows l).ready,
    sessions := (b.resetWindows l).sessions } := by
  induction l generalizing b with
  | nil => rfl
  | cons i l ih =>
    rw [Body.resetWindows_cons, ih]
    unfold Body.resetWindow
    split_ifs
    · apply Body.eq_of_fields
      all_goals first | rfl | simp
    · rfl

end

/-! ### Attention and the transaction -/

theorem Body.callObliged_attends (b : Body) (x : Nat) :
    b.callObliged.attends x = (b.attends x || b.documents.any (fun d => d.2.obliges x)) := by
  unfold Body.callObliged
  rw [foldl_callAttention_attends, List.any_flatMap]
  congr 2
  funext e
  rw [List.any_map]
  rfl

theorem Body.callObliged_frame (b : Body) : b.callObliged = { b with attention := b.callObliged.attention } :=
  foldl_callAttention_eq ..

theorem State.endTransaction_ended (s : State) : TransactionEnded s s.endTransaction := by
  refine ⟨?others, fun h => ?silent, fun m hm => ?cut⟩
  case others =>
    unfold State.endTransaction
    cases s.txn <;> rfl
  case silent =>
    unfold State.endTransaction
    cases ht : s.txn with
    | sending m => exact absurd ht (h m)
    | _ => exact ⟨rfl, rfl⟩
  case cut =>
    unfold State.endTransaction
    rw [hm]
    refine ⟨rfl, ?_⟩
    dsimp only
    unfold Sent.cutShort
    split_ifs with h
    · exact Or.inr ⟨_, h, rfl⟩
    · exact Or.inl rfl

theorem Body.busReset_eq (t : Tables) (tb : Timebase) (b : Body) : b.busReset t tb =
    ((b.closeSessions t tb (List.range 32) .busReset).resetWindows b.windows).callObliged := by
  unfold Body.busReset
  dsimp only
  rw [Body.closeSessions_windows]
  rfl

theorem execBusReset_working {s : State} (words : List Word) (hr : s.resetHeld = false)
    (hp : s.recovery.part = .running ∨ s.recovery.part = .powerFail) : exec (.busReset words) s =
      .next (State.arbitrate { s.endTransaction with
        body := (s.body.settleCut s.txn words).busReset s.tables s.time, resetHeld := true }) := by
  dsimp only [exec]
  unfold execBusReset
  dsimp only
  rw [if_neg (by simp [hr])]
  have hbody : ({ s.endTransaction with resetHeld := true } : State).withBody
      (fun b => (b.settleCut s.txn words).busReset s.tables s.time) = { s.endTransaction with
        body := (s.body.settleCut s.txn words).busReset s.tables s.time, resetHeld := true } := by
    unfold State.withBody
    dsimp only
    rw [State.endTransaction_body]
  rw [← hbody]
  rcases hp with hp | hp <;> rw [hp]

/-- What a bus reset makes of the windows and of attention, after the sessions are closed (R39, R79). -/
theorem Body.busReset_facts {t : Tables} {tb : Timebase} {b e : Body}
    (he : b.closeSessions t tb (List.range 32) .busReset = e) :
    (b.busReset t tb).buffers = (e.resetWindows b.windows).buffers ∧
      (b.busReset t tb).sessions = (e.resetWindows b.windows).sessions ∧
      (b.busReset t tb).windows =
        b.windows.filter (fun i => !decide (i ∈ b.windows ∧ (e.buffer i).state = .window)) ∧
      (b.busReset t tb).ready = e.ready.filter (fun i => !decide (i ∈ b.windows ∧ (e.buffer i).state = .window)) ∧
      (∀ k, (b.busReset t tb).session k = { e.session k with
        queue := (e.session k).queue.filter (fun i =>
          ¬ (i ∈ b.windows ∧ (e.buffer i).state = .window ∧ (e.buffer i).holder = some (.session k))) }) ∧
      (∀ y, (b.busReset t tb).attends y = (b.attends y || (b.busReset t tb).documents.any (fun d => d.2.obliges y))) ∧
      b.busReset t tb = { e with
        buffers := (b.busReset t tb).buffers, windows := (b.busReset t tb).windows, ready := (b.busReset t tb).ready,
        sessions := (b.busReset t tb).sessions, attention := (b.busReset t tb).attention } := by
  have hwindows : e.windows = b.windows := by rw [← he, Body.closeSessions_windows]
  have hattends : ∀ y, e.attends y = b.attends y := fun y => by
    unfold Body.attends
    rw [← he, Body.closeSessions_attention]
  have hfreed : ∀ i, e.freedBy b.windows i ↔ i ∈ b.windows ∧ (e.buffer i).state = .window := fun i => Iff.rfl
  have hwin : (e.resetWindows b.windows).windows =
      b.windows.filter (fun i => !decide (i ∈ b.windows ∧ (e.buffer i).state = .window)) := by
    rw [Body.resetWindows_windows, hwindows]
    exact List.filter_congr fun i _ => by simp only [hfreed, decide_not]
  have hready : (e.resetWindows b.windows).ready =
      e.ready.filter (fun i => !decide (i ∈ b.windows ∧ (e.buffer i).state = .window)) := by
    rw [Body.resetWindows_ready]
    exact List.filter_congr fun i _ => by simp only [hfreed, decide_not]
  have hses : ∀ k, (e.resetWindows b.windows).session k = { e.session k with
      queue := (e.session k).queue.filter (fun i =>
        ¬ (i ∈ b.windows ∧ (e.buffer i).state = .window ∧ (e.buffer i).holder = some (.session k))) } := fun k => by
    rw [Body.resetWindows_session]
    simp only [hfreed, and_assoc]
  have hreset := Body.resetWindows_frame e b.windows
  rw [Body.busReset_eq, he]
  generalize e.resetWindows b.windows = c at hwin hready hses hreset
  have hcall := Body.callObliged_frame c
  have hatt := Body.callObliged_attends c
  generalize c.callObliged = d at hcall hatt
  have hdocs : d.documents = c.documents := by rw [hcall]; rfl
  have hattn : ∀ y, c.attends y = b.attends y := fun y => by
    rw [← hattends]
    unfold Body.attends
    rw [hreset]
  refine ⟨by rw [hcall], by rw [hcall], by rw [hcall]; exact hwin, by rw [hcall]; exact hready,
    fun k => by rw [hcall]; exact hses k, fun y => by rw [hatt, hattn, hdocs], ?_⟩
  rw [hcall, hreset]

/-- Settles O54. -/
theorem busResetEndsTheTransaction : Obligations.BusResetEndsTheTransaction := by
  intro s words
  refine ⟨rfl, fun hr => ?repeated, fun hr hp => ?off, fun hr hp => ?starting, ?working⟩
  case repeated =>
    dsimp only [exec, execBusReset]
    rw [if_pos hr]
    rfl
  case off =>
    dsimp only [exec, execBusReset]
    rw [if_neg (by simp [hr]), hp]
    rfl
  case starting =>
    refine ⟨s.endTransaction, s.endTransaction_ended, ?_⟩
    dsimp only [exec, execBusReset]
    rw [if_neg (by simp [hr])]
    rcases hp with hp | hp <;> rw [hp]
  case working =>
    intro b hr hp hq
    have hb : s.body.settleCut s.txn words = b := by
      simp only [b]
      unfold Body.settleCut
      cases s.txn <;> rfl
    have hclosed : ClosedAll s.tables s.time b (b.closeSessions s.tables s.time (List.range 32) .busReset)
        (List.range 32) .busReset := Body.closeSessions_closedAll List.nodup_range fun k _ => hq k
    have hexec := execBusReset_working words hr hp
    rw [hb] at hexec
    generalize hedef : b.closeSessions s.tables s.time (List.range 32) .busReset = e at hclosed
    obtain ⟨hbuffers, hsessions, hwindows, hready, hsession, hattends, hframe⟩ := Body.busReset_facts hedef
    have hbuf : ∀ i, (b.busReset s.tables s.time).buffer i = (e.resetWindows b.windows).buffer i := fun i => by
      unfold Body.buffer; rw [hbuffers]
    have hmem : ∀ i, i ∈ (b.busReset s.tables s.time).windows ↔ i ∈ b.windows ∧ (e.buffer i).state ≠ .window := fun i => by
      rw [hwindows, List.mem_filter]
      refine and_congr_right fun hi => ?_
      simp [hi]
    generalize b.busReset s.tables s.time = r at hexec hbuffers hsessions hwindows hready hsession hattends hframe hbuf hmem
    refine ⟨{ s.endTransaction with body := r, resetHeld := true }, s.endTransaction, e, hexec,
      s.endTransaction_ended, hclosed, fun i hc hs => ⟨?_, fun hi => ((hmem i).1 hi).2 hs⟩, fun i hc hs => ⟨?_, ?_⟩,
      fun i hi => ⟨?_, fun hw => hi ((hmem i).1 hw).1⟩, fun k hk => ?_, ⟨hwindows, hready, fun hno => ⟨?_, ?_⟩⟩,
      hsession, hattends, hframe, rfl⟩
    · dsimp only
      rw [hbuf, Body.resetWindows_listed e hc, Body.resetWindow_frees hs, Body.releaseBuffer_buffer, if_pos rfl]
      rfl
    · dsimp only
      rw [hbuf, Body.resetWindows_listed e hc, Body.resetWindow_discards hs, Body.setBuffer_buffer, if_pos rfl]
    · exact (hmem i).2 ⟨List.count_pos_iff.1 (by omega), hs⟩
    · exact (hbuf i).trans (Body.resetWindows_unlisted e hi)
    · dsimp only
      rw [hsession]
      by_cases hidle : (b.session k).state = .idle
      · rw [hclosed.otherSessions k (Or.inr hidle)]
        exact hidle
      · rw [hclosed.sessions k (List.mem_range.2 hk) hidle]
    · dsimp only
      rw [hready, List.filter_eq_self]
      intro i hi
      rw [Bool.not_eq_true', decide_eq_false_iff_not]
      exact fun hf => (hno i (decide_eq_true hf)).1 hi
    · dsimp only
      rw [hsessions]
      exact Body.resetWindows_sessions e fun i hf => (hno i (decide_eq_true hf)).2

end Sys2Proof.Machine
end

section
/-! Loss and return of main power, and the header scan (R98, R101, R161 to R164, R167). -/

namespace Sys2Proof.Machine

/-! ### What a loss of main power leaves in the array -/

/-- The leaf an operation writes. -/
def BankOp.writes : BankOp → Option Nat
  | .program _ l _ | .voidMark l | .erase l => some l
  | .none | .fetch _ => Option.none

theorem Flash.cutOff_spareOf {f : Flash} {op : BankOp} {l : Nat} (h : op.writes ≠ some l) :
    (f.cutOff op).spareOf l = f.spareOf l := by
  cases op with
  | none => rfl
  | fetch i => rfl
  | program i m header => exact Flash.leaves_spareOf.trans (if_neg fun hl => h (by rw [hl]; rfl))
  | voidMark m => exact Flash.leavesSpare_spareOf.trans (if_neg fun hl => h (by rw [hl]; rfl))
  | erase m => exact Flash.leaves_spareOf.trans (if_neg fun hl => h (by rw [hl]; rfl))

theorem Flash.cutOff_data {f : Flash} {op : BankOp} {l a : Nat} (h : op.writes ≠ some l) (h1 : l * 4096 ≤ a)
    (h2 : a < l * 4096 + 4096) : Memory.read (f.cutOff op).data a = Memory.read f.data a := by
  have hout : ∀ m, op.writes = some m → a < m * 4096 ∨ m * 4096 + 4096 ≤ a := fun m hm => by
    have : m ≠ l := fun hml => h (hml ▸ hm)
    omega
  cases op with
  | none => rfl
  | fetch i => rfl
  | program i m header => exact Flash.leaves_outside (hout m rfl)
  | voidMark m => rfl
  | erase m => exact Flash.leaves_outside (hout m rfl)

theorem Flash.cutOff_limits (f : Flash) (op : BankOp) (l : Nat) :
    (∀ i header, op = .program i l header → ((f.cutOff op).spareOf l).classOf = .erased ∨
      ((f.cutOff op).spareOf l).classOf = .unreadable ∨ (f.cutOff op).spareOf l = ⟨header, 0xFFFF#16⟩) ∧
    (op = .voidMark l → ((f.cutOff op).spareOf l).header = (f.spareOf l).header) ∧
    (op = .erase l → ((f.cutOff op).spareOf l).classOf = .erased ∨
      ((f.cutOff op).spareOf l).classOf = .unreadable ∨ (f.cutOff op).spareOf l = f.spareOf l) := by
  have hlimited : ∀ v : Spare, let w := limitedSpare LeafClass.blankOrUnreadable (freeSpare f.draws) v
      w.classOf = .erased ∨ w.classOf = .unreadable ∨ w = v := fun v => by
    rcases limitedSpare_cases LeafClass.blankOrUnreadable (freeSpare f.draws) v with h | h
    · exact (LeafClass.blankOrUnreadable_iff.1 h).imp_right Or.inl
    · exact Or.inr (Or.inr h)
  refine ⟨?program, ?void, ?erase⟩
  case program =>
    rintro i header rfl
    have hspare : (f.cutOff (.program i l header)).spareOf l = _ := Flash.leaves_spareOf.trans (if_pos rfl)
    rw [hspare]
    exact hlimited _
  case void =>
    rintro rfl
    have hspare : (f.cutOff (.voidMark l)).spareOf l = _ := Flash.leavesSpare_spareOf.trans (if_pos rfl)
    rw [hspare]
  case erase =>
    rintro rfl
    have hspare : (f.cutOff (.erase l)).spareOf l = _ := Flash.leaves_spareOf.trans (if_pos rfl)
    rw [hspare]
    exact hlimited _

/-- The array after the operations of some banks are cut off. -/
def Flash.cutOffs (f : Flash) (b : Body) (ks : List Nat) : Flash := ks.foldl (fun f k => f.cutOff (b.bank k).op) f

section
variable {b : Body} {l : Nat} {ks : List Nat}

theorem Flash.cutOffs_untouched (f : Flash) (h : ∀ k ∈ ks, (b.bank k).op.writes ≠ some l) :
    (f.cutOffs b ks).spareOf l = f.spareOf l ∧
      ∀ a, l * 4096 ≤ a → a < l * 4096 + 4096 → Memory.read (f.cutOffs b ks).data a = Memory.read f.data a := by
  induction ks generalizing f with
  | nil => exact ⟨rfl, fun _ _ _ => rfl⟩
  | cons k ks ih =>
    obtain ⟨hspare, hdata⟩ := ih (f.cutOff (b.bank k).op) fun j hj => h j (List.mem_cons_of_mem _ hj)
    have hk := h k List.mem_cons_self
    exact ⟨hspare.trans (Flash.cutOff_spareOf hk), fun a h1 h2 => (hdata a h1 h2).trans (Flash.cutOff_data hk h1 h2)⟩

/-- Where one bank alone writes a leaf, its spare area is as that operation's cut leaves it. -/
theorem Flash.cutOffs_spareOf (f : Flash) {k : Nat} (hk : k ∈ ks) (hnd : ks.Nodup)
    (h : ∀ j ∈ ks, j ≠ k → (b.bank j).op.writes ≠ some l) :
    ∃ g : Flash, g.spareOf l = f.spareOf l ∧ (f.cutOffs b ks).spareOf l = (g.cutOff (b.bank k).op).spareOf l := by
  obtain ⟨before, after, rfl⟩ := List.append_of_mem hk
  obtain ⟨_, hnd', hdisj⟩ := List.nodup_append.1 hnd
  have hbefore := Flash.cutOffs_untouched f (ks := before) (b := b) (l := l) fun j hj =>
    h j (List.mem_append_left _ hj) fun hjk => hdisj j hj k List.mem_cons_self hjk
  have hafter := Flash.cutOffs_untouched ((f.cutOffs b before).cutOff (b.bank k).op) (ks := after) (b := b) (l := l)
    fun j hj => h j (List.mem_append_right _ (List.mem_cons_of_mem _ hj)) fun hjk =>
      (List.nodup_cons.1 hnd').1 (hjk ▸ hj)
  refine ⟨f.cutOffs b before, hbefore.1, ?_⟩
  rw [← hafter.1]
  unfold Flash.cutOffs
  rw [List.foldl_append, List.foldl_cons]

end

/-! ### The ordinary memory -/

theorem foldl_setBank_bank (g : Bank → Bank) (n : Nat) (b : Body) (k : Nat) :
    ((List.range n).foldl (fun acc k => acc.setBank k (g (acc.bank k))) b).bank k =
      if k < n then g (b.bank k) else b.bank k := by
  induction n with
  | zero => simp
  | succ n ih =>
    rw [List.range_succ, List.foldl_append, List.foldl_cons, List.foldl_nil, Body.setBank_bank]
    by_cases hk : k = n
    · subst hk
      rw [if_pos rfl, if_pos (Nat.lt_succ_self k), ih, if_neg (Nat.lt_irrefl k)]
    · have hlt : k < n + 1 ↔ k < n := by omega
      simp only [if_neg hk, ih, hlt]

theorem foldl_setBank_frame (g : Bank → Bank) (ks : List Nat) (b : Body) :
    ks.foldl (fun acc k => acc.setBank k (g (acc.bank k))) b =
      { b with banks := (ks.foldl (fun acc k => acc.setBank k (g (acc.bank k))) b).banks } := by
  induction ks generalizing b with
  | nil => rfl
  | cons k ks ih => rw [List.foldl_cons, ih]; rfl

theorem foldl_setSession_session (g : Session → Session) (n : Nat) (b : Body) (k : Nat) :
    ((List.range n).foldl (fun acc k => acc.setSession k (g (acc.session k))) b).session k =
      if k < n then g (b.session k) else b.session k := by
  induction n with
  | zero => simp
  | succ n ih =>
    rw [List.range_succ, List.foldl_append, List.foldl_cons, List.foldl_nil, Body.setSession_session]
    by_cases hk : k = n
    · subst hk
      rw [if_pos rfl, if_pos (Nat.lt_succ_self k), ih, if_neg (Nat.lt_irrefl k)]
    · have hlt : k < n + 1 ↔ k < n := by omega
      simp only [if_neg hk, ih, hlt]

theorem foldl_setSession_frame (g : Session → Session) (ks : List Nat) (b : Body) :
    ks.foldl (fun acc k => acc.setSession k (g (acc.session k))) b =
      { b with sessions := (ks.foldl (fun acc k => acc.setSession k (g (acc.session k))) b).sessions } := by
  induction ks generalizing b with
  | nil => rfl
  | cons k ks ih => rw [List.foldl_cons, ih]; rfl

/-- The banks and sessions of a body after a loss of main power (R163). -/
def Body.cutBanks (b : Body) (ks : List Nat) : Body := ks.foldl (fun acc k => acc.setBank k (acc.bank k).cutOff) b
def Body.cutQueues (b : Body) (ks : List Nat) : Body :=
  ks.foldl (fun acc k => acc.setSession k { acc.session k with queue := [] }) b

theorem Body.cutBanks_congr {b c : Body} (ks : List Nat) (h : b.banks = c.banks) :
    (b.cutBanks ks).banks = (c.cutBanks ks).banks := by
  induction ks generalizing b c with
  | nil => exact h
  | cons k ks ih => exact ih (by simp only [Body.setBank, Body.bank, h])

theorem Body.cutQueues_congr {b c : Body} (ks : List Nat) (h : b.sessions = c.sessions) :
    (b.cutQueues ks).sessions = (c.cutQueues ks).sessions := by
  induction ks generalizing b c with
  | nil => exact h
  | cons k ks ih => exact ih (by simp only [Body.setSession, Body.session, h])

theorem Body.cutQueues_cutBanks (b : Body) (ks js : List Nat) :
    (({ b with buffers := [], ready := [], windows := [] } : Body).cutBanks ks).cutQueues js = { b with
      buffers := [], ready := [], windows := [], banks := (b.cutBanks ks).banks, sessions := (b.cutQueues js).sessions } := by
  have hq : ∀ c : Body, c.cutQueues js = { c with sessions := (c.cutQueues js).sessions } :=
    foldl_setSession_frame (fun c => { c with queue := [] }) js
  have hb : ∀ c : Body, c.cutBanks ks = { c with banks := (c.cutBanks ks).banks } := foldl_setBank_frame Bank.cutOff ks
  rw [hq, hb, Body.cutBanks_congr ks (show ({ b with buffers := [], ready := [], windows := [] } : Body).banks = b.banks
    from rfl)]
  exact Body.eq_of_fields (Body.cutQueues_congr js rfl) rfl rfl rfl rfl rfl rfl rfl rfl rfl rfl rfl

theorem Body.loseVolatile_eq (b : Body) : b.loseVolatile = { b with
    buffers := [], ready := [], windows := [], banks := (b.cutBanks (List.range Config.banks)).banks,
    sessions := (b.cutQueues (List.range Config.sessions)).sessions } := b.cutQueues_cutBanks _ _

theorem Body.cutBanks_bank (b : Body) (n k : Nat) : (b.cutBanks (List.range n)).bank k =
    if k < n then { b.bank k with fetchQueue := [], op := .none } else b.bank k := foldl_setBank_bank Bank.cutOff n b k

theorem Body.cutQueues_session (b : Body) (n k : Nat) : (b.cutQueues (List.range n)).session k =
    if k < n then { b.session k with queue := [] } else b.session k :=
  foldl_setSession_session (fun c => { c with queue := [] }) n b k

theorem Body.bank_congr {b c : Body} (h : b.banks = c.banks) (k : Nat) : b.bank k = c.bank k := by
  unfold Body.bank; rw [h]

theorem Body.session_congr {b c : Body} (h : b.sessions = c.sessions) (k : Nat) : b.session k = c.session k := by
  unfold Body.session; rw [h]

theorem Body.loseVolatile_bank (b : Body) (k : Nat) : b.loseVolatile.bank k =
    if k < 4 then { b.bank k with fetchQueue := [], op := .none } else b.bank k :=
  (Body.bank_congr (by rw [Body.loseVolatile_eq]) k).trans (b.cutBanks_bank Config.banks k)

theorem Body.loseVolatile_session (b : Body) (k : Nat) : b.loseVolatile.session k =
    if k < 32 then { b.session k with queue := [] } else b.session k :=
  (Body.session_congr (by rw [Body.loseVolatile_eq]) k).trans (b.cutQueues_session Config.sessions k)

/-- Settles O56. -/
theorem lossOfMainPowerLosesTheOrdinaryMemory : Obligations.LossOfMainPowerLosesTheOrdinaryMemory := by
  intro s cuts
  refine ⟨fun hp => ?off, fun hp => ?_⟩
  case off =>
    dsimp only [exec, execMainPowerLoss]
    rw [if_pos hp]
    rfl
  have hexec : exec (.mainPowerLoss cuts) s = .next { s.endTransaction with
      body := s.body.loseVolatile, flash := s.flash.cutOffs s.body (List.range 4),
      recovery := { s.recovery with part := .off, mark := s.recovery.mark && !cuts } } := by
    dsimp only [exec, execMainPowerLoss]
    rw [if_neg hp]
    rfl
  have hbody := s.body.loseVolatile_eq
  refine ⟨_, s.endTransaction, hexec, s.endTransaction_ended, rfl, fun i => ?_, ?_, ?_, s.body.loseVolatile_bank,
    s.body.loseVolatile_session, ?_, rfl, fun l => ?_⟩
  · dsimp only; rw [hbody]; rfl
  · dsimp only; rw [hbody]
  · dsimp only; rw [hbody]
  · dsimp only; rw [hbody]
  · intro works
    have hworks : ∀ k, works k ↔ (s.body.bank k).op.writes = some l := fun k => by
      simp only [works]
      cases (s.body.bank k).op <;> simp [BankOp.writes]
    refine ⟨fun hno => Flash.cutOffs_untouched s.flash fun k hk hw => hno k (List.mem_range.1 hk) ((hworks k).2 hw),
      fun k hk hno => ?_⟩
    obtain ⟨g, hg, hspare⟩ := Flash.cutOffs_spareOf s.flash (l := l) (List.mem_range.2 hk) List.nodup_range
      fun j hj hjk hw => hno j (List.mem_range.1 hj) hjk ((hworks j).2 hw)
    have hlimits := Flash.cutOff_limits g (s.body.bank k).op l
    rw [hg, ← hspare] at hlimits
    exact hlimits

/-! ### The return of main power -/

/-- Settles O57. -/
theorem theMarkDecidesTheStart : Obligations.TheMarkDecidesTheStart := by
  intro s hub node hp n cold
  refine ⟨fun hm => ?warm, fun hm => ?cold, ?failure⟩
  case warm =>
    have hn : node.toNat < 32 := node.isLt
    refine ⟨s.quiet.warmBegin hub.toNat node.toNat, ?_, rfl, fun k => rfl, rfl, ?_, ?_,
      fun h => Tables.strap_same _ _ _ h, fun h => ⟨?_, ?_, fun m h1 h2 => ?_, fun d => ?_⟩,
      ?_, rfl⟩
    · dsimp only [exec, execMainPowerReturn]
      rw [if_neg (not_not.2 hp), if_pos hm]
    · exact congrArg Tables.hub (Tables.strap_others s.tables hub.toNat node.toNat)
    · exact congrArg Tables.recordsNode (Tables.strap_others s.tables hub.toNat node.toNat)
    · exact (Tables.strap_role _ _ _ hn h _).trans (if_pos rfl)
    · exact (Tables.strap_role _ _ _ hn h _).trans ((if_neg (Ne.symm h)).trans (if_pos rfl))
    · exact (Tables.strap_role _ _ _ hn h _).trans ((if_neg h1).trans (if_neg h2))
    · refine (Tables.strap_dept _ _ _ h d).trans ?_
      split_ifs <;> rfl
    · dsimp only [State.warmBegin]
      rw [Tables.strap_others]
      rfl
  case cold =>
    refine ⟨s.quiet.coldBegin hub.toNat node.toNat, ?_, rfl, rfl, rfl, rfl, rfl⟩
    dsimp only [exec, execMainPowerReturn]
    rw [if_neg (not_not.2 hp), hm]
    rfl
  case failure =>
    dsimp only [exec, execBackupSupplyFailure]
    rw [if_pos hp]
    exact ⟨_, rfl, rfl, rfl, rfl, by rw [hp], rfl⟩

/-! ### The header scan -/

section
variable {b : Body} {f : Flash} {l : Nat}

theorem Body.scanLeaf_erased (h : (f.spareOf l).classOf = .erased) : b.scanLeaf f l = b.blankLeaf l := by
  unfold Body.scanLeaf; rw [h]

theorem Body.scanLeaf_voidMarked (h : (f.spareOf l).classOf = .voidMarked) : b.scanLeaf f l = b.voidLeaf l := by
  unfold Body.scanLeaf; rw [h]

theorem Body.scanLeaf_unreadable (h : (f.spareOf l).classOf = .unreadable) :
    b.scanLeaf f l = b.setLeaf l ⟨.retired, none, none⟩ := by unfold Body.scanLeaf; rw [h]

theorem Body.scanLeaf_valid {g : LeafHeader} (h : (f.spareOf l).classOf = .valid g) : b.scanLeaf f l = b := by
  unfold Body.scanLeaf; rw [h]

theorem Body.voidLeaf_leaf (m : Nat) :
    (b.voidLeaf l).leaf m = if m = l then ⟨.void, none, none⟩ else b.leaf m :=
  Body.setLeaf_leaf b l ⟨.void, none, none⟩ m

theorem Body.blankLeaf_leaf (m : Nat) : (b.blankLeaf l).leaf m = if m = l then Leaf.blank else b.leaf m :=
  Body.setLeaf_leaf b l Leaf.blank m

theorem Body.blankLeaf_bank (k : Nat) : (b.blankLeaf l).bank k =
    { b.bank k with blank := (b.bank k).blank ++ if k = l % 4 then [l] else [] } :=
  Body.pushBlank_bank (b.setLeaf l Leaf.blank) l k

end

/-- Settles O59. -/
theorem theHeaderScanClassesEachLeaf : Obligations.TheHeaderScanClassesEachLeaf := by
  intro s hp hlt l cls
  have hexec : exec .headerScanLeafRead s = .next { s with
      body := s.body.scanLeaf s.flash l, recovery := { s.recovery with scanned := l + 1 }, sent := none } := by
    dsimp only [exec, execHeaderScanLeafRead]
    rw [if_pos ⟨hp, hlt⟩]
    rfl
  refine ⟨_, hexec, rfl, ?_⟩
  dsimp only
  cases hc : (s.flash.spareOf l).classOf with
  | erased =>
    have hcls : cls = .erased := hc
    rw [Body.scanLeaf_erased hc, hcls]
    exact ⟨fun _ => (Body.blankLeaf_leaf l).trans (if_pos rfl), nofun, nofun, nofun,
      fun m hm => (Body.blankLeaf_leaf m).trans (if_neg hm), fun k => by rw [Body.blankLeaf_bank]; simp, rfl, rfl⟩
  | voidMarked =>
    have hcls : cls = .voidMarked := hc
    rw [Body.scanLeaf_voidMarked hc, hcls]
    exact ⟨nofun, fun _ => (Body.voidLeaf_leaf l).trans (if_pos rfl), nofun, nofun,
      fun m hm => (Body.voidLeaf_leaf m).trans (if_neg hm), fun k => by rw [Body.voidLeaf_bank]; simp, rfl, rfl⟩
  | unreadable =>
    have hcls : cls = .unreadable := hc
    rw [Body.scanLeaf_unreadable hc, hcls]
    exact ⟨nofun, nofun, fun _ => (Body.setLeaf_leaf ..).trans (if_pos rfl), nofun,
      fun m hm => (Body.setLeaf_leaf ..).trans (if_neg hm), fun k => by simp, rfl, rfl⟩
  | valid g =>
    have hcls : cls = .valid g := hc
    rw [Body.scanLeaf_valid hc, hcls]
    exact ⟨nofun, nofun, nofun, fun _ _ => rfl, fun m hm => rfl, fun k => by simp, rfl, rfl⟩

end Sys2Proof.Machine
end

section
/-! Serials and hold lists: a law of the catalog's calls that the admission of a call, HOLD and UNHOLD keep, and every
change that keeps the calls, is kept by every command that is not the rebuild. -/

namespace Sys2Proof.Machine

/-- A law of the catalog's calls: kept by the changes that keep every call, by an admission, and by HOLD and UNHOLD. -/
structure CallLaw (P : Body → Prop) : Prop where
  kept : ∀ {b c}, P b → Kept b c → P c
  admitted : ∀ {b : Body} {n k : Nat} {d : Document} (deadline : Nat), P b → b.doc n = none →
    d.serial = b.nextSerial → b.nextSerial < Config.serialEnd → d.holds = [] → P (b.admitCall n k d deadline)
  held : ∀ {b : Body} {n tag : Nat} {d : Document}, P b → b.doc n = some d → 1 ≤ tag → tag ≤ 65535 →
    d.holds.length < Config.holdLimit → P (b.setDoc n { d with holds := insertRising tag d.holds })
  unheld : ∀ {b : Body} {n tag : Nat} {d : Document}, P b → b.doc n = some d →
    P (b.setDoc n { d with holds := d.holds.filter (fun t => t ≠ tag) })
  cold : ∀ b : Body, P b.coldStart

section

variable {P : Body → Prop}

/-! ### Owners -/

theorem request_body {s t : State} {h : Head} {op : Op} {formed : Role → Bool} {owner : Role → State → Taken}
    (ho : ∀ role, formed role = true → P s.body → P (owner role s.nextPacket).state.body) (hs : P s.body)
    (hr : Machine.request s h op formed owner = .next t) : P t.body := by
  rcases request_next hr with rfl | ⟨r, v, rfl⟩ | ⟨r, _, hf, _, rfl⟩
  · exact hs
  · exact hs
  · exact ho r hf hs

theorem CallLaw.requestKept (L : CallLaw P) {s t : State} {h : Head} {op : Op} {formed : Role → Bool} {owner : Role → State → Taken}
    (ho : ∀ role (u : State), Kept u.body (owner role u).state.body) (hs : P s.body)
    (hr : Machine.request s h op formed owner = .next t) : P t.body :=
  request_body (s := s) (fun role _ hp => L.kept (b := s.nextPacket.body) hp (ho role s.nextPacket)) hs hr

theorem Kept.moveDeadline (s : State) (k : Nat) : Kept s.body (s.moveDeadline k).body := by
  unfold State.moveDeadline
  split_ifs
  · exact .refl _
  · exact .setSession _ _ _

theorem CallLaw.line (L : CallLaw P) {s t : State} {h : Head} {op : Op} {formed : Role → Bool} {channel : BitVec 3}
    {owner : Nat → Session → State → Taken} (ho : ∀ k c (u : State), P u.body → P (owner k c u).state.body)
    (hs : P s.body) (hr : Machine.request s h op formed (lineOwner channel owner) = .next t) : P t.body :=
  request_body (fun role _ hp => by
    unfold lineOwner
    exact ho _ _ _ (L.kept (b := s.nextPacket.body) hp (.moveDeadline _ _))) hs hr

theorem document_body {s t : State} {h : Head} {op : Op} {formed : Role → Bool} {slot : BitVec 13}
    {generation : BitVec 8} {owner : Role → Document → State → Taken}
    (ho : ∀ role d (u : State), formed role = true → u.body.doc slot.toNat = some d → P u.body →
      P (owner role d u).state.body)
    (hs : P s.body)
    (hr : Machine.request s h op formed (fun role u => onDocument u slot generation (fun d => owner role d u)) =
      .next t) : P t.body := by
  refine request_body (fun role hf hp => ?_) hs hr
  rcases onDocument_cases s.nextPacket slot generation (fun d => owner role d s.nextPacket) with he | ⟨d, hd, he⟩
  · rw [he]; exact hp
  · rw [he]; exact ho role d _ hf hd hp

theorem Kept.act {b : Body} {s : State} (h : Kept b s.body) : Kept b s.arbitrate.body :=
  h.trans (.arbitrate _ _ _)

theorem Kept.close (s : State) (k : Nat) (e : Ending) : Kept s.body (s.close k e).body :=
  Kept.act (s := s.withBody _) (.closeSession _ _ _ _ _)

/-! ### The line requests -/

theorem Body.lowestFreeSlot_some (b : Body) {n : Nat} (h : b.lowestFreeSlot = some n) :
    n < 4096 ∧ b.doc n = none ∧ ∀ m < n, b.doc m ≠ none := by
  obtain ⟨hp, _, hlt, hmin⟩ := firstFrom_some h
  refine ⟨by simpa [Config.slots] using hlt, by simpa using hp, fun m hm hd => ?_⟩
  have := hmin m (Nat.zero_le _) hm
  simp [hd] at this

theorem CallLaw.ownOpenCall (L : CallLaw P) (ext caller : Option (List Nat)) (k : Nat) (c : Session) {s : State} (hs : P s.body) :
    P (ownOpenCall ext caller k c s).state.body := by
  unfold Machine.ownOpenCall
  split
  · exact hs
  split
  · exact hs
  rename_i hend
  split
  · exact hs
  rename_i n hn
  split
  · exact hs
  have hfree : s.body.doc n = none := (s.body.lowestFreeSlot_some hn).2.1
  exact L.admitted s.idleDeadline (d := newDocument s k ext caller) hs hfree rfl (by omega) rfl

theorem Kept.ownPageBegin (density : Density) (width : PageWidth) (coding k : Nat) (c : Session) (s : State) :
    Kept s.body (ownPageBegin density width coding k c s).state.body := by
  unfold Machine.ownPageBegin
  split
  · exact .refl _
  · exact .refl _
  · exact .refl _
  · dsimp only
    split
    · exact .refl _
    · rename_i d hd
      split
      · exact .refl _
      split
      · exact .refl _
      · exact .refl _
      · exact .refl _
      · exact .setSession _ _ _
      · split
        · exact .refl _
        · exact Kept.act (s := s.withBody _) (.beginPage hd _ _ _)

theorem Kept.cutAway (s : State) (k : Nat) (st : SessState) :
    Kept s.body (s.withBody (fun b => b.cutPage k st)).arbitrate.body :=
  Kept.trans (Kept.cutPage s.body k st) (.arbitrate _ _ _)

theorem Kept.rolledOver (s : State) (k : Nat) {n : Nat} {d : Document} (hd : s.body.doc n = some d) (i l : Nat) :
    Kept s.body (s.withBody (fun b => b.rollOver k n d i l)).arbitrate.body :=
  Kept.trans (Kept.rollOver hd i l) (.arbitrate _ _ _)

/-- The state in which the session unit leaves an APPEND's request. -/
def AppendChoice.left : AppendChoice → State
  | .away s _ => s
  | .await s _ => s

theorem Kept.ownAppend (count k : Nat) (c : Session) (s : State) : Kept s.body (ownAppend count k c s).left.body := by
  unfold Machine.ownAppend
  split
  · exact .refl _
  · exact .refl _
  · exact .refl _
  · dsimp only
    split
    · exact .refl _
    · rename_i d hd
      split
      · exact .refl _
      split
      · exact .cutAway s k .admitted
      split
      · exact .refl _
      · exact .refl _
      · exact .refl _
      · exact .cutAway s k .stopped
      · exact .rolledOver s k hd _ _

theorem Kept.append {s t : State} {h : Head} {channel : BitVec 3} {count : BitVec 9}
    (hr : execAppend h channel count s = .next t) : Kept s.body t.body := by
  unfold execAppend at hr
  split_ifs at hr
  · rw [next_eq hr]; exact .refl _
  · dsimp only at hr
    split at hr
    · rw [next_eq hr]; exact .refl _
    · generalize sessionOf (s.tables.role h.sender.toNat) channel = k at hr
      have hk := (Kept.moveDeadline s.nextPacket k).trans
        (Kept.ownAppend count.toNat k ((s.nextPacket.moveDeadline k).body.session k) (s.nextPacket.moveDeadline k))
      split at hr <;> rename_i u v ha <;> rw [ha] at hk <;> rw [next_eq hr] <;> exact hk

theorem Kept.ownPageEnd (x y k : Nat) (c : Session) (s : State) : Kept s.body (ownPageEnd x y k c s).state.body := by
  unfold Machine.ownPageEnd
  split
  · exact .refl _
  · exact .refl _
  · exact .refl _
  · exact Kept.act (s := s.withBody _) (.endPage _ _ _ _ _)

theorem Kept.ownCloseCall (e : Ending) (k : Nat) (c : Session) (s : State) :
    Kept s.body (ownCloseCall e k c s).state.body := by
  unfold Machine.ownCloseCall
  split
  · exact .refl _
  · exact .close s k e
  · exact .close s k e
  · exact .close s k .storeFull

theorem Kept.appendDataBlockEnd {s t : State} {w : List Word} (hr : execAppendDataBlockEnd w s = .next t) :
    Kept s.body t.body := by
  unfold execAppendDataBlockEnd at hr
  split at hr <;> rw [next_eq hr]
  · exact .refl _
  · exact .refl _
  · exact .refl _
  · rename_i a _
    exact Kept.act (s := { s with body := s.body.settleAppend a (arrived a.count w), txn := .none })
      (.settleAppend _ _ _)

/-! ### Delivery and duties -/

theorem Kept.readDocument (role : Role) (n : Nat) (d : Document) (page offset count : Nat) (s : State) :
    Kept s.body (readDocument role n d page offset count s).state.body := by
  unfold Machine.readDocument
  split
  · exact .refl _
  · split
    · exact .refl _
    unfold readPage
    dsimp only
    split
    · exact .openObligation _ _ _
    · exact (Kept.openObligation _ _ _).trans (.touchWindow _ _)
    · exact .refl _
    · split
      · exact Kept.act (s := s.withBody _) (.fetchInto _ _ _)
      · exact .refl _

theorem Kept.ownRelease {n : Nat} {d : Document} {s : State} (hd : s.body.doc n = some d) (accepts : Bool) (role : Role) :
    Kept s.body (ownRelease accepts role n d s).state.body := by
  unfold Machine.ownRelease
  dsimp only
  split
  · exact .refl _
  split
  · exact .refl _
  split
  · exact Kept.act (s := s.withBody _) ((Kept.accept hd _).trans (.purgeIfDue _ _ _ _))
  split_ifs
  · exact .refl _
  · exact .decline _ _ hd _

theorem Kept.ownForward {n : Nat} {d : Document} {s : State} (hd : s.body.doc n = some d) (dept : Nat) :
    Kept s.body (ownForward dept n d s).state.body := by
  unfold Machine.ownForward
  dsimp only
  split_ifs
  iterate 3 exact .refl _
  all_goals exact .forwardTo _ _ hd _

theorem CallLaw.ownHold (L : CallLaw P) {tag n : Nat} {d : Document} {s : State} (hs : P s.body) (hd : s.body.doc n = some d)
    (h1 : 1 ≤ tag) (h2 : tag ≤ 65535) : P (ownHold tag n d s).state.body := by
  unfold Machine.ownHold
  split_ifs
  · exact hs
  · exact hs
  · exact hs
  · exact L.held hs hd h1 h2 (by omega)

theorem CallLaw.ownUnhold (L : CallLaw P) {tag n : Nat} {d : Document} {s : State} (hs : P s.body) (hd : s.body.doc n = some d) :
    P (ownUnhold tag n d s).state.body := by
  unfold Machine.ownUnhold
  split
  · exact hs
  split
  · exact hs
  · exact L.kept (L.unheld (tag := tag) hs hd) (Kept.trans (Kept.purgeIfDue _ _ _ _) (.arbitrate _ _ _))

/-! ### Administration, clock and power -/

theorem Kept.setNode (s : State) (node : Nat) (role : Role) : Kept s.body (s.setNode node role).body := by
  unfold State.setNode
  dsimp only
  split_ifs
  · exact .refl _
  · exact Kept.act (s := State.withBody { s with tables := s.tables.enrol node role } _) (.closeSessions _ _ _ _ _)

theorem Kept.tick (s : State) : Kept s.body s.tick.body := by
  unfold State.tick
  dsimp only
  split_ifs
  · exact .startDuePurges _ _ _ _
  · exact .refl _

theorem Kept.setClock (s : State) (v : Nat) : Kept s.body (s.setClock v).body := by
  unfold State.setClock
  dsimp only
  split_ifs
  · exact (Kept.retainResolve _ _ _).trans (.startDuePurges _ _ _ _)
  · exact .startDuePurges _ _ _ _
  · exact .refl _

theorem Kept.busResetCommand {s t : State} {w : List Word} (hr : execBusReset w s = .next t) : Kept s.body t.body := by
  unfold execBusReset at hr
  dsimp only at hr
  split_ifs at hr
  · rw [next_eq hr]; exact .refl _
  · have hx : s.endTransaction.body = s.body := State.endTransaction_body s
    split at hr <;> rw [next_eq hr]
    · exact .refl _
    · exact .of_catalog (congrArg _ hx) (congrArg _ hx)
    · exact .of_catalog (congrArg _ hx) (congrArg _ hx)
    all_goals
      refine Kept.act (s := State.withBody { s.endTransaction with resetHeld := true } _) ?_
      dsimp only [State.withBody]
      rw [hx]
      exact (Kept.settleCut _ _ _).trans (.busReset _ _ _)

theorem Kept.reconcile (s : State) : Kept s.body s.reconcile.body := by
  unfold State.reconcile
  dsimp only
  exact ((Kept.warmLeaves s.body).trans (.truncate _)).trans (.closeReconciled _ _ _)

/-! ### Every command -/

/-- A request keeps a law of the catalog's calls. -/
theorem CallLaw.execRequest (L : CallLaw P) {c : Instr} {h : Head} {op : Op} {s t : State}
    (hq : requestOf c = some (h, op)) (hs : P s.body) (hr : Machine.exec c s = .next t) : P t.body := by
  cases c
  case openCall =>
    dsimp only [Machine.exec, execOpenCall] at hr
    exact L.line (fun k c u hu => L.ownOpenCall _ _ k c hu) hs hr
  case pageBegin =>
    dsimp only [Machine.exec, execPageBegin] at hr
    exact L.line (fun k c u hu => L.kept hu (.ownPageBegin _ _ _ k c u)) hs hr
  case append => exact L.kept hs (.append hr)
  case pageEnd =>
    dsimp only [Machine.exec, execPageEnd] at hr
    exact L.line (fun k c u hu => L.kept hu (.ownPageEnd _ _ k c u)) hs hr
  case closeCall =>
    dsimp only [Machine.exec, execCloseCall] at hr
    exact L.line (fun k c u hu => L.kept hu (.ownCloseCall _ k c u)) hs hr
  case endSession =>
    dsimp only [Machine.exec, execEndSession] at hr
    refine L.requestKept (fun role u => ?_) hs hr
    split_ifs
    · exact .refl _
    · exact .close u _ _
  case list =>
    dsimp only [Machine.exec, execList] at hr
    refine L.requestKept (fun role u => ?_) hs hr
    dsimp only
    split
    · exact .setAttention _ _ _
    · exact .refl _
  case describe =>
    dsimp only [Machine.exec, execDescribe] at hr
    refine document_body (fun role d u _ _ hu => ?_) hs hr
    split <;> exact hu
  case read =>
    dsimp only [Machine.exec, execRead] at hr
    refine document_body (fun role d u _ _ hu => ?_) hs hr
    split
    · exact hu
    · exact L.kept hu (.readDocument ..)
  case release =>
    dsimp only [Machine.exec, execRelease] at hr
    exact document_body (fun role d u _ hd hu => L.kept hu (.ownRelease hd _ role)) hs hr
  case forward =>
    dsimp only [Machine.exec, execForward] at hr
    exact document_body (fun role d u _ hd hu => L.kept hu (.ownForward hd _)) hs hr
  case hold h slot generation tag =>
    dsimp only [Machine.exec, execHold] at hr
    refine document_body (fun role d u hf hd hu => L.ownHold hu hd ?_ (by have := tag.isLt; omega)) hs hr
    simp only [Bool.and_eq_true, decide_eq_true_eq] at hf
    omega
  case unhold =>
    dsimp only [Machine.exec, execUnhold] at hr
    exact document_body (fun role d u _ hd hu => L.ownUnhold hu hd) hs hr
  case setNode =>
    dsimp only [Machine.exec, execSetNode] at hr
    refine L.requestKept (fun role u => ?_) hs hr
    unfold ownSetNode
    split
    · exact .refl _
    · exact .setNode u _ _
  case setRoute =>
    dsimp only [Machine.exec, execSetRoute] at hr
    exact L.requestKept (fun role u => .refl _) hs hr
  case clearRoute =>
    dsimp only [Machine.exec, execClearRoute] at hr
    exact L.requestKept (fun role u => .refl _) hs hr
  case setDepartment =>
    dsimp only [Machine.exec, execSetDepartment] at hr
    exact L.requestKept (fun role u => .refl _) hs hr
  case setLimits =>
    dsimp only [Machine.exec, execSetLimits] at hr
    exact L.requestKept (fun role u => .refl _) hs hr
  case setClock =>
    dsimp only [Machine.exec, execSetClock] at hr
    exact L.requestKept (fun role u => .setClock u _) hs hr
  case status =>
    dsimp only [Machine.exec, execStatus] at hr
    exact L.requestKept (fun role u => .refl _) hs hr
  case unknownOperation =>
    dsimp only [Machine.exec, execUnknownOperation] at hr
    exact L.requestKept (fun role u => .refl _) hs hr
  all_goals cases hq

theorem Kept.bankEvent {b : Body} {s : State} (f : Flash) (h : Kept s.body b) : Kept s.body (s.bankEvent b f).body :=
  h.trans (.arbitrate _ _ _)

/-- The end of a bank operation keeps every call. -/
theorem Kept.endsBankWork {c : Instr} {s t : State} (hc : Machine.endsBankWork c = true)
    (hr : Machine.exec c s = .next t) : Kept s.body t.body := by
  cases c
  case programComplete =>
    dsimp only [Machine.exec, execProgramComplete] at hr
    split at hr <;> cases hr
    exact .bankEvent _ (.programDone _ _ _ _)
  case programFail =>
    dsimp only [Machine.exec, execProgramFail] at hr
    split at hr <;> cases hr
    exact .bankEvent _ (.programLost _ _ _ _)
  case fetchComplete =>
    dsimp only [Machine.exec, execFetchComplete] at hr
    split at hr <;> cases hr
    exact .bankEvent _ (.fetchDone _ _ _ _)
  case voidMarkEnd =>
    dsimp only [Machine.exec, execVoidMarkEnd] at hr
    split at hr <;> cases hr
    exact .bankEvent _ (Kept.trans (b := s.body.setOp _ .none) (.of_catalog rfl rfl) (.voidLeaf _ _))
  case eraseEnd =>
    dsimp only [Machine.exec, execEraseEnd] at hr
    split at hr <;> cases hr
    split_ifs
    · exact .bankEvent _ (.eraseDone _ _ _)
    · exact .bankEvent _ (.eraseLost _ _ _)
  all_goals cases hc

/-- An event other than the rebuild keeps every call, or leaves the backed-up memory at its cold start. -/
theorem Kept.execEvent {c : Instr} {s t : State} (hq : requestOf c = none) (hc : c ≠ .rebuildComplete)
    (hr : Machine.exec c s = .next t) : Kept s.body t.body ∨ t.body = s.body.coldStart := by
  cases c
  case appendDataBlockEnd => exact .inl (.appendDataBlockEnd hr)
  case idleExpiry =>
    dsimp only [Machine.exec, execIdleExpiry] at hr
    split_ifs at hr
    rw [next_eq hr]
    exact .inl (.close s.quiet _ _)
  case broadcastSetClock =>
    dsimp only [Machine.exec, execBroadcastSetClock] at hr
    split_ifs at hr <;> rw [next_eq hr]
    · exact .inl (.setClock s.nextPacket _)
    · exact .inl (.refl _)
  case tick =>
    dsimp only [Machine.exec, execTick] at hr
    split_ifs at hr <;> rw [next_eq hr]
    · exact .inl (.tick s.quiet)
    · exact .inl (.refl _)
  case escalation =>
    dsimp only [Machine.exec, execEscalation] at hr
    split_ifs at hr
    rw [next_eq hr]
    exact .inl (.escalate _ _ _ _ _)
  case retentionDue =>
    dsimp only [Machine.exec, execRetentionDue] at hr
    split_ifs at hr <;> rw [next_eq hr]
    · exact .inl (Kept.trans (.startPurge _ _) (.arbitrate _ _ _))
    · exact .inl (.refl _)
  case busReset => exact .inl (.busResetCommand hr)
  case busResetWithdrawn => rw [next_eq hr]; exact .inl (.refl _)
  case powerFailWarning => rw [next_eq hr]; exact .inl (.refl _)
  case powerFailWithdrawn =>
    dsimp only [Machine.exec, execPowerFailWithdrawn] at hr
    split_ifs at hr <;> rw [next_eq hr]
    · exact .inl (.resume { s.quiet with recovery := { s.recovery with pfw := false, part := .running } })
    · exact .inl (.refl _)
  case mainPowerLoss =>
    rcases execMainPowerLoss_next hr with ⟨_, rfl⟩ | ⟨_, rfl⟩
    · exact .inl (.refl _)
    · exact .inl (.loseVolatile _)
  case mainPowerReturn =>
    obtain ⟨_, ⟨_, rfl⟩ | ⟨_, rfl⟩⟩ := execMainPowerReturn_next hr
    · exact .inl (.of_catalog rfl rfl)
    · exact .inr rfl
  case backupSupplyFailure => rw [(execBackupSupplyFailure_next hr).2]; exact .inr rfl
  case warmStartComplete =>
    rw [(execWarmStartComplete_next hr).2]
    exact .inl ((Kept.reconcile s.quiet).trans (.resume _))
  case rebuildComplete => exact absurd rfl hc
  case headerScanLeafRead => rw [(execHeaderScanLeafRead_next hr).2.2]; exact .inl (.scanLeaf _ _ _)
  case programComplete | programFail | fetchComplete | voidMarkEnd | eraseEnd => exact .inl (.endsBankWork rfl hr)
  all_goals cases hq

theorem CallLaw.execEvent (L : CallLaw P) {c : Instr} {s t : State} (hq : requestOf c = none)
    (hc : c ≠ .rebuildComplete) (hs : P s.body) (hr : Machine.exec c s = .next t) : P t.body := by
  rcases Kept.execEvent hq hc hr with h | h
  · exact L.kept hs h
  · rw [h]; exact L.cold _

/-- A law of the catalog's calls is kept by every command but the rebuild. -/
theorem CallLaw.exec (L : CallLaw P) {c : Instr} {s t : State} (hc : c ≠ .rebuildComplete) (hs : P s.body)
    (hr : Machine.exec c s = .next t) : P t.body := by
  cases hq : requestOf c
  case none => exact L.execEvent hq hc hs hr
  case some p => exact L.execRequest hq hs hr

end

end Sys2Proof.Machine
end

section
/-! Hold lists and generations stay in range: HOLD and UNHOLD keep a list of at most four rising tags, and a generation
advances from 255 to 0. -/

namespace Sys2Proof.Machine

/-! ### Rising lists -/

theorem insertRising_pairwise (n : Nat) {l : List Nat} (h : l.Pairwise (· < ·)) : (insertRising n l).Pairwise (· < ·) := by
  induction l with
  | nil => simp [insertRising]
  | cons k t ih =>
    obtain ⟨hk, ht⟩ := List.pairwise_cons.mp h
    unfold insertRising
    split_ifs with hlt heq
    · refine List.pairwise_cons.mpr ⟨fun x hx => ?_, h⟩
      rcases List.mem_cons.mp hx with rfl | hx
      · exact hlt
      · exact hlt.trans (hk x hx)
    · exact h
    · refine List.pairwise_cons.mpr ⟨fun x hx => ?_, ih ht⟩
      rcases (mem_insertRising n x t).mp hx with rfl | hx
      · omega
      · exact hk x hx

theorem foldl_insertRising_pairwise (l : List Nat) {acc : List Nat} (h : acc.Pairwise (· < ·)) :
    (l.foldl (fun acc n => insertRising n acc) acc).Pairwise (· < ·) := by
  induction l generalizing acc with
  | nil => exact h
  | cons n l ih => exact ih (insertRising_pairwise n h)

theorem insertRising_length_le (n : Nat) (l : List Nat) : (insertRising n l).length ≤ l.length + 1 := by
  induction l with
  | nil => simp [insertRising]
  | cons k t ih =>
    unfold insertRising
    split_ifs <;> simp only [List.length_cons] <;> omega

theorem holdsLawful_nil : holdsLawful [] := ⟨Nat.zero_le _, List.Pairwise.nil, nofun⟩

theorem holdsLawful_insertRising {tags : List Nat} {tag : Nat} (h : holdsLawful tags) (h1 : 1 ≤ tag) (h2 : tag ≤ 65535)
    (hl : tags.length < Config.holdLimit) : holdsLawful (insertRising tag tags) := by
  obtain ⟨_, hp, hr⟩ := h
  refine ⟨(insertRising_length_le tag tags).trans hl, insertRising_pairwise tag hp, fun t ht => ?_⟩
  rcases (mem_insertRising tag t tags).mp ht with rfl | ht
  · exact ⟨h1, h2⟩
  · exact hr t ht

theorem holdsLawful_filter {tags : List Nat} (h : holdsLawful tags) (p : Nat → Bool) : holdsLawful (tags.filter p) := by
  obtain ⟨hl, hp, hr⟩ := h
  exact ⟨(List.length_filter_le p tags).trans hl, hp.filter p, fun t ht => hr t (List.mem_filter.mp ht).1⟩

/-! ### The law of a body -/

/-- What a call admitted leaves in the catalog (R47). -/
theorem Body.admitCall_slot (b : Body) (n k : Nat) (d : Document) (deadline m : Nat) :
    (b.admitCall n k d deadline).slot m = if m = n then { b.slot n with doc := some d } else b.slot m := by
  rw [Body.admitCall_eq]
  exact Table.read_write Slot.free b.catalog n m _

theorem Body.admitCall_doc (b : Body) (n k : Nat) (d : Document) (deadline m : Nat) :
    (b.admitCall n k d deadline).doc m = if m = n then some d else b.doc m := by
  unfold Body.doc
  rw [Body.admitCall_slot]
  split_ifs <;> rfl

@[simp] theorem Body.admitCall_nextSerial (b : Body) (n k : Nat) (d : Document) (deadline : Nat) :
    (b.admitCall n k d deadline).nextSerial = b.nextSerial + 1 := by
  rw [Body.admitCall_eq]

@[simp] theorem Body.coldStart_slot (b : Body) (n : Nat) : b.coldStart.slot n = ⟨0, none⟩ := rfl

@[simp] theorem Body.coldStart_doc (b : Body) (n : Nat) : b.coldStart.doc n = none := rfl

theorem Body.setDoc_generation (b : Body) (n : Nat) (d : Document) (m : Nat) :
    ((b.setDoc n d).slot m).generation = (b.slot m).generation := by
  rw [Body.setDoc_slot]
  split_ifs with h
  · rw [h]
  · rfl

/-- Storing a document whose hold list is lawful. -/
theorem Body.holdsLawful_setDoc {b : Body} (h : b.holdsLawful) (n : Nat) {d : Document} (hd : Machine.holdsLawful d.holds) :
    (b.setDoc n d).holdsLawful := by
  refine ⟨fun m e he => ?_, fun m => (b.setDoc_generation n d m) ▸ h.2 m⟩
  rw [Body.setDoc_doc] at he
  split_ifs at he
  · cases he; exact hd
  · exact h.1 m e he

theorem callLaw_holds : CallLaw Body.holdsLawful where
  kept := by
    rintro b c ⟨hdocs, hgen⟩ hk
    refine ⟨fun n e he => ?_, fun n => hk.generation n (hgen n)⟩
    obtain ⟨d, hd, hde⟩ := hk.doc n e he
    exact hde.holds ▸ hdocs n d hd
  admitted := by
    rintro b n k d deadline ⟨hdocs, hgen⟩ _ _ _ hholds
    refine ⟨fun m e he => ?_, fun m => ?_⟩
    · rw [Body.admitCall_doc] at he
      split_ifs at he
      · cases he; rw [hholds]; exact holdsLawful_nil
      · exact hdocs m e he
    · rw [Body.admitCall_slot]
      split_ifs
      · exact hgen n
      · exact hgen m
  held := fun h hd h1 h2 hl => Body.holdsLawful_setDoc h _ (holdsLawful_insertRising (h.1 _ _ hd) h1 h2 hl)
  unheld := fun h hd => Body.holdsLawful_setDoc h _ (holdsLawful_filter (h.1 _ _ hd) _)
  cold := fun b => ⟨fun n e he => by simp at he, fun n => by simp⟩

/-! ### The rebuild -/

/-- A rebuilt document enters the catalog and takes its leaves; nothing else changes (R169). -/
theorem Body.enterRebuilt_eq (b : Body) (g : Group) (n : Nat) :
    b.enterRebuilt (g, n) = { b with
      catalog := Table.write Slot.free b.catalog n ⟨0, some (rebuiltDocument g)⟩
      leaves := (b.enterRebuilt (g, n)).leaves } := by
  have hkeep : ∀ (l : List (Nat × Place)) (c : Body),
      l.foldl (fun acc e => acc.setLeaf e.1 ⟨.programmed, some e.2, none⟩) c = { c with
        leaves := (l.foldl (fun acc e => acc.setLeaf e.1 ⟨.programmed, some e.2, none⟩) c).leaves } := by
    intro l
    induction l with
    | nil => exact fun _ => rfl
    | cons e l ih => intro c; rw [List.foldl_cons, ih]; rfl
  unfold Body.enterRebuilt
  dsimp only
  rw [hkeep]
  rfl

/-- The rebuilt documents entered one after another, from a slot on (R169). -/
def Body.entered (b : Body) (groups : List Group) (first : Nat) : Body :=
  (groups.zipIdx first).foldl Body.enterRebuilt b

theorem Body.entered_cons (b : Body) (g : Group) (groups : List Group) (first : Nat) :
    b.entered (g :: groups) first = (b.enterRebuilt (g, first)).entered groups (first + 1) := rfl

theorem Body.enterRebuilt_slot (b : Body) (g : Group) (n m : Nat) :
    (b.enterRebuilt (g, n)).slot m = if m = n then ⟨0, some (rebuiltDocument g)⟩ else b.slot m := by
  have h : (b.enterRebuilt (g, n)).slot m = (b.setSlot n ⟨0, some (rebuiltDocument g)⟩).slot m :=
    slot_congr (congrArg Body.catalog (b.enterRebuilt_eq g n)) m
  rw [h, Body.setSlot_slot]

/-- A slot after the rebuilt documents have entered: the document of its group, or as it was. -/
theorem Body.entered_slot (b : Body) (groups : List Group) (first m : Nat) :
    (b.entered groups first).slot m =
      if first ≤ m then
        (groups[m - first]?.map (fun g => (⟨0, some (rebuiltDocument g)⟩ : Slot))).getD (b.slot m)
      else b.slot m := by
  induction groups generalizing b first with
  | nil => simp [Body.entered]
  | cons g groups ih =>
    rw [Body.entered_cons, ih, Body.enterRebuilt_slot]
    rcases lt_trichotomy m first with h | rfl | h
    · rw [if_neg (by omega), if_neg (by omega), if_neg (by omega)]
    · simp
    · rw [if_pos (by omega), if_neg (by omega), if_pos h.le,
        show m - first = (m - (first + 1)) + 1 by omega, List.getElem?_cons_succ]

/-- The rebuild from the groups that are kept and the leaves that are dropped (R169). -/
def Body.rebuiltFrom (b : Body) (groups : List Group) (dropped : List Nat) : Body :=
  let b1 := (dropped.foldl Body.voidLeaf (b.entered groups 0)).setAccount 0 (keptLeaves groups).length
  { (if groups.isEmpty then b1 else b1.callAttention 0) with
    nextSerial := (groups.getLast?.map (fun g => g.1 + 1)).getD 1 }

theorem Body.rebuild_eq (b : Body) (found : List Found) :
    b.rebuild found = b.rebuiltFrom (groupsOf found) (droppedFound found (groupsOf found)) := by
  unfold Body.rebuild Body.rebuiltFrom Body.entered
  generalize groupsOf found = groups
  dsimp only

theorem Body.rebuiltFrom_catalog (b : Body) (groups : List Group) (dropped : List Nat) :
    (b.rebuiltFrom groups dropped).catalog = (b.entered groups 0).catalog := by
  have hvoid : (dropped.foldl Body.voidLeaf (b.entered groups 0)).catalog = (b.entered groups 0).catalog :=
    foldl_keeps (fun c : Body => c.catalog) Body.voidLeaf (fun _ _ => rfl) dropped _
  unfold Body.rebuiltFrom
  dsimp only
  split_ifs <;> exact hvoid

theorem Body.rebuild_slot (b : Body) (found : List Found) (n : Nat) :
    (b.rebuild found).slot n =
      ((groupsOf found)[n]?.map (fun g => (⟨0, some (rebuiltDocument g)⟩ : Slot))).getD (b.slot n) := by
  rw [Body.rebuild_eq]
  generalize groupsOf found = groups
  rw [slot_congr (b.rebuiltFrom_catalog groups _), Body.entered_slot, if_pos (Nat.zero_le n), Nat.sub_zero]

theorem Body.doc_of_slot {b c : Body} {n : Nat} {o : Option Group}
    (h : c.slot n = (o.map (fun g => (⟨0, some (rebuiltDocument g)⟩ : Slot))).getD (b.slot n)) :
    c.doc n = (o.map rebuiltDocument).or (b.doc n) := by
  unfold Body.doc
  rw [h]
  cases o <;> rfl

/-- The documents of a rebuilt catalog: those of the groups, and what stood beyond them. -/
theorem Body.rebuild_doc (b : Body) (found : List Found) (n : Nat) :
    (b.rebuild found).doc n = ((groupsOf found)[n]?.map rebuiltDocument).or (b.doc n) :=
  Body.doc_of_slot (b.rebuild_slot found n)

theorem Body.rebuild_nextSerial (b : Body) (found : List Found) :
    (b.rebuild found).nextSerial = ((groupsOf found).getLast?.map (fun g => g.1 + 1)).getD 1 := by
  rw [Body.rebuild_eq]
  generalize groupsOf found = groups
  rfl

theorem Body.holdsLawful_rebuild {b : Body} (h : b.holdsLawful) (found : List Found) : (b.rebuild found).holdsLawful := by
  obtain ⟨hdocs, hgen⟩ := h
  refine ⟨fun n d hd => ?_, fun n => ?_⟩
  · rw [Body.rebuild_doc] at hd
    cases hg : (groupsOf found)[n]? with
    | none => rw [hg] at hd; exact hdocs n d hd
    | some g => rw [hg] at hd; cases hd; exact holdsLawful_nil
  · rw [Body.rebuild_slot]
    cases (groupsOf found)[n]? with
    | none => exact hgen n
    | some g => show 0 < 256; omega

/-- The rest of the scan keeps every call. -/
theorem Kept.scanRest (f : Flash) (l : List Nat) (b : Body) : Kept b (l.foldl (Body.scanLeaf f) b) :=
  Kept.foldl (Kept.scanLeaf f) l b

/-- Settles O11: the law of hold lists and generations is one of the catalog's calls, and rebuilt documents bear no hold. -/
theorem everyStepKeepsHoldsAndGenerationsInRange : Obligations.EveryStepKeepsHoldsAndGenerationsInRange := by
  intro s t
  refine step_preserves (P := fun s => s.body.holdsLawful) (fun _ _ h => h) (fun c s t hs hr => ?_)
  by_cases hc : c = .rebuildComplete
  · subst hc
    rw [(execRebuildComplete_next hr).2]
    refine callLaw_holds.kept ?_ (.resume _)
    exact Body.holdsLawful_rebuild (callLaw_holds.kept hs (.scanRest _ _ _)) _
  · exact callLaw_holds.exec hc hs hr

end Sys2Proof.Machine
end

section
/-! Serials stay distinct and below the next serial: an admission takes the next serial, and the rebuild takes the
serials of the headers in rising order. -/

namespace Sys2Proof.Machine

/-! ### What the header scan reads of serials (R167, R168, R184) -/

/-- The ranges that a valid header keeps (R184). -/
theorem readHeader_serial {words : List Word} {h : LeafHeader} (hh : readHeader words = some h) :
    1 ≤ h.serial ∧ h.serial < 4294967296 := by
  have hlt : numberOf ((wordBits words).take 32) < 4294967296 :=
    (numberOf_lt _).trans_le (Nat.pow_le_pow_right (by omega) (List.length_take_le 32 _))
  unfold readHeader at hh
  dsimp only at hh
  simp only [readFields, headerWidths] at hh
  split_ifs at hh with _ _ hrange
  all_goals
    revert hh
    split <;> intro hh <;> cases hh <;> exact ⟨hrange.1, hlt⟩

theorem Spare.classOf_valid {v : Spare} {h : LeafHeader} (hv : v.classOf = .valid h) : readHeader v.header = some h := by
  unfold Spare.classOf at hv
  split at hv
  · cases hv
  split at hv
  · rename_i g hg
    split at hv
    · cases hv
    · cases hv; exact hg
  · cases hv

/-- The valid leaves of the array are the listed ones whose spare area reads as valid. -/
theorem Flash.mem_valid {f : Flash} {e : Found} :
    e ∈ f.valid ↔ ∃ v, (e.1, v) ∈ f.spare ∧ v.classOf = .valid e.2 := by
  unfold Flash.valid
  rw [List.mem_filterMap]
  constructor
  · rintro ⟨⟨l, v⟩, hm, hv⟩
    dsimp only at hv
    split at hv
    · rename_i h hc
      cases hv
      exact ⟨v, hm, hc⟩
    all_goals cases hv
  · rintro ⟨v, hm, hv⟩
    refine ⟨(e.1, v), hm, ?_⟩
    dsimp only
    split
    · rename_i h hc
      rw [hv] at hc
      cases hc
      rfl
    all_goals simp_all

theorem Flash.valid_serial {f : Flash} {e : Found} (he : e ∈ f.valid) : 1 ≤ e.2.serial ∧ e.2.serial < 4294967296 := by
  obtain ⟨v, _, hv⟩ := Flash.mem_valid.mp he
  exact readHeader_serial (Spare.classOf_valid hv)

theorem mem_serialsOf {found : List Found} {n : Nat} : n ∈ serialsOf found ↔ ∃ e ∈ found, e.2.serial = n := by
  unfold serialsOf
  rw [mem_foldl_insertRising]
  simp

/-- The groups that the rebuild keeps stand in rising serial order (R169). -/
theorem groupsOf_pairwise (found : List Found) : (groupsOf found).Pairwise (fun g h => g.1 < h.1) := by
  unfold groupsOf
  refine List.Pairwise.sublist (List.drop_sublist _ _) (List.Pairwise.filter _ ?_)
  exact List.pairwise_map.mpr (foldl_insertRising_pairwise _ List.Pairwise.nil)

theorem mem_groupsOf {found : List Found} {g : Group} (hg : g ∈ groupsOf found) :
    (∃ e ∈ found, e.2.serial = g.1) ∧ g.2 = rebuildGroup found g.1 ∧ g.2 ≠ [] := by
  unfold groupsOf at hg
  obtain ⟨hm, hne⟩ := List.mem_filter.mp (List.mem_of_mem_drop hg)
  obtain ⟨n, hn, rfl⟩ := List.mem_map.mp hm
  exact ⟨mem_serialsOf.mp hn, rfl, by simpa using hne⟩

/-- Serials along a list of groups in rising order. -/
theorem pairwise_getElem? {groups : List Group} (h : groups.Pairwise (fun g k => g.1 < k.1)) {n m : Nat} {g k : Group}
    (hn : groups[n]? = some g) (hm : groups[m]? = some k) (hlt : n < m) : g.1 < k.1 := by
  obtain ⟨hn', rfl⟩ := List.getElem?_eq_some_iff.mp hn
  obtain ⟨hm', rfl⟩ := List.getElem?_eq_some_iff.mp hm
  exact List.pairwise_iff_getElem.mp h n m hn' hm' hlt

theorem le_getLast_of_pairwise {groups : List Group} (h : groups.Pairwise (fun g k => g.1 < k.1)) {last : Group}
    (hl : groups.getLast? = some last) {g : Group} (hg : g ∈ groups) : g.1 ≤ last.1 := by
  obtain ⟨n, hn⟩ := List.mem_iff_getElem?.mp hg
  rw [List.getLast?_eq_getElem?] at hl
  have hlen : n < groups.length := (List.getElem?_eq_some_iff.mp hn).1
  rcases Nat.lt_or_ge n (groups.length - 1) with hlt | hge
  · exact (pairwise_getElem? h hn hl hlt).le
  · rw [show n = groups.length - 1 by omega, hl] at hn
    cases hn
    exact le_refl _

/-! ### The law of a body -/

theorem Body.serialsLawful_kept {b c : Body} (h : b.serialsLawful) (hk : Kept b c) : c.serialsLawful := by
  obtain ⟨h1, h2, hdocs, hinj⟩ := h
  refine ⟨hk.nextSerial ▸ h1, hk.nextSerial ▸ h2, fun n e he => ?_, fun n m e f he hf hef => ?_⟩
  · obtain ⟨d, hd, hde⟩ := hk.doc n e he
    rw [hde.serial, hk.nextSerial]
    exact hdocs n d hd
  · obtain ⟨d, hd, hde⟩ := hk.doc n e he
    obtain ⟨g, hg, hgf⟩ := hk.doc m f hf
    exact hinj n m d g hd hg (by rw [← hde.serial, ← hgf.serial, hef])

/-- A document stored under its own serial. -/
theorem Body.serialsLawful_setDoc {b : Body} (h : b.serialsLawful) {n : Nat} {d e : Document} (hd : b.doc n = some d)
    (hs : e.serial = d.serial) : (b.setDoc n e).serialsLawful := by
  obtain ⟨h1, h2, hdocs, hinj⟩ := h
  have hfrom : ∀ m f, (b.setDoc n e).doc m = some f → ∃ g, b.doc m = some g ∧ f.serial = g.serial := by
    intro m f hf
    rw [Body.setDoc_doc] at hf
    split_ifs at hf with hm
    · cases hf; exact ⟨d, hm ▸ hd, hs⟩
    · exact ⟨f, hf, rfl⟩
  refine ⟨h1, h2, fun m f hf => ?_, fun m k f g hf hg hfg => ?_⟩
  · obtain ⟨g, hg, hfg⟩ := hfrom m f hf
    rw [hfg]
    exact hdocs m g hg
  · obtain ⟨f', hf', hff⟩ := hfrom m f hf
    obtain ⟨g', hg', hgg⟩ := hfrom k g hg
    exact hinj m k f' g' hf' hg' (by rw [← hff, ← hgg, hfg])

theorem callLaw_serials : CallLaw Body.serialsLawful where
  kept := Body.serialsLawful_kept
  admitted := by
    rintro b n k d deadline ⟨h1, h2, hdocs, hinj⟩ hfree hserial hend _
    have hend' : b.nextSerial < 4294967296 := hend
    have hbelow : ∀ m f, b.doc m = some f → f.serial ≠ d.serial := fun m f hf => by
      have := (hdocs m f hf).2
      omega
    refine ⟨by simp, by rw [Body.admitCall_nextSerial]; exact hend, fun m f hf => ?_, fun m j f g hf hg hfg => ?_⟩
    · rw [Body.admitCall_doc] at hf
      rw [Body.admitCall_nextSerial]
      split_ifs at hf
      · cases hf; omega
      · have := hdocs m f hf; omega
    · rw [Body.admitCall_doc] at hf hg
      split_ifs at hf hg with hm hj hj
      · rw [hm, hj]
      · cases hf; exact absurd hfg.symm (hbelow j g hg)
      · cases hg; exact absurd hfg (hbelow m f hf)
      · exact hinj m j f g hf hg hfg
  held := fun h hd _ _ _ => Body.serialsLawful_setDoc h hd rfl
  unheld := fun h hd => Body.serialsLawful_setDoc h hd rfl
  cold := fun b => ⟨le_refl 1, show 1 ≤ 4294967296 by omega, fun n d hd => by simp at hd, fun n m d e hd => by simp at hd⟩

/-- A catalog whose documents stand in the order of groups of rising serials. -/
theorem Body.serialsLawful_of_groups {c : Body} {groups : List Group} (hp : groups.Pairwise (fun g h => g.1 < h.1))
    (hr : ∀ g ∈ groups, 1 ≤ g.1 ∧ g.1 < 4294967296)
    (hdoc : ∀ n d, c.doc n = some d → ∃ g, groups[n]? = some g ∧ d.serial = g.1)
    (hnext : c.nextSerial = (groups.getLast?.map (fun g => g.1 + 1)).getD 1) : c.serialsLawful := by
  have hbound : 1 ≤ c.nextSerial ∧ c.nextSerial ≤ 4294967296 := by
    rw [hnext]
    cases hl : groups.getLast? with
    | none => exact ⟨le_refl 1, show 1 ≤ 4294967296 by omega⟩
    | some last =>
      have := hr last (List.mem_of_getLast? hl)
      show 1 ≤ last.1 + 1 ∧ last.1 + 1 ≤ 4294967296
      omega
  refine ⟨hbound.1, hbound.2, fun n d hd => ?_, fun n m d e hd he hde => ?_⟩
  · obtain ⟨g, hg, hs⟩ := hdoc n d hd
    have hmem := List.mem_of_getElem? hg
    have hlast := List.getLast?_eq_getLast_of_ne_nil (List.ne_nil_of_mem hmem)
    have hle := le_getLast_of_pairwise hp hlast hmem
    rw [hnext, hlast, hs]
    exact ⟨(hr g hmem).1, Nat.lt_succ_of_le hle⟩
  · obtain ⟨g, hg, hs⟩ := hdoc n d hd
    obtain ⟨k, hk, ht⟩ := hdoc m e he
    rcases lt_trichotomy n m with h | h | h
    · have := pairwise_getElem? hp hg hk h; omega
    · exact h
    · have := pairwise_getElem? hp hk hg h; omega

/-- The rebuild from a body without a document. -/
theorem Body.serialsLawful_rebuild {b : Body} (hb : ∀ n, b.doc n = none) {found : List Found}
    (hf : ∀ e ∈ found, 1 ≤ e.2.serial ∧ e.2.serial < 4294967296) : (b.rebuild found).serialsLawful := by
  refine Body.serialsLawful_of_groups (groupsOf_pairwise found) (fun g hg => ?_) (fun n d hd => ?_)
    (b.rebuild_nextSerial found)
  · obtain ⟨e, he, heg⟩ := (mem_groupsOf hg).1
    exact heg ▸ hf e he
  · rw [Body.rebuild_doc, hb n, Option.or_none] at hd
    obtain ⟨g, hg, rfl⟩ := Option.map_eq_some_iff.mp hd
    exact ⟨g, hg, rfl⟩

/-! ### No document while REBUILDING -/

/-- A request that comes while the part is not RUNNING changes nothing in the body. -/
theorem exec_request_resting {c : Instr} {h : Head} {op : Op} {s t : State} (hq : requestOf c = some (h, op))
    (hp : s.recovery.part ≠ .running) (hr : exec c s = .next t) : t.body = s.body := by
  by_cases ha : op = .append
  · cases c <;> simp only [requestOf, Option.some.injEq, Prod.mk.injEq, reduceCtorEq] at hq <;>
      obtain ⟨rfl, rfl⟩ := hq <;> first | cases ha; done | skip
    dsimp only [exec, execAppend] at hr
    split_ifs at hr
    · rw [next_eq hr]; rfl
    · split at hr
      · rw [next_eq hr]; rfl
      · rename_i hc
        unfold busCheck at hc
        simp only [hp, ne_eq, not_false_eq_true, reduceCtorEq, and_self, if_true] at hc
        split_ifs at hc
  by_cases hst : op = .status
  · cases c <;> simp only [requestOf, Option.some.injEq, Prod.mk.injEq, reduceCtorEq] at hq <;>
      obtain ⟨rfl, rfl⟩ := hq <;> first | cases hst; done | skip
    dsimp only [exec, execStatus] at hr
    rcases request_next hr with rfl | ⟨_, _, rfl⟩ | ⟨_, _, _, _, rfl⟩ <;> rfl
  · obtain ⟨formed, owner, _, he⟩ := exec_request hq ha
    rw [he] at hr
    rcases request_next hr with rfl | ⟨_, _, rfl⟩ | ⟨_, _, _, hrun, rfl⟩
    · rfl
    · rfl
    · exact absurd hrun (not_or.mpr ⟨hp, hst⟩)

theorem Kept.none {b c : Body} (h : Kept b c) (hb : ∀ n, b.doc n = Option.none) (n : Nat) : c.doc n = Option.none := by
  cases hd : c.doc n with
  | none => rfl
  | some e =>
    obtain ⟨d, hd', _⟩ := h.doc n e hd
    rw [hb n] at hd'
    cases hd'

/-- The part goes on REBUILDING, or begins to with the backed-up memory at its cold start. -/
theorem exec_rebuilding {c : Instr} {s t : State} (hr : exec c s = .next t) (ht : t.recovery.part = .rebuilding) :
    s.recovery.part = .rebuilding ∨ t.body = s.body.coldStart := by
  rcases kind_cases c with hc | hc | hc | hc | hc | ⟨w, rfl⟩ | rfl | ⟨x, rfl⟩ | ⟨hub, node, rfl⟩ | rfl
  · exact .inl ((exec_bodyOnly hc hr).recovery ▸ ht)
  · exact .inl ((exec_setsTables hc hr).recovery ▸ ht)
  · exact .inl ((exec_movesClock hc hr).1.recovery ▸ ht)
  · obtain ⟨b, f, _, rfl⟩ := exec_endsBankWork hc hr; exact .inl ht
  · left
    have started : s.recovery.afterStart ≠ .rebuilding := by unfold Recovery.afterStart; split_ifs <;> nofun
    cases c
    case powerFailWarning =>
      rw [next_eq hr] at ht
      by_contra hp
      simp only [ite_eq_iff] at ht
      simp_all
    case powerFailWithdrawn =>
      rw [(execPowerFailWithdrawn_next hr).2] at ht
      simp only [ite_eq_iff] at ht
      simp_all
    case warmStartComplete =>
      rw [(execWarmStartComplete_next hr).2, (SameOutside.resume _).recovery] at ht
      unfold State.reconcile at ht
      exact absurd ht started
    case rebuildComplete => exact (execRebuildComplete_next hr).1
    case headerScanLeafRead => exact (execHeaderScanLeafRead_next hr).1
    all_goals cases hc
  · exact .inl ((execBusReset_next hr).2.2.1 ▸ ht)
  · rw [next_eq hr] at ht; exact .inl ht
  · rcases execMainPowerLoss_next hr with ⟨_, rfl⟩ | ⟨_, rfl⟩
    · exact .inl ht
    · cases ht
  · obtain ⟨_, ⟨_, rfl⟩ | ⟨_, rfl⟩⟩ := execMainPowerReturn_next hr
    · cases ht
    · exact .inr rfl
  · obtain ⟨_, rfl⟩ := execBackupSupplyFailure_next hr; exact .inr rfl

/-- Every command leaves the catalog empty while REBUILDING (R167). -/
theorem exec_rebuildingEmpty {c : Instr} {s t : State} (hs : s.recovery.part = .rebuilding → ∀ n, s.body.doc n = none)
    (hr : exec c s = .next t) (ht : t.recovery.part = .rebuilding) (n : Nat) : t.body.doc n = none := by
  rcases exec_rebuilding hr ht with hp | hb
  · have hempty := hs hp
    cases hq : requestOf c with
    | some p =>
      rw [exec_request_resting hq (by rw [hp]; nofun) hr]
      exact hempty n
    | none =>
      by_cases hc : c = .rebuildComplete
      · subst hc
        rw [(execRebuildComplete_next hr).2, (SameOutside.resume _).recovery] at ht
        unfold State.rebuild Recovery.afterStart at ht
        dsimp only at ht
        split_ifs at ht
      · rcases Kept.execEvent hq hc hr with hk | hb
        · exact hk.none hempty n
        · rw [hb]; rfl
  · rw [hb]; rfl

theorem State.rebuild_body (s : State) : s.rebuild.body =
    ((unscanned s.recovery.scanned).foldl (Body.scanLeaf s.flash) s.body).rebuild s.flash.valid := by
  unfold State.rebuild
  rfl

/-- Settles O10: the law of serials is one of the catalog's calls; the catalog is empty while REBUILDING, and the rebuild
takes its serials from the headers in rising order. -/
theorem everyStepKeepsSerialsDistinct : Obligations.EveryStepKeepsSerialsDistinct := by
  intro s t
  refine step_preserves (P := State.serialsLawful) (fun _ _ h => h) (fun c s t hs hr => ?_)
  obtain ⟨hb, hempty⟩ := hs
  refine ⟨?_, exec_rebuildingEmpty hempty hr⟩
  by_cases hc : c = .rebuildComplete
  · subst hc
    obtain ⟨hp, ht⟩ := execRebuildComplete_next hr
    have hscan := (Kept.scanRest s.flash (unscanned s.recovery.scanned) s.body).none (hempty hp)
    have hlaw := Body.serialsLawful_rebuild hscan (fun e (he : e ∈ s.flash.valid) => Flash.valid_serial he)
    rw [ht]
    exact callLaw_serials.kept ((State.rebuild_body s.quiet).symm ▸ hlaw) (.resume _)
  · exact callLaw_serials.exec hc hb hr

end Sys2Proof.Machine
end

section
/-! The part after reset: its cold-start values, and every law that the steps keep. -/

namespace Sys2Proof.Machine

/-! ### The records after reset -/

theorem mem_bankLeaves {k l : Nat} (hk : k < 4) : l ∈ bankLeaves k ↔ l < 65536 ∧ l % 4 = k := by
  unfold bankLeaves
  rw [List.mem_map]
  constructor
  · rintro ⟨i, hi, rfl⟩
    have := List.mem_range.mp hi
    omega
  · rintro ⟨hl, hm⟩
    exact ⟨l / 4, List.mem_range.mpr (by omega), by omega⟩

theorem bankLeaves_nodup (k : Nat) : (bankLeaves k).Nodup := by
  unfold bankLeaves
  refine List.nodup_range.map ?_
  intro i j hij
  dsimp only at hij
  omega

@[simp] theorem reset_slot (n : Nat) : State.reset.body.slot n = ⟨0, none⟩ := rfl
@[simp] theorem reset_doc (n : Nat) : State.reset.body.doc n = none := rfl
@[simp] theorem reset_session (k : Nat) : State.reset.body.session k = ⟨.idle, none, none, []⟩ := rfl
@[simp] theorem reset_buffer (i : Nat) : State.reset.body.buffer i = ⟨.free, none, none, none, [], false⟩ := rfl
@[simp] theorem reset_leaf (l : Nat) : State.reset.body.leaf l = ⟨.blank, none, none⟩ := rfl
@[simp] theorem reset_spareOf (l : Nat) : State.reset.flash.spareOf l = Spare.erased := rfl

theorem reset_bank {k : Nat} (hk : k < 4) : State.reset.body.bank k = ⟨bankLeaves k, [], [], .none⟩ := by
  interval_cases k <;> rfl

theorem reset_dept (d : Nat) : State.reset.tables.dept d = if d = 0 then Dept.coldIntake else Dept.cold := rfl

theorem reset_role (n : Nat) : State.reset.tables.role n = if n = 0 then .records else .none := by
  show (if n < 32 then (if n = 0 then Role.records else .none) else .none) = _
  split_ifs <;> first | rfl | omega

/-- Settles O2. -/
theorem resetIsACompletedColdStart : Obligations.ResetIsACompletedColdStart := by
  refine ⟨rfl, reset_slot, rfl, fun d => ⟨rfl, rfl⟩, rfl, fun d hd => ?_, fun i => rfl, rfl, rfl, reset_role, reset_session,
    reset_buffer, rfl, rfl, rfl, reset_leaf, fun k hk => reset_bank hk, fun a => rfl, fun l => ?_, rfl, rfl, rfl, rfl, rfl,
    rfl, rfl⟩
  · rw [reset_dept, if_neg hd]; rfl
  · rw [reset_spareOf]
    unfold Spare.classOf
    rw [if_pos rfl]

/-! ### The laws at reset -/

theorem lawful_tables_reset : State.reset.tables.lawful := by
  refine ⟨by decide, by decide, by decide, by decide, by decide, fun d => ?_, rfl, rfl, rfl, fun i r hr => ?_⟩
  · rw [reset_dept]
    unfold Dept.lawful
    split_ifs <;> decide
  · cases hr

theorem agree_tables_reset : State.reset.tables.agree := by
  have hnodes : ∀ d, (State.reset.tables.dept d).nodes = [] := fun d => by rw [reset_dept]; split_ifs <;> rfl
  refine ⟨by decide, fun n => ?_, fun n m i hn => ?_, fun d => ?_⟩
  · rw [reset_role]
    show _ ↔ n = 0
    split_ifs <;> simp_all
  · rw [reset_role] at hn
    split_ifs at hn
  · rw [hnodes]
    refine ⟨List.nodup_nil, Nat.zero_le _, fun n => ?_⟩
    rw [reset_role]
    split_ifs <;> simp

theorem chargesLawful_reset : State.reset.chargesLawful where
  charges := ⟨Table.wf_nil _, fun n d hd => by simp at hd, fun x => rfl, fun n hn => absurd hn List.not_mem_nil⟩
  sessions := fun k hk => by simp at hk
  append := fun a ha => by cases ha
  rebuilding := fun _ n => reset_doc n

theorem leavesLawful_reset : State.reset.body.leavesLawful where
  canonical := Table.wf_nil _
  bounded := fun l _ => reset_leaf l
  owner := fun l => by simp
  buffer := fun l => by simp
  placed := fun l p => by simp [Body.slotAt]
  blank := fun k hk => by
    rw [reset_bank hk]
    dsimp only
    refine ⟨bankLeaves_nodup k, fun l => ?_⟩
    rw [mem_bankLeaves hk, reset_leaf]
    simp
  erase := fun k hk => by
    rw [reset_bank hk]
    exact ⟨List.nodup_nil, fun l => by simp⟩

theorem poolLawful_reset : State.reset.body.poolLawful where
  free := fun i _ => reset_buffer i
  bounded := fun i _ => reset_buffer i
  behind := fun i st h => by simp [BufState.leafState] at h
  before := fun l i h => by simp at h
  windowed := fun i h => by simp at h
  ready := ⟨List.nodup_nil, fun i => by simp [show State.reset.body.ready = [] from rfl]⟩
  windows := ⟨List.nodup_nil, fun i => by simp [show State.reset.body.windows = [] from rfl]⟩
  queues := fun k => by simp
  tail := fun k h => by simp at h

theorem banksLawful_reset : State.reset.body.banksLawful where
  programs := fun k hk l => by simp [reset_bank hk]
  programBuffer := fun k hk i l h hp => by simp [reset_bank hk] at hp
  voidMarks := fun k hk l => by simp [reset_bank hk]
  erases := fun k hk l => by simp [reset_bank hk]
  fetches := fun k hk => by simp [reset_bank hk]

theorem storeLawful_reset : State.reset.storeLawful where
  array := fun l _ => reset_spareOf l
  believed := fun _ => leavesLawful_reset
  working := fun _ => ⟨poolLawful_reset, banksLawful_reset⟩
  resting := fun h => by rcases h with h | h | h <;> cases h
  scan := fun h => by cases h
  rolled := fun a ha => by cases ha

theorem lawful_recovery_reset : State.reset.recovery.lawful :=
  ⟨fun _ => ⟨rfl, rfl⟩, fun h => absurd h (by decide), fun h => absurd h (by decide),
    fun h => absurd h (by decide), le_refl _⟩

theorem serialsLawful_reset : State.reset.serialsLawful :=
  ⟨⟨by decide, by decide, fun n d hd => by simp at hd, fun n m d e hd => by simp at hd⟩, fun _ n => reset_doc n⟩

theorem windowsLawful_reset : State.reset.body.windowsLawful where
  bound := Nat.zero_le _
  programmed := fun _ hi => absurd hi List.not_mem_nil
  distinct := fun _ hi => absurd hi List.not_mem_nil

/-- Settles O3: over an empty catalog, a free pool and an erased array the laws hold field by field. -/
theorem lawsHoldAtReset : Obligations.LawsHoldAtReset :=
  ⟨⟨by decide, by decide, by decide, fun _ => ⟨rfl, rfl⟩⟩, lawful_tables_reset, agree_tables_reset, lawful_recovery_reset,
    fun _ => rfl, serialsLawful_reset, ⟨fun n d hd => by simp at hd, fun n => by simp⟩, Flash.lawful_reset,
    chargesLawful_reset, storeLawful_reset, windowsLawful_reset⟩

end Sys2Proof.Machine
end

section
/-! STATUS reports each owner's state as it stands: what the counts over the sparse tables come to, and the nine leaf
counts while REBUILDING. -/

namespace Sys2Proof.Machine

/-! ### Counts over a table -/

/-- In canonical form a count over the entries that leaves the default out is one over all numbers in range. -/
theorem Table.count_eq_range {α : Type} [DecidableEq α] {d : α} {t : Table α} (h : Table.wf d t) {N : Nat}
    (hN : ∀ i, N ≤ i → Table.read d t i = d) {p : α → Bool} (hp : p d = false) :
    Table.count p t = (List.range N).countP (fun i => p (Table.read d t i)) := by
  unfold Table.count
  rw [List.countP_eq_length_filter, List.countP_eq_length_filter, ← List.length_map (f := fun e : Nat × α => e.1)]
  refine List.Perm.length_eq ((List.perm_ext_iff_of_nodup ?_ (List.nodup_range.filter _)).mpr fun i => ?_)
  · have hkeys : (t.map (fun e => e.1)).Nodup := List.pairwise_map.mpr (h.1.imp (fun hlt => Nat.ne_of_lt hlt))
    exact hkeys.sublist ((List.filter_sublist).map _)
  · rw [List.mem_map, List.mem_filter, List.mem_range]
    constructor
    · rintro ⟨⟨k, v⟩, hm, rfl⟩
      obtain ⟨hm, hv⟩ := List.mem_filter.mp hm
      obtain ⟨hne, hread⟩ := (Table.mem_iff_read h k v).mp hm
      refine ⟨Nat.lt_of_not_le fun hk => hne (hread ▸ hN k hk), ?_⟩
      rw [hread]
      exact hv
    · rintro ⟨_, hi⟩
      refine ⟨(i, Table.read d t i), List.mem_filter.mpr ⟨(Table.mem_iff_read h i _).mpr ⟨fun he => ?_, rfl⟩, hi⟩, rfl⟩
      rw [he, hp] at hi
      cases hi

/-- The numbers that a count of the entries other than some leaves out. -/
theorem Table.count_compl {α : Type} [DecidableEq α] {d : α} {t : Table α} (h : Table.wf d t) {N : Nat}
    (hN : ∀ i, N ≤ i → Table.read d t i = d) {p : α → Bool} (hp : p d = true) :
    N - Table.count (fun v => !p v) t = (List.range N).countP (fun i => p (Table.read d t i)) := by
  rw [Table.count_eq_range h hN (p := fun v => !p v) (by simp [hp])]
  have := List.length_eq_countP_add_countP (fun i => p (Table.read d t i)) (l := List.range N)
  rw [List.length_range] at this
  have hneg : (fun i => !p (Table.read d t i)) = fun i => decide ¬ p (Table.read d t i) = true := by
    funext i
    cases p (Table.read d t i) <;> rfl
  rw [hneg]
  omega

/-! ### The staging pool (R81) -/

section

variable {b : Body} (hw : Table.wf Buffer.free b.buffers) (hb : ∀ i, 144 ≤ i → b.buffer i = Buffer.free)
include hw hb

theorem Body.countBuffers {p : Buffer → Bool} (hp : p Buffer.free = false) :
    Table.count p b.buffers = (List.range 144).countP (fun i => p (b.buffer i)) :=
  Table.count_eq_range hw hb hp

theorem Body.freeBuffers_eq : b.freeBuffers = (List.range 144).countP (fun i => (b.buffer i).state == .free) :=
  Table.count_compl hw hb (p := fun v => v.state == .free) rfl

theorem Body.windowAllowed_eq : b.windowAllowed =
    decide (b.windows.length < 24 ∧ 16 < (List.range 144).countP (fun i => (b.buffer i).state == .free)) := by
  rw [← Body.freeBuffers_eq hw hb, Bool.eq_iff_iff, Body.windowAllowed_iff, decide_eq_true_iff]

theorem readStaging_byState : (readStaging b).byState =
    [BufState.free, .filling, .ready, .programming, .fetching, .window].map
      (fun st => (List.range 144).countP (fun i => (b.buffer i).state == st)) := by
  have hst : ∀ st, st ≠ .free → b.buffersIn st = (List.range 144).countP (fun i => (b.buffer i).state == st) :=
    fun st hne => Body.countBuffers hw hb (p := fun v => v.state == st) (by simpa [Buffer.free] using hne.symm)
  unfold readStaging
  rw [Body.freeBuffers_eq hw hb, hst .filling nofun, hst .ready nofun, hst .programming nofun, hst .fetching nofun,
    hst .window nofun]
  rfl

end

theorem readStaging_byUrgency (b : Body) : (readStaging b).byUrgency =
    [1, 2, 3].map (fun u => b.ready.countP (fun i => (b.buffer i).state == .ready && u == b.urgency i)) := by
  unfold readStaging
  refine List.map_congr_left fun u _ => List.countP_congr fun i _ => ?_
  rw [Bool.beq_comm (a := u)]

/-! ### The leaf store (R102) -/

theorem Body.leavesIn_eq {b : Body} (hw : Table.wf Leaf.blank b.leaves) (hb : ∀ l, 65536 ≤ l → b.leaf l = Leaf.blank)
    (st : LeafState) : b.leavesIn st = (List.range 65536).countP (fun l => (b.leaf l).state == st) := by
  unfold Body.leavesIn
  split_ifs with h
  · subst h
    exact Table.count_compl hw hb (p := fun v => v.state == .blank) rfl
  · exact Table.count_eq_range hw hb (p := fun v => v.state == st) (by simpa [Leaf.blank] using fun he => h he.symm)

/-- Each leaf shows one of the nine states. -/
theorem sum_leafStates (l : List LeafState) : (leafStates.map (fun st => l.countP (fun v => v == st))).sum = l.length := by
  induction l with
  | nil => rfl
  | cons v l ih =>
    have : (leafStates.map (fun st => (v :: l).countP (fun w => w == st))).sum =
        (leafStates.map (fun st => l.countP (fun w => w == st))).sum + 1 := by
      unfold leafStates
      simp only [List.countP_cons, List.map_cons, List.map_nil, List.sum_cons, List.sum_nil]
      cases v <;> simp <;> omega
    rw [this, ih, List.length_cons]

/-- A leaf that the scan has settled shows the state of the leaf table. -/
theorem rebuildingLeaf_settled {b : Body} {f : Flash} {scanned l : Nat} (hl : l < scanned)
    (hc : ∀ h, (f.spareOf l).classOf ≠ .valid h) : rebuildingLeaf b f scanned l = (b.leaf l).state := by
  unfold rebuildingLeaf
  dsimp only
  rw [if_pos hl]
  split
  · rename_i h he
    exact absurd he (hc h)
  all_goals rfl

theorem leafCounts_rebuilding {r : Recovery} (hr : r.part = .rebuilding) (b : Body) (f : Flash) : leafCounts b f r =
    leafStates.map (fun st => ((List.range 65536).map (rebuildingLeaf b f r.scanned)).countP (fun v => v == st)) := by
  unfold leafCounts
  rw [if_pos hr]
  rfl

theorem leafCounts_settled {r : Recovery} (hr : r.part ≠ .rebuilding) (b : Body) (f : Flash) :
    leafCounts b f r = leafStates.map b.leavesIn := by
  unfold leafCounts
  rw [if_neg hr]

/-- A count of settled leaves is at most the count of those shown. -/
theorem countP_settled_le {b : Body} {f : Flash} {scanned : Nat} {st : LeafState} {p : Nat → Bool}
    (hp : ∀ l, p l = true → l < scanned ∧ (∀ h, (f.spareOf l).classOf ≠ .valid h) ∧ (b.leaf l).state = st) (N : Nat) :
    (List.range N).countP p ≤ ((List.range N).map (rebuildingLeaf b f scanned)).countP (fun v => v == st) := by
  rw [List.countP_map]
  refine List.countP_mono_left fun l _ hl => ?_
  obtain ⟨hlt, hc, hst⟩ := hp l hl
  simp [rebuildingLeaf_settled hlt hc, hst]

theorem getElem?_leafStates {j : Nat} (hj : j < 9) : ∃ st, leafStates[j]? = some st :=
  ⟨leafStates[j]'hj, List.getElem?_eq_getElem hj⟩

/-! ### Sessions, catalog, obligations and retention (R20, R65, R124, R152) -/

theorem readSessions_idle {b : Body} {run k : Nat} (hk : k < 32) (hi : (b.session k).state = .idle) :
    (readSessions b run).sessions[k]? = some (.idle, none) := by
  unfold readSessions
  dsimp only
  rw [List.getElem?_map, List.getElem?_range (show k < Config.sessions from hk)]
  simp [readSession, hi]

theorem readSessions_open {b : Body} {run k n t : Nat} {d : Document} (hk : k < 32) (hi : (b.session k).state ≠ .idle)
    (hn : (b.session k).doc = some n) (hd : b.doc n = some d) (ht : (b.session k).deadline = some t) :
    (readSessions b run).sessions[k]? = some ((b.session k).state, some
      ⟨n, (b.slot n).generation, d.serial, d.pages.length, (b.session k).queue.length, t - run⟩) := by
  unfold readSessions
  dsimp only
  rw [List.getElem?_map, List.getElem?_range (show k < Config.sessions from hk)]
  simp [readSession, hi, hn, hd, ht]

theorem readCatalog_eq (b : Body) : readCatalog b =
    ⟨4096 - (b.documents.map (fun e => e.2)).length,
      (b.documents.map (fun e => e.2)).countP (fun d => d.state == .receiving),
      (b.documents.map (fun e => e.2)).countP (fun d => d.state == .distributing),
      (b.documents.map (fun e => e.2)).countP (fun d => d.state == .retained),
      (b.documents.map (fun e => e.2)).countP (fun d => d.state == .purging),
      ((b.documents.map (fun e => e.2)).map (fun d => d.pages.length)).sum, b.nextSerial⟩ := by
  simp only [List.countP_map, List.map_map, List.length_map]
  rfl

theorem Body.obligations_eq (b : Body) :
    b.obligations = (b.documents.map (fun e => e.2)).flatMap (fun d => d.obligations) := by
  rw [List.flatMap_map]
  rfl

theorem readObligations_eq (b : Body) : readObligations b =
    ⟨b.obligations.length, b.obligations.countP (fun o => o.state == .pending),
      b.obligations.countP (fun o => o.state == .opened),
      [ObKind.primary, .unrouted, .overflow, .copy, .rerouted, .escalated, .forwarded, .rebuilt].map
        (fun kind => b.obligations.countP (fun o => o.kind == kind)),
      b.obligations.countP (fun o => o.escalated), b.obligations.countP (fun o => o.deadline.isSome),
      (b.obligations.filterMap (fun o => o.deadline)).min?,
      ((b.documents.map (fun e => e.2)).map (fun d => d.retained)).sum⟩ := by
  rw [List.map_map]
  rfl

theorem Retain.reached_eq (r : Retain) (clock : Nat) : r.reached clock = r.ticks?.any (fun t => decide (t ≤ clock)) := by
  cases r <;> rfl

theorem readRetention_eq (b : Body) (clock : Nat) : readRetention b clock =
    ⟨(b.documents.map (fun e => e.2)).countP (fun d => d.retainUntil == .pending),
      (b.documents.map (fun e => e.2)).countP (fun d => d.retainUntil == .pending && d.state == .retained),
      (b.documents.map (fun e => e.2)).countP (fun d => !d.holds.isEmpty),
      ((b.documents.map (fun e => e.2)).map (fun d => d.holds.length)).sum,
      (b.documents.map (fun e => e.2)).countP (fun d => d.state == .retained && !d.holds.isEmpty &&
        d.retainUntil.ticks?.any (fun t => decide (t ≤ clock))),
      (((b.documents.map (fun e => e.2)).filter (fun d => d.state == .retained && d.holds.isEmpty)).filterMap
        (fun d => d.retainUntil.ticks?)).min?,
      b.purges.length, (b.purges.map (fun n => ((b.doc n).map (fun d => d.retained)).getD 0)).sum⟩ := by
  unfold readRetention
  simp only [Retain.reached_eq]
  congr 1
  exact List.countP_congr fun d _ => by simp only [Bool.and_eq_true]; tauto

theorem readBank_eq (b : Body) (k : Nat) : readBank b k =
    ⟨(b.bank k).blank.length, (b.bank k).eraseQueue.length, (b.bank k).fetchQueue.length, (b.bank k).op.code⟩ := rfl

/-- Settles O44: STATUS is taken whatever the part state, and each contribution is what its owner's records come to. -/
theorem statusReportsAndChangesNothing : Obligations.StatusReportsAndChangesNothing := by
  intro s h role hf hr hp ht hrole hn b docs os untils buffers states
  refine ⟨⟨s.nextPacket.reading, exec_status hf hr hp ht hrole hn, rfl, rfl, rfl, readCatalog_eq b, ?sessions, rfl, rfl,
    ?urgency, ?pool, ?settled, ?rebuilding, ?banks, rfl, Body.allocationBank_none b,
    fun k hk => Body.allocationBank_some hk, ?obligations, ?retention⟩,
    fun code _ => exec_unknownOperation hf hr hp ht hrole hn code⟩
  case sessions =>
    refine ⟨by simp [State.reading, readSessions, Config.sessions], rfl, rfl, rfl, rfl, fun k hk => ⟨fun hi => ?_, fun n d t hi hd hdoc hdl => ?_⟩⟩
    · exact readSessions_idle hk hi
    · exact readSessions_open hk hi hd hdoc hdl
  case urgency => exact readStaging_byUrgency b
  case pool =>
    intro hw hb
    exact ⟨readStaging_byState hw hb, Body.countBuffers hw hb (p := fun v => v.holder == some .orphan) rfl,
      Body.countBuffers hw hb (p := fun v => v.holder == some .orphan && v.leaf == none) rfl,
      Body.windowAllowed_eq hw hb, Body.countBuffers hw hb (p := fun v => v.state == .ready && v.leaf == none) rfl⟩
  case settled =>
    intro hpart hw hb
    refine (leafCounts_settled hpart b s.flash).trans ?_
    exact List.map_congr_left fun st _ => Body.leavesIn_eq hw hb st
  case rebuilding =>
    intro hpart
    have hcounts : s.nextPacket.reading.leaves.byState = _ := leafCounts_rebuilding hpart b s.flash
    refine ⟨?_, fun j hj => ?_⟩
    · rw [hcounts, sum_leafStates, List.length_map, List.length_range]
    · obtain ⟨st, hst⟩ := getElem?_leafStates hj
      refine ⟨st, _, hst, ?_, countP_settled_le (b := b) (st := st) (f := s.flash) (scanned := s.recovery.scanned) (fun l hl => ?_) 65536⟩
      · rw [hcounts, List.getElem?_map, hst]
        rfl
      · rw [Bool.and_eq_true, decide_eq_true_iff] at hl
        obtain ⟨hlt, hl⟩ := hl
        cases hc : (s.flash.spareOf l).classOf with
        | valid g => rw [hc] at hl; cases hl
        | erased | voidMarked | unreadable =>
          rw [hc] at hl
          exact ⟨hlt, nofun, by simpa using hl⟩
  case banks =>
    refine List.map_congr_left fun k _ => ?_
    show readBank b k = _
    rw [readBank_eq]
    cases (b.bank k).op <;> rfl
  case obligations =>
    have hos : os = b.obligations := (Body.obligations_eq b).symm
    rw [hos]
    exact readObligations_eq b
  case retention =>
    have hu : untils = fun d => d.retainUntil.ticks? := by
      funext d
      show (match d.retainUntil with | .known t => some t | .absent | .pending => none) = _
      cases d.retainUntil <;> rfl
    rw [hu]
    exact readRetention_eq b s.time.clock

end Sys2Proof.Machine
end

section
/-! What banks and purges at work do to the documents: outside the slots whose purge starts, a document's pages move,
its retained charge with them where it stands on the purge list, and it may be freed there. -/

namespace Sys2Proof.Machine

/-! ### The entries of the catalog -/

theorem Table.mem_of_read {α : Type} {d : α} {t : Table α} {n : Nat} {v : α} (h : Table.read d t n = v) (hv : v ≠ d) :
    (n, v) ∈ t := by
  induction t with
  | nil => exact absurd h.symm hv
  | cons e t ih =>
    obtain ⟨k, w⟩ := e
    unfold Table.read at h
    split_ifs at h with hk
    · subst hk h; exact List.mem_cons_self
    · exact List.mem_cons_of_mem _ (ih h)

theorem Table.mem_write {α : Type} [DecidableEq α] {d : α} {t : Table α} {n : Nat} {v : α} {e : Nat × α}
    (h : e ∈ Table.write d t n v) : e = (n, v) ∨ e ∈ t := by
  unfold Table.write at h
  split_ifs at h
  · exact .inr (List.mem_filter.mp h).1
  · exact Table.mem_put h

theorem Body.mem_documents {b : Body} {n : Nat} {d : Document} :
    (n, d) ∈ b.documents ↔ ∃ v : Slot, (n, v) ∈ b.catalog ∧ v.doc = some d := by
  unfold Body.documents
  rw [List.mem_filterMap]
  constructor
  · rintro ⟨⟨m, v⟩, hm, hd⟩
    obtain ⟨d', hd', he⟩ := Option.map_eq_some_iff.mp hd
    cases he
    exact ⟨v, hm, hd'⟩
  · rintro ⟨v, hm, hd⟩
    exact ⟨(n, v), hm, by rw [hd]; rfl⟩

/-- The document read in a slot is one of the catalog's entries. -/
theorem Body.documents_of_doc {b : Body} {n : Nat} {d : Document} (h : b.doc n = some d) : (n, d) ∈ b.documents := by
  refine Body.mem_documents.mpr ⟨b.slot n, Table.mem_of_read rfl fun he => ?_, h⟩
  have : b.doc n = none := by unfold Body.doc; rw [he]; rfl
  rw [this] at h
  cases h

theorem Body.setSlot_documents {b : Body} {n : Nat} {v : Slot} {e : Nat × Document}
    (h : e ∈ (b.setSlot n v).documents) : (e.1 = n ∧ v.doc = some e.2) ∨ e ∈ b.documents := by
  obtain ⟨w, hm, hd⟩ := Body.mem_documents.mp h
  rcases Table.mem_write hm with he | he
  · cases he; exact .inl ⟨rfl, hd⟩
  · exact .inr (Body.mem_documents.mpr ⟨w, he, hd⟩)

theorem documents_congr {b c : Body} (h : c.catalog = b.catalog) : c.documents = b.documents := by
  unfold Body.documents
  rw [h]

/-! ### Worked over -/

/-- A document whose pages and retained charge have moved. -/
def Document.movedFrom (d f : Document) : Prop := f = { d with pages := f.pages, retained := f.retained }

theorem Document.movedFrom_refl (d : Document) : d.movedFrom d := rfl

theorem Document.movedFrom_trans {d e f : Document} (h : d.movedFrom e) (k : e.movedFrom f) : d.movedFrom f := by
  unfold Document.movedFrom at h k ⊢
  rw [k, h]

/-- Banks and purges have worked, and the purges of the slots `l` have started: the bodies before and after. -/
structure PurgedOver (l : List Nat) (b c : Body) : Prop where
  listed : ∀ n ∈ c.purges, n ∈ b.purges ∨ n ∈ l
  gone : ∀ n, c.doc n = none → b.doc n = none ∨ n ∈ b.purges ∨ n ∈ l
  started : ∀ n ∈ l, ∀ f, c.doc n = some f →
    n ∈ c.purges ∧ ∃ d, b.doc n = some d ∧ f = { d with state := .purging, pages := f.pages, retained := f.retained }
  others : ∀ n, n ∉ l → ∀ f, c.doc n = some f → ∃ d, b.doc n = some d ∧ d.movedFrom f ∧
    (n ∉ b.purges → f.retained = d.retained) ∧ (n ∈ b.purges → n ∈ c.purges)
  entries : ∀ e ∈ c.documents, ∃ g ∈ b.documents, g.1 = e.1 ∧ (e.2.state = .purging ∨ g.2.movedFrom e.2)

theorem PurgedOver.refl (b : Body) : PurgedOver [] b b where
  listed := fun _ h => .inl h
  gone := fun _ h => .inl h
  started := fun _ h => absurd h List.not_mem_nil
  others := fun _ _ f hf => ⟨f, hf, f.movedFrom_refl, fun _ => rfl, id⟩
  entries := fun e he => ⟨e, he, rfl, .inr e.2.movedFrom_refl⟩

theorem PurgedOver.trans {l m : List Nat} {a b c : Body} (h : PurgedOver l a b) (k : PurgedOver m b c) :
    PurgedOver (l ++ m) a c where
  listed := fun n hn => by
    rw [List.mem_append]
    rcases k.listed n hn with h1 | h1
    · rcases h.listed n h1 with h2 | h2
      · exact .inl h2
      · exact .inr (.inl h2)
    · exact .inr (.inr h1)
  gone := fun n hn => by
    rw [List.mem_append]
    rcases k.gone n hn with h1 | h1 | h1
    · rcases h.gone n h1 with h2 | h2 | h2
      · exact .inl h2
      · exact .inr (.inl h2)
      · exact .inr (.inr (.inl h2))
    · rcases h.listed n h1 with h2 | h2
      · exact .inr (.inl h2)
      · exact .inr (.inr (.inl h2))
    · exact .inr (.inr (.inr h1))
  started := fun n hn f hf => by
    rw [List.mem_append] at hn
    by_cases hm : n ∈ m
    · obtain ⟨hp, e, he, hfe⟩ := k.started n hm f hf
      refine ⟨hp, ?_⟩
      by_cases hl : n ∈ l
      · obtain ⟨_, d, hd, hed⟩ := h.started n hl e he
        exact ⟨d, hd, by rw [hfe, hed]⟩
      · obtain ⟨d, hd, hed, _⟩ := h.others n hl e he
        exact ⟨d, hd, by rw [hfe, hed]⟩
    · have hl := hn.resolve_right hm
      obtain ⟨e, he, hfe, _, hp⟩ := k.others n hm f hf
      obtain ⟨hpe, d, hd, hed⟩ := h.started n hl e he
      exact ⟨hp hpe, d, hd, by rw [hfe, hed]⟩
  others := fun n hn f hf => by
    rw [List.mem_append, not_or] at hn
    obtain ⟨e, he, hfe, hr1, hp1⟩ := k.others n hn.2 f hf
    obtain ⟨d, hd, hed, hr2, hp2⟩ := h.others n hn.1 e he
    refine ⟨d, hd, Document.movedFrom_trans hed hfe, fun hp => ?_, fun hp => hp1 (hp2 hp)⟩
    rw [hr1 fun hb => (h.listed n hb).elim hp hn.1, hr2 hp]
  entries := fun e he => by
    obtain ⟨g, hg, hge, hm⟩ := k.entries e he
    obtain ⟨i, hi, hig, hm2⟩ := h.entries g hg
    refine ⟨i, hi, hig.trans hge, ?_⟩
    rcases hm with hm | hm
    · exact .inl hm
    · rcases hm2 with hm2 | hm2
      · left; rw [hm]; exact hm2
      · exact .inr (Document.movedFrom_trans hm2 hm)

theorem PurgedOver.congr {l m : List Nat} {b c : Body} (h : PurgedOver l b c) (hm : ∀ n, n ∈ l ↔ n ∈ m) :
    PurgedOver m b c where
  listed := fun n hn => (h.listed n hn).imp_right (hm n).mp
  gone := fun n hn => (h.gone n hn).imp_right (Or.imp_right (hm n).mp)
  started := fun n hn => h.started n ((hm n).mpr hn)
  others := fun n hn => h.others n (fun hl => hn ((hm n).mp hl))
  entries := h.entries

theorem PurgedOver.and {a b c : Body} (h : PurgedOver [] a b) (k : PurgedOver [] b c) : PurgedOver [] a c := h.trans k

/-- A change that touches neither the catalog nor the purge list. -/
theorem PurgedOver.of_catalog {b c : Body} (hc : c.catalog = b.catalog) (hp : c.purges = b.purges) : PurgedOver [] b c where
  listed := fun _ hn => .inl (hp ▸ hn)
  gone := fun _ hn => .inl ((Body.doc_congr hc _).symm.trans hn)
  started := fun _ h => absurd h List.not_mem_nil
  others := fun n _ f hf => ⟨f, (Body.doc_congr hc n).symm.trans hf, f.movedFrom_refl, fun _ => rfl, fun h => hp ▸ h⟩
  entries := fun e he => ⟨e, documents_congr hc ▸ he, rfl, .inr e.2.movedFrom_refl⟩

/-- The pages of a document have moved, and its retained charge where it stands on the purge list. -/
theorem PurgedOver.setDoc {b : Body} {n : Nat} {d f : Document} (hd : b.doc n = some d) (hf : d.movedFrom f)
    (hr : n ∉ b.purges → f.retained = d.retained) : PurgedOver [] b (b.setDoc n f) where
  listed := fun n hn => .inl hn
  gone := fun m hm => by
    rw [Body.setDoc_doc] at hm
    split_ifs at hm
    exact .inl hm
  started := fun _ h => absurd h List.not_mem_nil
  others := fun m _ g hg => by
    rw [Body.setDoc_doc] at hg
    split_ifs at hg with hmn
    · cases hg; subst hmn; exact ⟨d, hd, hf, hr, id⟩
    · exact ⟨g, hg, g.movedFrom_refl, fun _ => rfl, id⟩
  entries := fun e he => by
    rcases Body.setSlot_documents he with ⟨h1, h2⟩ | h1
    · exact ⟨(n, d), Body.documents_of_doc hd, h1.symm, .inr (Option.some.inj h2 ▸ hf)⟩
    · exact ⟨e, h1, rfl, .inr e.2.movedFrom_refl⟩

theorem PurgedOver.updDoc (b : Body) (n : Nat) {g : Document → Document} (h : ∀ d : Document, d.movedFrom (g d))
    (hr : n ∉ b.purges → ∀ d, (g d).retained = d.retained) : PurgedOver [] b (b.updDoc n g) := by
  cases hd : b.doc n with
  | none => rw [Body.updDoc_none g hd]; exact .refl b
  | some d => rw [Body.updDoc_eq g hd]; exact .setDoc hd (h d) (fun hp => hr hp d)

/-- A slot on the purge list is freed (R14). -/
theorem PurgedOver.freeSlot {b : Body} {n : Nat} (hn : n ∈ b.purges) : PurgedOver [] b (b.freeSlot n) := by
  have hdoc : ∀ m, (b.freeSlot n).doc m = if m = n then none else b.doc m := fun m => by
    unfold Body.doc
    rw [Body.freeSlot_slot]
    split_ifs <;> rfl
  have hpurges : (b.freeSlot n).purges = b.purges.filter (fun m => m ≠ n) := rfl
  exact {
    listed := fun m hm => .inl (List.mem_filter.mp (hpurges ▸ hm)).1
    gone := fun m hm => by
      rw [hdoc] at hm
      split_ifs at hm with h
      · exact .inr (.inl (h ▸ hn))
      · exact .inl hm
    started := fun _ h => absurd h List.not_mem_nil
    others := fun m _ f hf => by
      rw [hdoc] at hf
      split_ifs at hf with h
      exact ⟨f, hf, f.movedFrom_refl, fun _ => rfl, fun hp => by rw [hpurges, List.mem_filter]; exact ⟨hp, by simpa using h⟩⟩
    entries := fun e he => by
      rcases Body.setSlot_documents (b := b) (n := n) (v := ⟨((b.slot n).generation + 1) % 256, none⟩) he with ⟨_, h⟩ | h
      · cases h
      · exact ⟨e, h, rfl, .inr e.2.movedFrom_refl⟩ }

theorem PurgedOver.releaseSlot {b : Body} {n : Nat} (hn : n ∈ b.purges) (p x : Nat) :
    PurgedOver [] b (b.releaseSlot n p x) := by
  have h : PurgedOver [] b (b.updDoc n (fun d => { d.setLeafSlot p x .released with retained := d.retained - 1 })) :=
    .updDoc b n (fun _ => rfl) (fun hp => absurd hn hp)
  unfold Body.releaseSlot
  dsimp only
  split
  · exact h.and (.of_catalog (by simp) (by simp))
  · exact h

theorem PurgedOver.advancePurge {b : Body} {n : Nat} (hn : n ∈ b.purges) : PurgedOver [] b (b.advancePurge n) := by
  have hfold : ∀ (l : List (Nat × Nat × LeafSlot)) (c : Body), n ∈ c.purges →
      PurgedOver [] c (l.foldl (fun acc s => acc.releaseSlot n s.1 s.2.1) c) ∧
        n ∈ (l.foldl (fun acc s => acc.releaseSlot n s.1 s.2.1) c).purges := by
    intro l
    induction l with
    | nil => exact fun c hc => ⟨.refl c, hc⟩
    | cons s l ih =>
      intro c hc
      have hc' : n ∈ (c.releaseSlot n s.1 s.2.1).purges := by rw [Body.releaseSlot_purges]; exact hc
      obtain ⟨h1, h2⟩ := ih _ hc'
      exact ⟨(PurgedOver.releaseSlot hc s.1 s.2.1).and h1, h2⟩
  unfold Body.advancePurge
  split
  · rename_i d hd
    obtain ⟨h1, h2⟩ := hfold d.unplacedAtCursor b hn
    dsimp only
    split
    · split_ifs
      · exact h1.and (.freeSlot h2)
      · exact h1
    · exact h1
  · exact .refl b

/-- A purge starts (R150). -/
theorem PurgedOver.startPurge (b : Body) (n : Nat) : PurgedOver [n] b (b.startPurge n) := by
  have hbase : PurgedOver [n] b { b.updDoc n (fun d => { d with state := .purging }) with purges := b.purges ++ [n] } := by
    have hcat : ∀ m, ({ b.updDoc n (fun d => { d with state := .purging }) with purges := b.purges ++ [n] } : Body).doc m =
        if m = n then (b.doc n).map (fun d => { d with state := .purging }) else b.doc m := by
      intro m
      refine (Body.doc_congr (b := b.updDoc n (fun d => { d with state := .purging })) rfl m).trans ?_
      cases hd : b.doc n with
      | none =>
        rw [Body.updDoc_none _ hd]
        split_ifs with h
        · rw [h, hd]; rfl
        · rfl
      | some d => rw [Body.updDoc_eq _ hd, Body.setDoc_doc]; rfl
    exact {
      listed := fun m hm => by
        rcases List.mem_append.mp hm with h | h
        · exact .inl h
        · exact .inr h
      gone := fun m hm => by
        rw [hcat] at hm
        split_ifs at hm with h
        · exact .inr (.inr (by simp [h]))
        · exact .inl hm
      started := fun m hm f hf => by
        rw [hcat, if_pos (List.mem_singleton.mp hm)] at hf
        obtain ⟨d, hd, rfl⟩ := Option.map_eq_some_iff.mp hf
        exact ⟨List.mem_append_right _ hm, d, (List.mem_singleton.mp hm) ▸ hd, rfl⟩
      others := fun m hm f hf => by
        rw [hcat, if_neg (fun h => hm (by simp [h]))] at hf
        exact ⟨f, hf, f.movedFrom_refl, fun _ => rfl, fun hp => List.mem_append_left _ hp⟩
      entries := fun e he => by
        have he' : e ∈ (b.updDoc n (fun d => { d with state := .purging })).documents := he
        cases hd : b.doc n with
        | none => rw [Body.updDoc_none _ hd] at he'; exact ⟨e, he', rfl, .inr e.2.movedFrom_refl⟩
        | some d =>
          rw [Body.updDoc_eq _ hd] at he'
          rcases Body.setSlot_documents he' with ⟨h1, h2⟩ | h1
          · exact ⟨(n, d), Body.documents_of_doc hd, h1.symm, .inl (by rw [← Option.some.inj h2])⟩
          · exact ⟨e, h1, rfl, .inr e.2.movedFrom_refl⟩ }
  unfold Body.startPurge
  dsimp only
  rw [Body.updDoc_purges]
  exact hbase.trans (.advancePurge (List.mem_append_right _ (List.mem_singleton.mpr rfl)))

/-! ### The arbiters -/

theorem PurgedOver.startWork {b : Body} {part : PartState} {floor k : Nat} {w : Work}
    (hw : b.choose part floor k = some w) : PurgedOver [] b (b.startWork k w) := by
  cases w with
  | program i l => exact .of_catalog rfl rfl
  | replace i =>
    change PurgedOver [] b (b.startReplace k i)
    rcases Body.startReplace_cases (b := b) (k := k) i with ⟨_, h⟩ | ⟨l, rest, p, _, _, h⟩
    · rw [h]; exact .refl b
    · have h1 : PurgedOver [] b ((b.popBlank k).setLeaf l ⟨.blank, some p, some i⟩) := .of_catalog rfl rfl
      have h2 := h1.and (.updDoc _ p.slot (g := fun d => d.updLeafSlot p.page p.index (LeafSlot.filled l)) (fun _ => rfl)
        (fun _ _ => rfl))
      rw [h]
      exact h2.and (.of_catalog rfl rfl)
  | fetch i => exact .of_catalog rfl rfl
  | voidMark n page index l =>
    have hn : n ∈ b.purges := by
      rcases Body.choose_source hw with ⟨i, _, hi⟩ | ⟨_, ⟨_, _, _, hv⟩ | ⟨_, _, _, hv⟩ | ⟨m, hm, d, p, x, j, _, _, _, _, hv⟩⟩
      · rcases hi.2 with ⟨_, _, _, hv⟩ | ⟨_, _, hv⟩ <;> cases hv
      · cases hv
      · cases hv
      · cases hv; exact hm
    have h1 : PurgedOver [] b ((b.setLeaf l ⟨.voiding, none, none⟩).setOp k (.voidMark l)) := .of_catalog rfl rfl
    have h2 := h1.and (PurgedOver.releaseSlot (b := (b.setLeaf l ⟨.voiding, none, none⟩).setOp k (.voidMark l)) (n := n)
      hn page index)
    refine PurgedOver.and (h2.and (.of_catalog (Body.dropWindow_catalog _ l) (Body.dropWindow_purges _ l)))
      (.advancePurge ?_)
    rw [Body.dropWindow_purges, Body.releaseSlot_purges]
    exact hn
  | erase l => exact .of_catalog rfl rfl

theorem PurgedOver.arbitrate (b : Body) (part : PartState) (floor : Nat) : PurgedOver [] b (b.arbitrate part floor) :=
  Body.arbitrate_keeps (P := fun c => PurgedOver [] b c) (fun _ h => h.and (.of_catalog rfl rfl))
    (fun _ _ _ h _ _ hw => h.and (.startWork hw)) (.refl b)

/-! ### The purges that are due -/

theorem PurgedOver.startPurges (part : PartState) (floor : Nat) : ∀ (fuel : Nat) (l : List Nat) (b : Body),
    l.length ≤ fuel → PurgedOver l b (Body.startPurges part floor fuel l b)
  | 0, l, b, h => by
    rw [List.length_eq_zero_iff.mp (Nat.le_zero.mp h)]
    exact .refl b
  | fuel + 1, [], b, _ => .refl b
  | fuel + 1, [n], b, _ => by
    unfold Body.startPurges
    exact ((PurgedOver.startPurge b n).trans (.arbitrate _ part floor)).trans (PurgedOver.startPurges part floor fuel [] _ (Nat.zero_le _))
  | fuel + 1, n :: m :: ns, b, h => by
    have hmem : b.pick (n :: m :: ns) ∈ n :: m :: ns := Body.pick_mem nofun
    unfold Body.startPurges
    dsimp only
    generalize b.pick (n :: m :: ns) = chosen at hmem
    have hlen : ((n :: m :: ns).erase chosen).length ≤ fuel := by
      rw [List.length_erase_of_mem hmem]
      simp only [List.length_cons] at h ⊢
      omega
    have h1 : PurgedOver [chosen] b ({ b with draws := b.draws + 1 }.startPurge chosen) :=
      PurgedOver.trans (l := []) (b := { b with draws := b.draws + 1 }) (.of_catalog rfl rfl) (.startPurge _ chosen)
    have h2 := (h1.trans (.arbitrate _ part floor)).trans (PurgedOver.startPurges part floor fuel _ _ hlen)
    refine h2.congr fun x => ?_
    rw [List.append_nil, List.mem_append, List.mem_singleton]
    by_cases hx : x = chosen
    · subst hx; simp [hmem]
    · rw [List.mem_erase_of_ne hx]
      simp [hx]

theorem PurgedOver.startDuePurges {part : PartState} (hp : part.works = true) (b : Body) (floor clock : Nat) :
    PurgedOver (b.dueSlots clock) b (b.startDuePurges part floor clock) := by
  unfold Body.startDuePurges
  rw [if_pos hp]
  exact .startPurges part floor _ _ b (le_refl _)

end Sys2Proof.Machine
end

section
/-! Ticks and settings of the clock: the counts, and the purges that the risen clock makes due. -/

namespace Sys2Proof.Machine

/-! ### Documents that are due -/

theorem Document.movedFrom_due {d f : Document} (h : d.movedFrom f) (clock : Nat) :
    dueForPurge f clock ↔ dueForPurge d clock := by
  rw [h]
  rfl

theorem not_due_of_purging {d : Document} (h : d.state = .purging) (clock : Nat) : ¬ dueForPurge d clock := fun hd => by
  rw [hd.1] at h
  cases h

theorem Body.mem_dueSlots {b : Body} {clock n : Nat} :
    n ∈ b.dueSlots clock ↔ ∃ e ∈ b.documents, e.1 = n ∧ dueForPurge e.2 clock := by
  unfold Body.dueSlots
  simp only [List.mem_map, List.mem_filter, Document.due_iff]
  constructor
  · rintro ⟨e, ⟨he, hd⟩, rfl⟩; exact ⟨e, he, rfl, hd⟩
  · rintro ⟨e, he, rfl, hd⟩; exact ⟨e, ⟨he, hd⟩, rfl⟩

theorem Body.dueSlots_eq_nil {b : Body} {clock : Nat} :
    b.dueSlots clock = [] ↔ ∀ e ∈ b.documents, ¬ dueForPurge e.2 clock := by
  rw [List.eq_nil_iff_forall_not_mem]
  simp only [Body.mem_dueSlots, not_exists, not_and]
  exact ⟨fun h e he hd => h e.1 e he rfl hd, fun h n e he _ hd => h e he hd⟩

theorem Body.mem_dueSlots_of_doc {b : Body} {clock n : Nat} {d : Document} (hd : b.doc n = some d)
    (h : dueForPurge d clock) : n ∈ b.dueSlots clock :=
  Body.mem_dueSlots.mpr ⟨(n, d), Body.documents_of_doc hd, rfl, h⟩

/-- The purge of every document due at a clock value has started (R149): the bodies before and after. -/
structure DuePurged (clock : Nat) (b c : Body) : Prop where
  settled : ∀ n d, c.doc n = some d → ¬ dueForPurge d clock
  started : ∀ n d, b.doc n = some d → dueForPurge d clock →
    c.doc n = none ∨ ∃ f, c.doc n = some f ∧ f.state = .purging ∧ f.serial = d.serial ∧ n ∈ c.purges
  listed : ∀ n ∈ c.purges, n ∈ b.purges ∨ ∃ e ∈ b.documents, e.1 = n ∧ dueForPurge e.2 clock
  kept : ∀ n d, b.doc n = some d → n ∉ b.purges → (∀ e ∈ b.documents, e.1 = n → ¬ dueForPurge e.2 clock) →
    ∃ f, c.doc n = some f ∧ f = { d with pages := f.pages }

/-- The banks' work before and after the purges that are due makes none due and undoes none. -/
theorem DuePurged.of_purgedOver {clock : Nat} {b m e c : Body} (h1 : PurgedOver [] b m)
    (h2 : PurgedOver (m.dueSlots clock) m e) (h3 : PurgedOver [] e c) : DuePurged clock b c := by
  have h : PurgedOver (m.dueSlots clock) b c :=
    ((h1.trans h2).trans h3).congr fun n => by rw [List.nil_append, List.append_nil]
  have hdue : ∀ n, n ∈ m.dueSlots clock → ∃ g ∈ b.documents, g.1 = n ∧ dueForPurge g.2 clock := by
    intro n hn
    obtain ⟨i, hi, hin, hd⟩ := Body.mem_dueSlots.mp hn
    obtain ⟨g, hg, hgi, hm⟩ := h1.entries i hi
    refine ⟨g, hg, hgi.trans hin, ?_⟩
    rcases hm with hm | hm
    · exact absurd hd (not_due_of_purging hm clock)
    · exact (Document.movedFrom_due hm clock).mp hd
  refine ⟨fun n f hf hd => ?_, fun n d hd hdd => ?_, fun n hn => ?_, fun n d hd hp hno => ?_⟩
  · by_cases hn : n ∈ m.dueSlots clock
    · obtain ⟨_, d, _, hfd⟩ := h.started n hn f hf
      exact not_due_of_purging (d := f) (by rw [hfd]) clock hd
    · obtain ⟨f', hf', hff, _⟩ := h3.others n List.not_mem_nil f hf
      obtain ⟨d, hdm, hdf, _⟩ := h2.others n hn f' hf'
      exact hn (Body.mem_dueSlots_of_doc hdm ((Document.movedFrom_due (Document.movedFrom_trans hdf hff) clock).mp hd))
  · by_cases hn : n ∈ m.dueSlots clock
    · cases hf : c.doc n with
      | none => exact .inl rfl
      | some f =>
        obtain ⟨hp, d', hd', hfd⟩ := h.started n hn f hf
        rw [hd] at hd'
        cases hd'
        exact .inr ⟨f, rfl, by rw [hfd], by rw [hfd], hp⟩
    · left
      cases hm : m.doc n with
      | none =>
        cases hc : c.doc n with
        | none => rfl
        | some f =>
          obtain ⟨f', hf', _⟩ := h3.others n List.not_mem_nil f hc
          obtain ⟨d', hd', _⟩ := h2.others n hn f' hf'
          rw [hm] at hd'
          cases hd'
      | some f =>
        obtain ⟨d', hd', hmv, _⟩ := h1.others n List.not_mem_nil f hm
        rw [hd] at hd'
        cases hd'
        exact absurd (Body.mem_dueSlots_of_doc hm ((Document.movedFrom_due hmv clock).mpr hdd)) hn
  · exact (h.listed n hn).imp_right (hdue n)
  · have hn : n ∉ m.dueSlots clock := fun hn => by
      obtain ⟨g, hg, hgn, hgd⟩ := hdue n hn
      exact hno g hg hgn hgd
    cases hf : c.doc n with
    | none => rcases h.gone n hf with hg | hg | hg <;> simp_all
    | some f =>
      obtain ⟨d', hd', hmv, hr, _⟩ := h.others n hn f hf
      rw [hd] at hd'
      cases hd'
      refine ⟨f, rfl, ?_⟩
      conv_lhs => rw [hmv, hr hp]

theorem Body.startDuePurges_duePurged {part : PartState} (hp : part.works = true) (b : Body) (floor clock : Nat) :
    DuePurged clock b (b.startDuePurges part floor clock) :=
  .of_purgedOver (.refl b) (.startDuePurges hp b floor clock) (.refl _)

/-- Where none is due, or none may start, nothing happens. -/
theorem Body.startDuePurges_none {b : Body} {part : PartState} {floor clock : Nat}
    (h : part.works = false ∨ ∀ e ∈ b.documents, ¬ dueForPurge e.2 clock) : b.startDuePurges part floor clock = b := by
  unfold Body.startDuePurges
  rcases h with h | h
  · rw [h]; rfl
  · rw [Body.dueSlots_eq_nil.mpr h]
    split_ifs <;> rfl

theorem Body.startDuePurges_counts (b : Body) (part : PartState) (floor clock : Nat) :
    b.startDuePurges part floor clock = { b.startDuePurges part floor clock with
      nextSerial := b.nextSerial, accounts := b.accounts, attention := b.attention } := by
  have h1 := b.startDuePurges_nextSerial part floor clock
  have h2 := b.startDuePurges_accounts part floor clock
  have h3 := b.startDuePurges_attention part floor clock
  revert h1 h2 h3
  generalize b.startDuePurges part floor clock = c
  intro h1 h2 h3
  rw [← h1, ← h2, ← h3]

/-! ### Ticks -/

theorem Recovery.counts_iff (r : Recovery) :
    r.counts = true ↔ r.part ≠ .rebuilding ∧ (r.part = .off → r.backup = true) := by
  unfold Recovery.counts
  cases r.part <;> simp

theorem exec_tick_counts {s : State} (h : s.recovery.counts = true) : exec .tick s = .next s.quiet.tick := by
  dsimp only [exec, execTick]
  rw [if_pos h]

theorem exec_tick_stands {s : State} (h : s.recovery.counts = false) : exec .tick s = .next { s with sent := none } := by
  dsimp only [exec, execTick]
  rw [h]
  rfl

theorem State.tick_rises {s : State} (h : s.time.clock < s.time.tick.clock) : s.tick.body =
    s.body.startDuePurges s.recovery.part s.tables.floor s.time.tick.clock := by
  unfold State.tick
  dsimp only
  rw [if_pos h]
  rfl

theorem State.tick_stands {s : State} (h : ¬ s.time.clock < s.time.tick.clock) : s.tick.body = s.body := by
  unfold State.tick
  dsimp only
  rw [if_neg h]

theorem State.tick_frame (s : State) : s.tick = { s with time := s.tick.time, body := s.tick.body } := by
  unfold State.tick
  dsimp only
  split_ifs <;> rfl

theorem Timebase.tick_run (t : Timebase) : t.tick.run = min (t.run + 1) 281474976710655 := by
  unfold Timebase.tick
  dsimp only
  split_ifs <;> rfl

theorem Timebase.tick_trusted (t : Timebase) : t.tick.trusted = t.trusted := by
  unfold Timebase.tick
  dsimp only
  split_ifs <;> rfl

theorem Timebase.tick_untrusted {t : Timebase} (h : t.trusted = false) :
    t.tick.clock = t.clock ∧ t.tick.holdBack = t.holdBack := by
  simp [Timebase.tick, h]

theorem Timebase.tick_heldBack {t : Timebase} (h : t.trusted = true) (hb : 0 < t.holdBack) :
    t.tick.clock = t.clock ∧ t.tick.holdBack = t.holdBack - 1 := by
  simp [Timebase.tick, h, hb]

theorem Timebase.tick_free {t : Timebase} (h : t.trusted = true) (hb : t.holdBack = 0) :
    t.tick.clock = min (t.clock + 1) 281474976710655 ∧ t.tick.holdBack = 0 := by
  simp [Timebase.tick, h, hb, saturate, Config.tickMax]

/-- While REBUILDING no command moves the clock. -/
theorem exec_rebuilding_time {c : Instr} {s t : State} (hp : s.recovery.part = .rebuilding) (hr : exec c s = .next t)
    (ht : t.recovery.part = .rebuilding) : t.time = s.time := by
  rcases kind_cases c with hc | hc | hc | hc | hc | ⟨w, rfl⟩ | rfl | ⟨x, rfl⟩ | ⟨hub, node, rfl⟩ | rfl
  · exact (exec_bodyOnly hc hr).time
  · exact (exec_setsTables hc hr).time
  · have hrun : s.recovery.part ≠ .running := by rw [hp]; nofun
    cases c
    case tick =>
      have hcount : s.recovery.counts = false := by unfold Recovery.counts; rw [hp]
      rw [exec_tick_stands hcount] at hr
      rw [next_eq hr]
    case setClock h v =>
      dsimp only [exec, execSetClock] at hr
      rcases request_next hr with rfl | ⟨_, _, rfl⟩ | ⟨_, _, _, h | h, _⟩
      · rfl
      · rfl
      · exact absurd h hrun
      · cases h
    case broadcastSetClock =>
      dsimp only [exec, execBroadcastSetClock] at hr
      split_ifs at hr with _ h
      · simp [hrun] at h
      · rw [next_eq hr]; rfl
    all_goals cases hc
  · obtain ⟨b, f, _, rfl⟩ := exec_endsBankWork hc hr; rfl
  · exact (exec_startsOrWarns hc hr).time
  · exact (execBusReset_next hr).2.1
  · rw [next_eq hr]; rfl
  · rcases execMainPowerLoss_next hr with ⟨_, rfl⟩ | ⟨_, rfl⟩
    · rfl
    · cases ht
  · have := (execMainPowerReturn_next hr).1
    rw [hp] at this
    cases this
  · have := (execBackupSupplyFailure_next hr).1
    rw [hp] at this
    cases this

/-- Settles O42: the counts by the cases of the timebase; the purges of the tick are those that `startDuePurges` starts. -/
theorem ticksCount : Obligations.TicksCount := by
  refine ⟨fun s hp hoff => ?counts, fun c s t hp hr ht => exec_rebuilding_time hp hr ht, fun s h => ?stands⟩
  case stands =>
    refine exec_tick_stands (Bool.eq_false_iff.mpr fun hc => ?_)
    obtain ⟨h1, h2⟩ := (Recovery.counts_iff _).mp hc
    rcases h with h | ⟨h, hb⟩
    · exact h1 h
    · rw [h2 h] at hb; cases hb
  case counts =>
    intro works
    have htime : s.quiet.tick.time = s.time.tick := State.tick_time s.quiet
    have hworks : s.recovery.part.works = true ↔ works := PartState.works_iff
    refine ⟨s.quiet.tick, exec_tick_counts ((Recovery.counts_iff _).mpr ⟨hp, hoff⟩), State.tick_frame s.quiet, ?_⟩
    rw [htime]
    refine ⟨Timebase.tick_run _, Timebase.tick_trusted _, Timebase.tick_untrusted, Timebase.tick_heldBack,
      Timebase.tick_free, fun hq => ?quiet, fun hrise hw => ?purges⟩
    case quiet =>
      by_cases hrise : s.time.clock < s.time.tick.clock
      · refine (State.tick_rises (s := s.quiet) hrise).trans (Body.startDuePurges_none ?_)
        rcases hq with hq | hq | hq
        · omega
        · exact .inl (Bool.eq_false_iff.mpr fun hw => hq (hworks.mp hw))
        · exact .inr hq
      · exact State.tick_stands (s := s.quiet) hrise
    case purges =>
      have hbody : s.quiet.tick.body = s.body.startDuePurges s.recovery.part s.tables.floor s.time.tick.clock :=
        State.tick_rises (s := s.quiet) hrise
      have hd := s.body.startDuePurges_duePurged (hworks.mpr hw) s.tables.floor s.time.tick.clock
      rw [hbody]
      exact ⟨hd.settled, hd.started, hd.listed, hd.kept, Body.startDuePurges_counts _ _ _ _⟩

end Sys2Proof.Machine
end

section
/-! SET CLOCK: a backward setting holds back, a forward one and the first set the clock, resolve what was pending and start
the purges that are then due. -/

namespace Sys2Proof.Machine

/-! ### The resolution of pending retain-untils (R146) -/

/-- A document whose pending retention base becomes known at clock value `v`. -/
def Document.resolved (t : Tables) (v : Nat) (d : Document) : Document :=
  if d.retainUntil = .pending then { d with
    base := .known v
    retainUntil := .known (min (v + t.longestRetention d.departments * 5529600) 281474976710655) } else d

theorem Document.retainResolve_eq (t : Tables) (v : Nat) (d : Document) :
    Document.retainResolve t v d = d.resolved t v := rfl

theorem Document.resolved_resolved (t : Tables) (v : Nat) (d : Document) :
    (d.resolved t v).resolved t v = d.resolved t v := by
  unfold Document.resolved
  split_ifs with h <;> simp_all

/-- A document that was due is not one with a pending retain-until. -/
theorem Document.resolved_of_due {d : Document} {clock : Nat} (h : dueForPurge d clock) (t : Tables) (v : Nat) :
    d.resolved t v = d := by
  obtain ⟨_, _, r, hr, _⟩ := h
  unfold Document.resolved
  rw [if_neg (by rw [hr]; nofun)]

/-- What the fold over a list of entries leaves of a document. -/
theorem foldl_retainResolve_doc (t : Tables) (v : Nat) (l : List (Nat × Document)) (b : Body) (n : Nat) :
    (l.foldl (fun acc e => acc.updDoc e.1 (Document.retainResolve t v)) b).doc n =
      if n ∈ l.map (fun e => e.1) then (b.doc n).map (Document.resolved t v) else b.doc n := by
  have hupd : ∀ (c : Body) (m : Nat), (c.updDoc m (Document.retainResolve t v)).doc n =
      if n = m then (c.doc n).map (Document.resolved t v) else c.doc n := by
    intro c m
    cases hd : c.doc m with
    | none =>
      rw [Body.updDoc_none _ hd]
      split_ifs with h
      · rw [h, hd]; rfl
      · rfl
    | some d =>
      rw [Body.updDoc_eq _ hd, Body.setDoc_doc]
      split_ifs with h
      · rw [h, hd]; rfl
      · rfl
  induction l generalizing b with
  | nil => simp
  | cons e l ih =>
    rw [List.foldl_cons, ih, hupd, List.map_cons]
    by_cases h1 : n = e.1
    · rw [if_pos h1, if_pos (show n ∈ e.1 :: l.map _ from h1 ▸ List.mem_cons_self)]
      split_ifs
      · rw [Option.map_map]
        congr 1
        funext d
        exact d.resolved_resolved t v
      · rfl
    · rw [if_neg h1]
      simp only [List.mem_cons, h1, false_or]

theorem Body.retainResolve_doc (b : Body) (t : Tables) (v n : Nat) :
    (b.retainResolve t v).doc n = (b.doc n).map (Document.resolved t v) := by
  unfold Body.retainResolve
  rw [foldl_retainResolve_doc]
  split_ifs with h
  · rfl
  · cases hd : b.doc n with
    | none => rfl
    | some d => exact absurd (List.mem_map.mpr ⟨(n, d), Body.documents_of_doc hd, rfl⟩) h

theorem foldl_retainResolve_frame (t : Tables) (v : Nat) (l : List (Nat × Document)) (b : Body) :
    l.foldl (fun acc e => acc.updDoc e.1 (Document.retainResolve t v)) b =
      { b with catalog := (l.foldl (fun acc e => acc.updDoc e.1 (Document.retainResolve t v)) b).catalog } := by
  induction l generalizing b with
  | nil => rfl
  | cons e l ih =>
    have hupd : b.updDoc e.1 (Document.retainResolve t v) =
        { b with catalog := (b.updDoc e.1 (Document.retainResolve t v)).catalog } := by
      apply Body.eq_of_fields
      all_goals first | rfl | simp
    rw [List.foldl_cons]
    generalize b.updDoc e.1 (Document.retainResolve t v) = c at hupd
    rw [ih, hupd]

theorem Body.retainResolve_frame (b : Body) (t : Tables) (v : Nat) :
    b.retainResolve t v = { b with catalog := (b.retainResolve t v).catalog } :=
  foldl_retainResolve_frame t v b.documents b

/-- Every entry after the resolution is one from before, resolved or as it was. -/
theorem Body.retainResolve_documents {b : Body} {t : Tables} {v : Nat} {e : Nat × Document}
    (he : e ∈ (b.retainResolve t v).documents) :
    ∃ g ∈ b.documents, g.1 = e.1 ∧ (e.2 = g.2 ∨ e.2 = g.2.resolved t v) := by
  have hfold : ∀ (l : List (Nat × Document)) (c : Body),
      (∀ e ∈ c.documents, ∃ g ∈ b.documents, g.1 = e.1 ∧ (e.2 = g.2 ∨ e.2 = g.2.resolved t v)) →
      ∀ e ∈ (l.foldl (fun acc e => acc.updDoc e.1 (Document.retainResolve t v)) c).documents,
        ∃ g ∈ b.documents, g.1 = e.1 ∧ (e.2 = g.2 ∨ e.2 = g.2.resolved t v) := by
    intro l
    induction l with
    | nil => exact fun c h => h
    | cons x l ih =>
      intro c hc
      refine ih _ fun e he => ?_
      dsimp only at he
      cases hd : c.doc x.1 with
      | none => rw [Body.updDoc_none _ hd] at he; exact hc e he
      | some d =>
        rw [Body.updDoc_eq _ hd] at he
        rcases Body.setSlot_documents he with ⟨h1, h2⟩ | h
        · obtain ⟨g, hg, hgx, hgd⟩ := hc _ (Body.documents_of_doc hd)
          refine ⟨g, hg, hgx.trans h1.symm, .inr ?_⟩
          rw [← Option.some.inj h2, Document.retainResolve_eq]
          rcases hgd with hgd | hgd
          · rw [show d = g.2 from hgd]
          · rw [show d = g.2.resolved t v from hgd, Document.resolved_resolved]
        · exact hc e h
  exact hfold b.documents b (fun e he => ⟨e, he, rfl, .inl rfl⟩) e he

/-- A document due after the resolution is due when resolved. -/
theorem Body.retainResolve_due {b : Body} {t : Tables} {v n : Nat}
    (h : ∃ e ∈ (b.retainResolve t v).documents, e.1 = n ∧ dueForPurge e.2 v) :
    ∃ g ∈ b.documents, g.1 = n ∧ dueForPurge (g.2.resolved t v) v := by
  obtain ⟨e, he, rfl, hd⟩ := h
  obtain ⟨g, hg, hge, h1 | h1⟩ := Body.retainResolve_documents he
  · rw [h1] at hd
    exact ⟨g, hg, hge, by rw [Document.resolved_of_due hd]; exact hd⟩
  · exact ⟨g, hg, hge, h1 ▸ hd⟩

/-! ### The settings -/

theorem Timebase.set_eq (t : Timebase) (v : Nat) : t.set v =
    if t.trusted = true ∧ v < t.clock then { t with holdBack := min (t.clock - v) 57600 }
    else { t with clock := v, trusted := true, holdBack := 0 } := by
  unfold Timebase.set
  cases ht : t.trusted
  · simp
  · have hv : v < t.clock ↔ ¬ t.clock ≤ v := Nat.not_le.symm
    by_cases h : t.clock ≤ v
    · simp [h, hv]
    · simp [h, hv, Config.holdBackCap]

theorem State.setClock_frame (s : State) (v : Nat) :
    s.setClock v = { s with time := (s.setClock v).time, body := (s.setClock v).body } := by
  unfold State.setClock
  dsimp only
  split_ifs <;> rfl

theorem State.setClock_back {s : State} {v : Nat} (ht : s.time.trusted = true) (h : v < s.time.clock) :
    (s.setClock v).body = s.body := by
  unfold State.setClock
  dsimp only
  rw [if_neg (by simp [ht]), if_neg (by omega)]

theorem State.setClock_forward {s : State} {v : Nat} (ht : s.time.trusted = true) (h : s.time.clock ≤ v) :
    (s.setClock v).body = s.body.startDuePurges s.recovery.part s.tables.floor v := by
  unfold State.setClock
  dsimp only
  rw [if_neg (by simp [ht]), if_pos h]
  rfl

theorem State.setClock_first {s : State} {v : Nat} (ht : s.time.trusted = false) :
    (s.setClock v).body = (s.body.retainResolve s.tables v).startDuePurges s.recovery.part s.tables.floor v := by
  unfold State.setClock
  dsimp only
  rw [if_pos (by simp [ht])]
  rfl

/-- The purges due after a resolution, in terms of the documents before it. -/
structure ResolvedPurged (asked : Document → Document) (v : Nat) (b c : Body) : Prop where
  settled : ∀ n d, c.doc n = some d → ¬ dueForPurge d v
  started : ∀ n d, b.doc n = some d → dueForPurge (asked d) v →
    c.doc n = none ∨ ∃ f, c.doc n = some f ∧ f.state = .purging ∧ f.serial = d.serial ∧ n ∈ c.purges
  listed : ∀ n ∈ c.purges, n ∈ b.purges ∨ ∃ e ∈ b.documents, e.1 = n ∧ dueForPurge (asked e.2) v
  kept : ∀ n d, b.doc n = some d → n ∉ b.purges → (∀ e ∈ b.documents, e.1 = n → ¬ dueForPurge (asked e.2) v) →
    ∃ f, c.doc n = some f ∧ f = { asked d with pages := f.pages }

theorem ResolvedPurged.of_duePurged {v : Nat} {b c : Body} (h : DuePurged v b c) : ResolvedPurged id v b c :=
  ⟨h.settled, h.started, h.listed, h.kept⟩

theorem Document.resolved_serial (t : Tables) (v : Nat) (d : Document) : (d.resolved t v).serial = d.serial := by
  unfold Document.resolved
  split_ifs <;> rfl

theorem ResolvedPurged.of_resolved {t : Tables} {v : Nat} {b c : Body} (h : DuePurged v (b.retainResolve t v) c) :
    ResolvedPurged (Document.resolved t v) v b c := by
  have hdoc : ∀ n d, b.doc n = some d → (b.retainResolve t v).doc n = some (d.resolved t v) := fun n d hd => by
    rw [Body.retainResolve_doc, hd]
    rfl
  have hpurges : (b.retainResolve t v).purges = b.purges := by rw [Body.retainResolve_frame]
  refine ⟨h.settled, fun n d hd hdue => ?_, fun n hn => ?_, fun n d hd hp hno => ?_⟩
  · have := h.started n _ (hdoc n d hd) hdue
    rwa [Document.resolved_serial] at this
  · exact (h.listed n hn).imp (fun hp => hpurges ▸ hp) Body.retainResolve_due
  · refine h.kept n _ (hdoc n d hd) (hpurges ▸ hp) fun e he hen hdue => ?_
    obtain ⟨g, hg, hgn, hgd⟩ := Body.retainResolve_due ⟨e, he, hen, hdue⟩
    exact hno g hg hgn hgd

/-- What a setting that moves the clock does to the body. -/
theorem State.setClock_moves {s : State} {v : Nat} (hp : s.recovery.part.works = true)
    (h : s.time.trusted = false ∨ s.time.clock ≤ v) :
    ResolvedPurged (fun d => if s.time.trusted = false then d.resolved s.tables v else d) v s.body (s.setClock v).body := by
  cases ht : s.time.trusted with
  | false =>
    rw [State.setClock_first ht]
    simp only [if_true]
    exact .of_resolved (Body.startDuePurges_duePurged hp _ _ v)
  | true =>
    rw [State.setClock_forward ht (h.resolve_left (by simp [ht]))]
    exact .of_duePurged (Body.startDuePurges_duePurged hp _ _ v)

theorem State.setClock_counts {s : State} {v : Nat} (h : s.time.trusted = false ∨ s.time.clock ≤ v) :
    (s.setClock v).body = { (s.setClock v).body with
      nextSerial := s.body.nextSerial, accounts := s.body.accounts, attention := s.body.attention } := by
  cases ht : s.time.trusted with
  | false =>
    rw [State.setClock_first ht]
    have hc := Body.startDuePurges_counts (s.body.retainResolve s.tables v) s.recovery.part s.tables.floor v
    rw [s.body.retainResolve_frame s.tables v] at hc ⊢
    exact hc
  | true =>
    rw [State.setClock_forward ht (h.resolve_left (by simp [ht]))]
    exact Body.startDuePurges_counts _ _ _ _

/-- Where no document is due, a setting that moves the clock resolves at most. -/
theorem State.setClock_noneDue {s : State} {v : Nat} (h : s.time.trusted = false ∨ s.time.clock ≤ v)
    (hno : ∀ e ∈ s.body.documents, ¬ dueForPurge (if s.time.trusted = false then e.2.resolved s.tables v else e.2) v) :
    (s.setClock v).body = if s.time.trusted = false then s.body.retainResolve s.tables v else s.body := by
  cases ht : s.time.trusted with
  | false =>
    simp only [ht, if_true] at hno
    rw [State.setClock_first ht]
    refine Body.startDuePurges_none (.inr fun e he hd => ?_)
    obtain ⟨g, hg, _, hgd⟩ := Body.retainResolve_due ⟨e, he, rfl, hd⟩
    exact hno g hg hgd
  | true =>
    simp only [ht] at hno
    rw [State.setClock_forward ht (h.resolve_left (by simp [ht]))]
    exact Body.startDuePurges_none (.inr hno)

/-! ### The commands -/

/-- A broadcast SET CLOCK that is not taken (R172). -/
theorem exec_broadcastSetClock_silent {s : State} {sender : BitVec 6} (value : BitVec 48) (hf : s.txn.held = false)
    (h : s.tables.role sender.toNat ≠ .records ∨ s.recovery.part ≠ .running ∨ s.resetHeld = true) :
    exec (.broadcastSetClock sender value) s = .next s.nextPacket := by
  dsimp only [exec, execBroadcastSetClock]
  rw [if_neg (by simp [hf]), if_neg]
  unfold State.hears
  rcases h with h | h | h <;> simp [h]

theorem exec_broadcastSetClock_taken {s : State} {h : Head} (hh : Heard s h .records) (value : BitVec 48) :
    exec (.broadcastSetClock h.sender value) s = .next (s.nextPacket.setClock value.toNat) := by
  dsimp only [exec, execBroadcastSetClock]
  rw [if_neg (by simp [hh.free]), if_pos]
  simp [State.hears, hh.running, hh.listens, hh.role]

theorem exec_setClock {s : State} {h : Head} (hh : Heard s h .records) (value : BitVec 48) :
    exec (.setClock h value) s = .next (answered (s.nextPacket.setClock value.toNat) .records .setClock
      (.setClock value.toNat (s.nextPacket.setClock value.toNat).time.clock
        (s.nextPacket.setClock value.toNat).time.trusted (s.nextPacket.setClock value.toNat).time.holdBack)) := by
  dsimp only [exec, execSetClock]
  rw [request_taken hh nofun rfl rfl]
  rfl

/-- Settles O43. -/
theorem setClockSetsOrHoldsBack : Obligations.SetClockSetsOrHoldsBack := by
  refine ⟨fun s sender value hf h => exec_broadcastSetClock_silent value hf h, fun s h value hh => ?_⟩
  intro v untilOf asked
  have hworks : s.nextPacket.recovery.part.works = true := by rw [State.nextPacket_recovery, hh.running]; rfl
  have hasked : asked = fun d => if s.time.trusted = false then d.resolved s.tables v else d := by
    funext d
    show (if s.time.trusted = false ∧ d.retainUntil = .pending then _ else d) = _
    unfold Document.resolved
    cases s.time.trusted <;> simp [untilOf]
  refine ⟨s.nextPacket.setClock v, exec_setClock hh value, exec_broadcastSetClock_taken hh value,
    State.setClock_frame s.nextPacket v, fun ht hv => ⟨?_, State.setClock_back (s := s.nextPacket) ht hv⟩, fun hv => ?_⟩
  · rw [State.setClock_time]
    exact (Timebase.set_eq s.time v).trans (if_pos ⟨ht, hv⟩)
  · have hm := State.setClock_moves (s := s.nextPacket) (v := v) hworks hv
    have hc := State.setClock_counts (s := s.nextPacket) (v := v) hv
    have hn := State.setClock_noneDue (s := s.nextPacket) (v := v) hv
    have htime : (s.nextPacket.setClock v).time = s.time.set v := State.setClock_time s.nextPacket v
    rw [hasked]
    refine ⟨?_, hm.settled, hm.started, hm.listed, hm.kept, hc, fun hno => ?_⟩
    · rw [htime, Timebase.set_eq, if_neg fun hb => ?_]
      rcases hv with hv | hv
      · rw [hb.1] at hv; cases hv
      · exact absurd hb.2 (Nat.not_lt.mpr hv)
    · have hbody := hn hno
      rw [hbody]
      refine ⟨fun n hd => ?_, ?_, fun ht => ?_⟩
      · split_ifs
        · rw [Body.retainResolve_doc]
          exact congrArg (Option.map _) hd
        · exact hd
      · split_ifs
        · exact Body.retainResolve_frame _ _ _
        · rfl
      · rw [if_neg (by rw [State.nextPacket_time, ht]; nofun)]
        rfl

end Sys2Proof.Machine
end

section
/-! What waits for the part to become RUNNING: the escalations that are due fire one after another, and the banks and the
purges that are due work (R117, R118, R149, R161). -/

namespace Sys2Proof.Machine

/-! ### One document, several escalations -/

/-- An escalation fires on one obligation. -/
def Obligation.fired (o : Obligation) : Obligation := { o with escalated := true, deadline := none }

/-- A document on which the obligations of some departments escalate one after another (R117). -/
def Document.escalatedAll (t : Tables) (run : Nat) (depts : List Nat) (d : Document) : Document :=
  depts.foldl (fun e x => e.escalated t run x) d

theorem Document.escalatedAll_cons (t : Tables) (run x : Nat) (depts : List Nat) (d : Document) :
    d.escalatedAll t run (x :: depts) = (d.escalated t run x).escalatedAll t run depts := rfl

theorem Document.escalatedAll_append (t : Tables) (run : Nat) (l m : List Nat) (d : Document) :
    d.escalatedAll t run (l ++ m) = (d.escalatedAll t run l).escalatedAll t run m := List.foldl_append

/-- The obligations of the departments listed have fired. -/
def firedIn (depts : List Nat) (q : Obligation) : Obligation := if q.department ∈ depts then q.fired else q

@[simp] theorem firedIn_department (depts : List Nat) (q : Obligation) : (firedIn depts q).department = q.department := by
  unfold firedIn
  split_ifs <;> rfl

theorem firedIn_cons (x : Nat) (depts : List Nat) (q : Obligation) :
    firedIn depts (firedIn [x] q) = firedIn (x :: depts) q := by
  unfold firedIn
  by_cases h1 : q.department = x <;> by_cases h2 : q.department ∈ depts <;> simp [h1, h2, Obligation.fired]

theorem firedIn_nil : firedIn [] = id := by
  funext q
  simp [firedIn]

theorem Document.escalated_eq (t : Tables) (run : Nat) (d : Document) (x : Nat) :
    d.escalated t run x = { d with
      obligations := d.obligations.map (firedIn [x]) ++
        (if d.obliges 0 then [] else [⟨0, .escalated, .pending, run, none, false, 0⟩]),
      departments := if d.obliges 0 then d.departments else insertRising 0 d.departments,
      retainUntil := if d.obliges 0 then d.retainUntil else raisedUntil t d 0 } := by
  rw [Document.escalated_fields]
  have : (fun q : Obligation => if q.department = x then ({ q with escalated := true, deadline := none } : Obligation) else q) =
      firedIn [x] := by
    funext q
    simp [firedIn, Obligation.fired]
  rw [this]

theorem Document.escalated_obliges (t : Tables) (run : Nat) (d : Document) (x : Nat) :
    (d.escalated t run x).obliges 0 = true := by
  rw [Document.escalated_eq]
  unfold Document.obliges
  dsimp only
  rw [List.any_append]
  by_cases h : d.obligations.any (fun o => o.department == 0) = true
  · rw [List.any_map]
    simp [h, Function.comp_def]
  · simp [Bool.eq_false_iff.mpr h]

/-- Where intake is obliged the escalations only mark (R117). -/
theorem Document.escalatedAll_obliged (t : Tables) (run : Nat) (depts : List Nat) {d : Document} (h : d.obliges 0 = true) :
    d.escalatedAll t run depts = { d with obligations := d.obligations.map (firedIn depts) } := by
  induction depts generalizing d with
  | nil => rw [firedIn_nil, List.map_id]; rfl
  | cons x depts ih =>
    rw [Document.escalatedAll_cons, ih (d.escalated_obliges t run x), Document.escalated_eq]
    simp only [h, if_true, List.append_nil, List.map_map]
    congr 1
    refine List.map_congr_left fun q _ => ?_
    exact firedIn_cons x depts q

/-- Intake's obligation as the first of several escalations creates it. -/
def escalatedIntake (run : Nat) (depts : List Nat) : Obligation := firedIn depts ⟨0, .escalated, .pending, run, none, false, 0⟩

/-- What several escalations leave of a document (R117). -/
theorem Document.escalatedAll_eq (t : Tables) (run x : Nat) (depts : List Nat) (d : Document) :
    d.escalatedAll t run (x :: depts) = { d with
      obligations := d.obligations.map (firedIn (x :: depts)) ++
        (if d.obliges 0 then [] else [escalatedIntake run depts]),
      departments := if d.obliges 0 then d.departments else insertRising 0 d.departments,
      retainUntil := if d.obliges 0 then d.retainUntil else raisedUntil t d 0 } := by
  rw [Document.escalatedAll_cons, Document.escalatedAll_obliged t run depts (d.escalated_obliges t run x),
    Document.escalated_eq]
  have hmap : (d.obligations.map (firedIn [x])).map (firedIn depts) = d.obligations.map (firedIn (x :: depts)) := by
    rw [List.map_map]
    exact List.map_congr_left fun q _ => firedIn_cons x depts q
  cases h : d.obliges 0 <;> simp only [Bool.false_eq_true, if_false, if_true, List.map_append, hmap, List.map_cons,
    List.map_nil, escalatedIntake]

section

variable (t : Tables) (run : Nat) (depts : List Nat) (d : Document)

/-- Escalations change obligations, retention departments and retain-until alone. -/
theorem Document.escalatedAll_frame : d.escalatedAll t run depts = { d with
    obligations := (d.escalatedAll t run depts).obligations
    departments := (d.escalatedAll t run depts).departments
    retainUntil := (d.escalatedAll t run depts).retainUntil } := by
  cases depts with
  | nil => rfl
  | cons x depts => rw [Document.escalatedAll_eq]

theorem Document.escalatedAll_obliges (h : depts ≠ []) : (d.escalatedAll t run depts).obliges 0 = true := by
  obtain ⟨x, rest, rfl⟩ := List.exists_cons_of_ne_nil h
  cases hd : d.obliges 0 with
  | true =>
    rw [Document.escalatedAll_obliged t run _ hd]
    unfold Document.obliges at hd ⊢
    rw [List.any_map]
    simpa [Function.comp_def] using hd
  | false =>
    rw [Document.escalatedAll_eq, hd]
    simp [Document.obliges, escalatedIntake]

/-- An obligation of a department listed has fired, another is as it was. -/
theorem Document.escalatedAll_obligation {x : Nat} {o : Obligation} (h : d.obligation x = some o) :
    (d.escalatedAll t run depts).obligation x = some (firedIn depts o) := by
  have hmap : ∀ l : List Nat, (d.obligations.map (firedIn l)).find? (fun q => q.department == x) = some (firedIn l o) := by
    intro l
    rw [List.find?_map]
    have : ((fun q : Obligation => q.department == x) ∘ firedIn l) = fun q => q.department == x := by
      funext q
      simp
    rw [this]
    unfold Document.obligation at h
    rw [h]
    rfl
  cases depts with
  | nil => rw [firedIn_nil]; exact h
  | cons y depts =>
    rw [Document.escalatedAll_eq]
    unfold Document.obligation
    dsimp only
    rw [List.find?_append, hmap]
    rfl

/-- What is still waiting to escalate is an old obligation of a department not listed. -/
theorem Document.escalatedAll_reached {o : Obligation} (ho : o ∈ (d.escalatedAll t run depts).obligations)
    (hr : o.reached run) : o ∈ d.obligations ∧ o.department ∉ depts := by
  cases depts with
  | nil => exact ⟨ho, List.not_mem_nil⟩
  | cons y depts =>
    rw [Document.escalatedAll_eq] at ho
    obtain ⟨r, hdl, _⟩ := hr
    rcases List.mem_append.mp ho with ho | ho
    · obtain ⟨q, hq, rfl⟩ := List.mem_map.mp ho
      unfold firedIn at hdl ⊢
      split_ifs at hdl ⊢ with h
      · cases hdl
      · exact ⟨hq, h⟩
    · split_ifs at ho
      · cases ho
      · rw [List.mem_singleton] at ho
        subst ho
        unfold escalatedIntake firedIn at hdl
        split_ifs at hdl
        all_goals cases hdl

/-- A document that is due after escalations was due before. -/
theorem Document.escalatedAll_due {clock : Nat} (h : dueForPurge (d.escalatedAll t run depts) clock) :
    dueForPurge d clock := by
  cases depts with
  | nil => exact h
  | cons y depts =>
    rw [Document.escalatedAll_eq] at h
    obtain ⟨hst, hh, r, hr, hle⟩ := h
    refine ⟨hst, hh, ?_⟩
    dsimp only at hr
    split_ifs at hr with h0
    · exact ⟨r, hr, hle⟩
    · unfold raisedUntil at hr
      split at hr
      · rename_i r' base hu _
        cases hr
        exact ⟨r', hu, (le_max_left _ _).trans hle⟩
      · exact ⟨r, hr, hle⟩

end

/-! ### The whole catalog -/

/-- The escalations that are due, as slots and departments. -/
def Body.overdues (b : Body) (run : Nat) : List (Nat × Nat) :=
  b.documents.flatMap (fun e => (e.2.obligations.filter (fun o => o.overdue run)).map (fun o => (e.1, o.department)))

/-- Several escalations one after another. -/
def Body.escalating (b : Body) (t : Tables) (run : Nat) (ps : List (Nat × Nat)) : Body :=
  ps.foldl (fun acc p => acc.escalate t run p.1 p.2) b

theorem Body.escalateDue_eq (b : Body) (t : Tables) (run : Nat) : b.escalateDue t run = b.escalating t run (b.overdues run) :=
  rfl

theorem Body.mem_overdues {b : Body} {run n x : Nat} :
    (n, x) ∈ b.overdues run ↔ ∃ d, (n, d) ∈ b.documents ∧ ∃ o ∈ d.obligations, o.reached run ∧ o.department = x := by
  unfold Body.overdues
  simp only [List.mem_flatMap, List.mem_map, List.mem_filter, Obligation.overdue_iff, Prod.mk.injEq]
  constructor
  · rintro ⟨⟨m, d⟩, he, o, ⟨ho, hr⟩, rfl, rfl⟩; exact ⟨d, he, o, ho, hr, rfl⟩
  · rintro ⟨d, he, o, ho, hr, rfl⟩; exact ⟨(n, d), he, o, ⟨ho, hr⟩, rfl, rfl⟩

theorem Body.escalate_none {b : Body} {t : Tables} {run n x : Nat} (hd : b.doc n = none) : b.escalate t run n x = b := by
  unfold Body.escalate
  rw [Body.updDoc_none _ hd]
  dsimp only
  rw [hd]

theorem Body.escalate_doc (b : Body) (t : Tables) (run n x m : Nat) :
    (b.escalate t run n x).doc m = if m = n then (b.doc m).map (fun d => d.escalated t run x) else b.doc m := by
  cases hd : b.doc n with
  | none =>
    rw [Body.escalate_none hd]
    split_ifs with h
    · rw [h, hd]; rfl
    · rfl
  | some d =>
    have hset : (b.escalate t run n x).doc m = (b.setDoc n (d.escalated t run x)).doc m := by
      cases h0 : d.obliges 0 with
      | true => rw [Body.escalate_obliged t run x hd h0]
      | false => rw [Body.escalate_unobliged t run x hd h0]; exact Body.doc_congr rfl m
    rw [hset, Body.setDoc_doc]
    split_ifs with h
    · rw [h, hd]; rfl
    · rfl

theorem Body.escalate_account (b : Body) (t : Tables) (run n x y : Nat) :
    (b.escalate t run n x).account y = b.account y := by
  cases hd : b.doc n with
  | none => rw [Body.escalate_none hd]
  | some d =>
    cases h0 : d.obliges 0 with
    | true => rw [Body.escalate_obliged t run x hd h0]; rfl
    | false =>
      rw [Body.escalate_unobliged t run x hd h0]
      refine (Table.read_write 0 b.accounts 0 y (b.account 0)).trans ?_
      split_ifs with h
      · rw [h]
      · rfl

theorem Body.escalate_attends (b : Body) (t : Tables) (run n x y : Nat) : (b.escalate t run n x).attends y =
    if y = 0 ∧ ∃ d, b.doc n = some d ∧ d.obliges 0 = false then true else b.attends y := by
  cases hd : b.doc n with
  | none => rw [Body.escalate_none hd, if_neg (by simp)]
  | some d =>
    cases h0 : d.obliges 0 with
    | true =>
      rw [Body.escalate_obliged t run x hd h0, if_neg (by simp [h0])]
      rfl
    | false =>
      rw [Body.escalate_unobliged t run x hd h0]
      refine (Table.read_write false b.attention 0 y true).trans ?_
      simp only [Option.some.injEq, exists_eq_left', h0, and_true]
      rfl

theorem Body.escalate_frame (b : Body) (t : Tables) (run n x : Nat) : b.escalate t run n x = { b with
    catalog := (b.escalate t run n x).catalog
    accounts := (b.escalate t run n x).accounts
    attention := (b.escalate t run n x).attention } := by
  cases hd : b.doc n with
  | none => rw [Body.escalate_none hd]
  | some d =>
    cases h0 : d.obliges 0 with
    | true => rw [Body.escalate_obliged t run x hd h0]; rfl
    | false => rw [Body.escalate_unobliged t run x hd h0]

theorem Body.escalate_documents {b : Body} {t : Tables} {run n x : Nat} {e : Nat × Document}
    (he : e ∈ (b.escalate t run n x).documents) :
    e ∈ b.documents ∨ (e.1 = n ∧ ∃ d, (n, d) ∈ b.documents ∧ e.2 = d.escalated t run x) := by
  cases hd : b.doc n with
  | none => rw [Body.escalate_none hd] at he; exact .inl he
  | some d =>
    have hset : e ∈ (b.setDoc n (d.escalated t run x)).documents := by
      cases h0 : d.obliges 0 with
      | true => rwa [Body.escalate_obliged t run x hd h0] at he
      | false => rw [Body.escalate_unobliged t run x hd h0] at he; exact he
    rcases Body.setSlot_documents hset with ⟨h1, h2⟩ | h
    · exact .inr ⟨h1, d, Body.documents_of_doc hd, (Option.some.inj h2).symm⟩
    · exact .inl h

section

variable (t : Tables) (run : Nat)

theorem Body.escalating_cons (b : Body) (p : Nat × Nat) (ps : List (Nat × Nat)) :
    b.escalating t run (p :: ps) = (b.escalate t run p.1 p.2).escalating t run ps := rfl

/-- The departments that escalate on slot `n`. -/
def deptsOf (ps : List (Nat × Nat)) (n : Nat) : List Nat := (ps.filter (fun p => p.1 = n)).map (fun p => p.2)

theorem mem_deptsOf {ps : List (Nat × Nat)} {n x : Nat} : x ∈ deptsOf ps n ↔ (n, x) ∈ ps := by
  unfold deptsOf
  simp only [List.mem_map, List.mem_filter, decide_eq_true_eq]
  constructor
  · rintro ⟨⟨m, y⟩, ⟨h, rfl⟩, rfl⟩; exact h
  · intro h; exact ⟨(n, x), ⟨h, rfl⟩, rfl⟩

theorem Body.escalating_doc (ps : List (Nat × Nat)) (b : Body) (n : Nat) :
    (b.escalating t run ps).doc n = (b.doc n).map (Document.escalatedAll t run (deptsOf ps n)) := by
  induction ps generalizing b with
  | nil =>
    show b.doc n = _
    cases b.doc n <;> rfl
  | cons p ps ih =>
    rw [Body.escalating_cons, ih, Body.escalate_doc]
    by_cases h : n = p.1
    · have : deptsOf (p :: ps) n = p.2 :: deptsOf ps n := by simp [deptsOf, h]
      rw [if_pos h, this, Option.map_map]
      rfl
    · have : deptsOf (p :: ps) n = deptsOf ps n := by simp [deptsOf, Ne.symm h]
      rw [if_neg h, this]

theorem Body.escalating_account (ps : List (Nat × Nat)) (b : Body) (y : Nat) :
    (b.escalating t run ps).account y = b.account y :=
  foldl_keeps (fun c : Body => c.account y) _ (fun c (p : Nat × Nat) => c.escalate_account t run p.1 p.2 y) ps b

theorem Body.escalating_frame (ps : List (Nat × Nat)) (b : Body) : b.escalating t run ps = { b with
    catalog := (b.escalating t run ps).catalog
    accounts := (b.escalating t run ps).accounts
    attention := (b.escalating t run ps).attention } := by
  induction ps generalizing b with
  | nil => rfl
  | cons p ps ih =>
    rw [Body.escalating_cons]
    have h := b.escalate_frame t run p.1 p.2
    generalize b.escalate t run p.1 p.2 = c at h
    rw [ih, h]

theorem Body.escalating_attends_other (ps : List (Nat × Nat)) (b : Body) {y : Nat} (hy : y ≠ 0) :
    (b.escalating t run ps).attends y = b.attends y :=
  foldl_keeps (fun c : Body => c.attends y) _
    (fun c (p : Nat × Nat) => (c.escalate_attends t run p.1 p.2 y).trans (if_neg fun h => hy h.1)) ps b

theorem Body.escalating_attends_obliged (ps : List (Nat × Nat)) (b : Body)
    (h : ∀ p ∈ ps, ∀ d, b.doc p.1 = some d → d.obliges 0 = true) (y : Nat) :
    (b.escalating t run ps).attends y = b.attends y := by
  induction ps generalizing b with
  | nil => rfl
  | cons p ps ih =>
    rw [Body.escalating_cons, ih, Body.escalate_attends, if_neg]
    · rintro ⟨_, d, hd, h0⟩
      rw [h p List.mem_cons_self d hd] at h0
      cases h0
    · intro q hq d hd
      rw [Body.escalate_doc] at hd
      split_ifs at hd
      · obtain ⟨e, _, rfl⟩ := Option.map_eq_some_iff.mp hd
        exact e.escalated_obliges t run p.2
      · exact h q (List.mem_cons_of_mem _ hq) d hd

theorem Body.escalating_attends_mono (ps : List (Nat × Nat)) (b : Body) {y : Nat} (h : b.attends y = true) :
    (b.escalating t run ps).attends y = true :=
  foldl_preserves (fun c : Body => c.attends y = true) _ (fun c (p : Nat × Nat) hc => by
    rw [Body.escalate_attends]
    split_ifs
    · rfl
    · exact hc) ps b h

theorem Body.escalating_attends_intake (ps : List (Nat × Nat)) (b : Body) {p : Nat × Nat} {d : Document} (hp : p ∈ ps)
    (hd : b.doc p.1 = some d) (h0 : d.obliges 0 = false) : (b.escalating t run ps).attends 0 = true := by
  induction ps generalizing b with
  | nil => cases hp
  | cons q ps ih =>
    rw [Body.escalating_cons]
    by_cases hq : q.1 = p.1
    · refine Body.escalating_attends_mono t run ps _ ?_
      rw [Body.escalate_attends, if_pos ⟨rfl, d, hq ▸ hd, h0⟩]
    · rcases List.mem_cons.mp hp with rfl | hp
      · exact absurd rfl hq
      · refine ih _ hp ?_
        rw [Body.escalate_doc, if_neg (Ne.symm hq)]
        exact hd

/-- Every entry after escalations is one from before, on which some departments listed for it have escalated. -/
theorem Body.escalating_documents (ps : List (Nat × Nat)) (b : Body) {e : Nat × Document}
    (he : e ∈ (b.escalating t run ps).documents) :
    ∃ g ∈ b.documents, g.1 = e.1 ∧ ∃ ds, (∀ x ∈ ds, (e.1, x) ∈ ps) ∧ e.2 = g.2.escalatedAll t run ds := by
  induction ps generalizing b with
  | nil => exact ⟨e, he, rfl, [], by simp, rfl⟩
  | cons p ps ih =>
    obtain ⟨g, hg, hge, ds, hds, heq⟩ := ih _ he
    rcases Body.escalate_documents hg with hg | ⟨hgp, d, hd, hgd⟩
    · exact ⟨g, hg, hge, ds, fun x hx => List.mem_cons_of_mem _ (hds x hx), heq⟩
    · refine ⟨(p.1, d), hd, hgp.symm.trans hge, p.2 :: ds, fun x hx => ?_, ?_⟩
      · rcases List.mem_cons.mp hx with rfl | hx
        · rw [← hge, hgp]; exact List.mem_cons_self
        · exact List.mem_cons_of_mem _ (hds x hx)
      · rw [heq, hgd]; rfl

end

end Sys2Proof.Machine
end

section
/-! The part becomes RUNNING, or POWER_FAIL directly from a start: what had waited for it has happened. -/

namespace Sys2Proof.Machine

theorem Document.movedFrom_obligations {d f : Document} (h : d.movedFrom f) : f.obligations = d.obligations := by
  rw [h]

/-- What waits for RUNNING, after the escalations: banks and purges work, in an order that stays free (log 9). -/
structure Worked (l : List Nat) (clock : Nat) (b c : Body) : Prop where
  purged : PurgedOver l b c
  due : DuePurged clock b c
  named : ∀ n ∈ l, ∃ g ∈ b.documents, g.1 = n ∧ dueForPurge g.2 clock
  accounts : c.accounts = b.accounts
  attention : c.attention = b.attention
  nextSerial : c.nextSerial = b.nextSerial

theorem PurgedOver.due {b m : Body} (h : PurgedOver [] b m) {clock n : Nat} (hn : n ∈ m.dueSlots clock) :
    ∃ g ∈ b.documents, g.1 = n ∧ dueForPurge g.2 clock := by
  obtain ⟨i, hi, hin, hd⟩ := Body.mem_dueSlots.mp hn
  obtain ⟨g, hg, hgi, hm⟩ := h.entries i hi
  refine ⟨g, hg, hgi.trans hin, ?_⟩
  rcases hm with hm | hm
  · exact absurd hd (not_due_of_purging hm clock)
  · exact (Document.movedFrom_due hm clock).mp hd

theorem Worked.of_parts {clock : Nat} {b m e c : Body} (h1 : PurgedOver [] b m) (h2 : PurgedOver (m.dueSlots clock) m e)
    (h3 : PurgedOver [] e c) (ha : c.accounts = b.accounts) (ht : c.attention = b.attention)
    (hs : c.nextSerial = b.nextSerial) : Worked (m.dueSlots clock) clock b c where
  purged := ((h1.trans h2).trans h3).congr fun n => by rw [List.nil_append, List.append_nil]
  due := .of_purgedOver h1 h2 h3
  named := fun _ hn => h1.due hn
  accounts := ha
  attention := ht
  nextSerial := hs

/-- What waits for RUNNING, from the body in which the escalations have fired. -/
theorem State.resume_worked {s : State} (hp : s.recovery.part.works = true) :
    ∃ l, Worked l s.time.clock (s.body.escalateDue s.tables s.time.run) s.resume.body := by
  unfold State.resume
  dsimp only [State.withBody]
  generalize s.body.escalateDue s.tables s.time.run = b
  split_ifs with hnone
  · refine ⟨_, Worked.of_parts (.refl b) (hnone ▸ .refl b) (.arbitrate b s.recovery.part s.tables.floor) ?_ ?_ ?_⟩ <;>
      simp [State.arbitrate]
  · refine ⟨_, Worked.of_parts (m := ({ b with draws := b.draws + 1 } : Body).arbitrate s.recovery.part s.tables.floor)
      (PurgedOver.and (b := { b with draws := b.draws + 1 }) (.of_catalog rfl rfl) (.arbitrate _ _ _))
      (.startDuePurges hp _ s.tables.floor s.time.clock) (.refl _) ?_ ?_ ?_⟩ <;> simp
  · refine ⟨_, Worked.of_parts (m := { b with draws := b.draws + 1 }) (.of_catalog rfl rfl)
      (.startDuePurges hp _ s.tables.floor s.time.clock) (.arbitrate _ s.recovery.part s.tables.floor) ?_ ?_ ?_⟩ <;>
      simp [State.arbitrate]

/-- Where nothing has waited, the banks choose. -/
theorem State.resume_quiet {s : State} (h : ∀ e ∈ s.body.documents, ¬ dueForPurge e.2 s.time.clock ∧
    ∀ o ∈ e.2.obligations, ¬ Obligation.reached o s.time.run) : s.resume = s.arbitrate := by
  have hno : s.body.overdues s.time.run = [] := by
    rw [List.eq_nil_iff_forall_not_mem]
    rintro ⟨n, x⟩ hm
    obtain ⟨d, hd, o, ho, hr, _⟩ := Body.mem_overdues.mp hm
    exact (h (n, d) hd).2 o ho hr
  have hbody : s.body.escalateDue s.tables s.time.run = s.body := by
    rw [Body.escalateDue_eq, hno]
    rfl
  have hdue : s.body.dueSlots s.time.clock = [] := Body.dueSlots_eq_nil.mpr fun e he => (h e he).1
  unfold State.resume
  dsimp only [State.withBody]
  rw [hbody, if_pos hdue]

theorem State.resume_frame (s : State) : s.resume = { s with body := s.resume.body } := by
  unfold State.resume
  dsimp only
  split_ifs <;> rfl

section

variable {s : State} {n : Nat} {d : Document}

/-- The document of a slot once the escalations have fired. -/
theorem Body.escalateDue_doc (b : Body) (t : Tables) (run n : Nat) :
    (b.escalateDue t run).doc n = (b.doc n).map (Document.escalatedAll t run (deptsOf (b.overdues run) n)) :=
  Body.escalating_doc t run _ b n

/-- No escalation on a slot none of whose entries has a reached deadline. -/
theorem deptsOf_overdues_nil {b : Body} {run : Nat}
    (h : ∀ e ∈ b.documents, e.1 = n → ∀ o ∈ e.2.obligations, ¬ Obligation.reached o run) : deptsOf (b.overdues run) n = [] := by
  rw [List.eq_nil_iff_forall_not_mem]
  intro x hx
  obtain ⟨d, hd, o, ho, hr, _⟩ := Body.mem_overdues.mp (mem_deptsOf.mp hx)
  exact h (n, d) hd rfl o ho hr

/-- A document due after the escalations was due before. -/
theorem Body.escalateDue_due {b : Body} {t : Tables} {run clock : Nat}
    (h : ∃ e ∈ (b.escalateDue t run).documents, e.1 = n ∧ dueForPurge e.2 clock) :
    ∃ g ∈ b.documents, g.1 = n ∧ dueForPurge g.2 clock := by
  obtain ⟨e, he, rfl, hd⟩ := h
  obtain ⟨g, hg, hge, ds, _, heq⟩ := Body.escalating_documents t run _ b he
  exact ⟨g, hg, hge, Document.escalatedAll_due t run ds g.2 (heq ▸ hd)⟩

theorem Worked.obligations {l : List Nat} {clock : Nat} {b c : Body} (h : Worked l clock b c) {f : Document}
    (hf : c.doc n = some f) : ∃ d, b.doc n = some d ∧ f.obligations = d.obligations := by
  by_cases hn : n ∈ l
  · obtain ⟨_, d, hd, hfd⟩ := h.purged.started n hn f hf
    exact ⟨d, hd, by rw [hfd]⟩
  · obtain ⟨d, hd, hm, _⟩ := h.purged.others n hn f hf
    exact ⟨d, hd, Document.movedFrom_obligations hm⟩

theorem mem_overdues_of_doc {b : Body} {run : Nat} (hd : b.doc n = some d) {o : Obligation} (ho : o ∈ d.obligations)
    (hr : o.reached run) : o.department ∈ deptsOf (b.overdues run) n :=
  mem_deptsOf.mpr (Body.mem_overdues.mpr ⟨d, Body.documents_of_doc hd, o, ho, hr, rfl⟩)

theorem Document.obligation_mem {x : Nat} {o : Obligation} (h : d.obligation x = some o) :
    o ∈ d.obligations ∧ o.department = x :=
  ⟨List.mem_of_find?_eq_some h, by simpa using List.find?_some h⟩

theorem Document.obligation_congr {f : Document} (h : f.obligations = d.obligations) (x : Nat) :
    f.obligation x = d.obligation x ∧ f.obliges x = d.obliges x := by
  unfold Document.obligation Document.obliges
  rw [h]
  exact ⟨rfl, rfl⟩

/-- What several escalations leave of a document whose entry is the only one of its slot. -/
theorem Document.escalatedAll_overdues {run : Nat} (t : Tables) (hd : s.body.doc n = some d)
    (hone : ∀ e ∈ s.body.documents, e.1 = n → e.2 = d) (ho : ∃ o ∈ d.obligations, Obligation.reached o run) :
    d.escalatedAll t run (deptsOf (s.body.overdues run) n) = { d with
      obligations := d.obligations.map (fun q =>
          if d.obligations.any (fun o => o.department == q.department && o.deadline.any (fun t => t ≤ run))
          then { q with escalated := true, deadline := none } else q) ++
        (if d.obliges 0 then [] else [⟨0, .escalated, .pending, run, none, false, 0⟩]),
      departments := if d.obliges 0 then d.departments else insertRising 0 d.departments,
      retainUntil := if d.obliges 0 then d.retainUntil else raisedUntil t d 0 } := by
  obtain ⟨o, ho, hr⟩ := ho
  have hmem : ∀ x, x ∈ deptsOf (s.body.overdues run) n ↔ ∃ o ∈ d.obligations, o.reached run ∧ o.department = x := by
    intro x
    rw [mem_deptsOf, Body.mem_overdues]
    exact ⟨fun ⟨e, he, h⟩ => hone (n, e) he rfl ▸ h, fun h => ⟨d, Body.documents_of_doc hd, h⟩⟩
  have hfire : ∀ q, firedIn (deptsOf (s.body.overdues run) n) q =
      if d.obligations.any (fun o => o.department == q.department && o.deadline.any (fun t => t ≤ run))
      then { q with escalated := true, deadline := none } else q := by
    intro q
    unfold firedIn
    refine if_congr ?_ rfl rfl
    rw [hmem, List.any_eq_true]
    refine exists_congr fun o => and_congr_right fun _ => ?_
    unfold Obligation.reached
    rw [Bool.and_eq_true, beq_iff_eq, and_comm, Option.any_eq_true]
    refine and_congr_right fun _ => exists_congr fun r => ?_
    rw [decide_eq_true_iff]
  have hintake : d.obliges 0 = false → ∀ l, l ⊆ deptsOf (s.body.overdues run) n →
      escalatedIntake run l = ⟨0, .escalated, .pending, run, none, false, 0⟩ := by
    intro h0 l hl
    unfold escalatedIntake firedIn
    rw [if_neg]
    intro h
    obtain ⟨o, ho, _, hz⟩ := (hmem 0).mp (hl h)
    have : d.obliges 0 = true := List.any_eq_true.mpr ⟨o, ho, by simpa using hz⟩
    rw [h0] at this
    cases this
  have hne : deptsOf (s.body.overdues run) n ≠ [] := List.ne_nil_of_mem ((hmem _).mpr ⟨o, ho, hr, rfl⟩)
  revert hfire hintake hne
  generalize deptsOf (s.body.overdues run) n = depts
  intro hfire hintake hne
  obtain ⟨x, rest, rfl⟩ := List.exists_cons_of_ne_nil hne
  rw [Document.escalatedAll_eq, List.map_congr_left fun q _ => hfire q]
  cases h0 : d.obliges 0 with
  | true => rfl
  | false => rw [hintake h0 rest (List.subset_cons_self x rest)]

end

/-- What waits for the part to become RUNNING has happened (R117, R118, R149, R161). -/
theorem State.resume_resumed {s : State} (hp : s.recovery.part.works = true) : Resumed s s.resume := by
  obtain ⟨l, hw⟩ := State.resume_worked hp
  have hdoc := Body.escalateDue_doc s.body s.tables s.time.run
  have hframe : s.body.escalateDue s.tables s.time.run = _ := Body.escalating_frame s.tables s.time.run _ s.body
  have hpurges : (s.body.escalateDue s.tables s.time.run).purges = s.body.purges := by rw [hframe]
  have hattends : ∀ y, s.resume.body.attends y = (s.body.escalateDue s.tables s.time.run).attends y := fun y => by
    unfold Body.attends; rw [hw.attention]
  have hback : ∀ n f, s.resume.body.doc n = some f → ∃ d, s.body.doc n = some d ∧
      f.obligations = (d.escalatedAll s.tables s.time.run (deptsOf (s.body.overdues s.time.run) n)).obligations := by
    intro n f hf
    obtain ⟨e, he, hfe⟩ := hw.obligations hf
    rw [hdoc] at he
    obtain ⟨d, hd, rfl⟩ := Option.map_eq_some_iff.mp he
    exact ⟨d, hd, hfe⟩
  refine ⟨State.resume_frame s, State.resume_quiet, fun n f hf => ⟨hw.due.settled n f hf, fun o ho hr => ?settled⟩,
    fun n d f x o hd hx hr hf => ?fired, fun n d hd hone ho => ⟨fun h0 => ?called, fun hpur hst => ?escalated⟩,
    ⟨fun x hx => ?other, fun h => ?intake⟩, fun x => ?accounts, ?serial, fun n d hd hdue hno => ?started,
    fun n hn => ?listed, fun n d hd hpur hno => ?kept⟩
  case settled =>
    obtain ⟨d, hd, hobl⟩ := hback n f hf
    obtain ⟨ho', hno⟩ := d.escalatedAll_reached s.tables s.time.run _ (hobl ▸ ho) hr
    exact hno (mem_overdues_of_doc hd ho' hr)
  case fired =>
    obtain ⟨e, he, hobl⟩ := hback n f hf
    rw [hd] at he
    cases he
    obtain ⟨hmem, hdept⟩ := Document.obligation_mem hx
    have hin := mem_overdues_of_doc hd hmem hr
    obtain ⟨h1, h2⟩ := Document.obligation_congr hobl x
    rw [h1, (Document.obligation_congr hobl 0).2, Document.escalatedAll_obligation _ _ _ _ hx]
    refine ⟨?_, Document.escalatedAll_obliges _ _ _ _ (List.ne_nil_of_mem hin)⟩
    unfold firedIn
    rw [if_pos hin]
    rfl
  case called =>
    obtain ⟨o, ho, hr⟩ := ho
    rw [hattends]
    exact Body.escalating_attends_intake s.tables s.time.run _ s.body (mem_deptsOf.mp (mem_overdues_of_doc hd ho hr)) hd h0
  case escalated =>
    have hn : n ∉ l := fun hn => by
      obtain ⟨e, he, hen, hdue⟩ := Body.escalateDue_due (hw.named n hn)
      rw [hone e he hen] at hdue
      exact hst hdue.1
    have hpur' : n ∉ (s.body.escalateDue s.tables s.time.run).purges := hpurges ▸ hpur
    have he := hdoc n
    rw [hd, Option.map_some, Document.escalatedAll_overdues s.tables hd hone ho] at he
    cases hf : s.resume.body.doc n with
    | none =>
      rcases hw.purged.gone n hf with h | h | h
      · rw [he] at h; cases h
      · exact absurd h hpur'
      · exact absurd h hn
    | some f =>
      obtain ⟨e, he', hm, hr, _⟩ := hw.purged.others n hn f hf
      rw [he] at he'
      cases he'
      have hret := hr hpur'
      unfold Document.movedFrom at hm
      refine ⟨f, rfl, ?_, ?_, fun h0 => ⟨?_, ?_⟩, fun h0 => ⟨fun y => ?_, ?_⟩⟩
      · conv_lhs => rw [hm, hret]
        rw [hm]
      · rw [hm]
      · rw [hm]; simp [h0]
      · rw [hm]; simp [h0]
      · rw [hm]; simp only [h0, Bool.false_eq_true, if_false]; exact mem_insertRising 0 y _
      · rw [hm]; simp [h0]
  case other => rw [hattends]; exact Body.escalating_attends_other s.tables s.time.run _ s.body hx
  case intake =>
    rw [hattends]
    refine Body.escalating_attends_obliged s.tables s.time.run _ s.body (fun p hp d hd => ?_) 0
    obtain ⟨g, hg, o, ho, hr, _⟩ := Body.mem_overdues.mp hp
    rcases h (p.1, d) (Body.documents_of_doc hd) with h | h
    · exact h
    · exact absurd hr (h (p.1, g) hg rfl o ho)
  case accounts =>
    have : s.resume.body.account x = (s.body.escalateDue s.tables s.time.run).account x := by
      unfold Body.account; rw [hw.accounts]
    rw [this]
    exact Body.escalating_account s.tables s.time.run _ s.body x
  case serial => rw [hw.nextSerial, hframe]
  case started =>
    have he := hdoc n
    rw [hd, deptsOf_overdues_nil hno] at he
    exact hw.due.started n d he hdue
  case listed =>
    exact (hw.due.listed n hn).imp (fun h => hpurges ▸ h) Body.escalateDue_due
  case kept =>
    have he := hdoc n
    rw [hd, deptsOf_overdues_nil fun e he hen => (hno e he hen).2] at he
    refine hw.due.kept n d he (hpurges ▸ hpur) fun e he' hen hdue => ?_
    obtain ⟨g, hg, hgn, hgd⟩ := Body.escalateDue_due ⟨e, he', hen, hdue⟩
    exact (hno g hg hgn).1 hgd

/-- Settles O55. -/
theorem thePowerFailWarningChangesThePartState : Obligations.ThePowerFailWarningChangesThePartState := by
  refine fun s => ⟨rfl, fun hp => ?_, fun hp => ?_⟩
  · dsimp only [exec, execPowerFailWithdrawn]
    rw [if_neg hp]
    rfl
  · refine ⟨_, ?_, State.resume_resumed (s := { s with sent := none, recovery := { s.recovery with pfw := false, part := .running } }) rfl⟩
    dsimp only [exec, execPowerFailWithdrawn]
    rw [if_pos hp]
    rfl

end Sys2Proof.Machine
end

section
/-! Sums over the catalog, and the law of charges of a body: what replacing, adding and freeing one document does to
them (R106, R107, R119). -/

namespace Sys2Proof.Machine

/-! ### Sums over a table -/

/-- The sum of a measure over the listed values. -/
def Table.total {α : Type} (h : α → Nat) (t : Table α) : Nat := (t.map (fun e => h e.2)).sum

section
variable {α : Type} {d : α} {t : Table α} {h : α → Nat}

theorem Table.total_cons (h : α → Nat) (e : Nat × α) (t : Table α) :
    Table.total h (e :: t) = h e.2 + Table.total h t := rfl

theorem Table.read_of_lt {n : Nat} (hn : ∀ e ∈ t, n < e.1) : Table.read d t n = d := by
  induction t with
  | nil => rfl
  | cons e t ih =>
    have hne : n ≠ e.1 := (hn e List.mem_cons_self).ne
    exact (if_neg hne).trans (ih fun g hg => hn g (List.mem_cons_of_mem _ hg))

theorem Table.total_put (hd : h d = 0) (hp : t.Pairwise (fun p q => p.1 < q.1)) (n : Nat) (v : α) :
    Table.total h (Table.put n v t) + h (Table.read d t n) = Table.total h t + h v := by
  induction t with
  | nil => simp [Table.put, Table.total, hd]
  | cons e t ih =>
    obtain ⟨k, w⟩ := e
    obtain ⟨hk, ht⟩ := List.pairwise_cons.mp hp
    rcases lt_trichotomy n k with hlt | rfl | hlt
    · have hread : Table.read d ((k, w) :: t) n = d :=
        Table.read_of_lt (t := (k, w) :: t) (List.forall_mem_cons.mpr ⟨hlt, fun g hg => hlt.trans (hk g hg)⟩)
      rw [hread, hd, show Table.put n v ((k, w) :: t) = (n, v) :: (k, w) :: t from if_pos hlt, Table.total_cons, Nat.add_zero]
      exact Nat.add_comm _ _
    · have hput : Table.put n v ((n, w) :: t) = (n, v) :: t := (if_neg (Nat.lt_irrefl n)).trans (if_pos rfl)
      have hread : Table.read d ((n, w) :: t) n = w := if_pos rfl
      rw [hput, hread, Table.total_cons, Table.total_cons]
      dsimp only
      omega
    · have hput : Table.put n v ((k, w) :: t) = (k, w) :: Table.put n v t :=
        (if_neg (by omega)).trans (if_neg (by omega))
      have hread : Table.read d ((k, w) :: t) n = Table.read d t n := if_neg (by omega)
      have := ih ht
      rw [hput, hread, Table.total_cons, Table.total_cons]
      omega

theorem Table.total_drop (hd : h d = 0) (hp : t.Pairwise (fun p q => p.1 < q.1)) (n : Nat) :
    Table.total h (Table.drop n t) + h (Table.read d t n) = Table.total h t := by
  induction t with
  | nil => simp [Table.drop, Table.total, hd]
  | cons e t ih =>
    obtain ⟨k, w⟩ := e
    obtain ⟨hk, ht⟩ := List.pairwise_cons.mp hp
    by_cases hkn : n = k
    · subst hkn
      have hread : Table.read d ((n, w) :: t) n = w := if_pos rfl
      have hdrop : Table.drop n ((n, w) :: t) = t := by
        unfold Table.drop
        rw [List.filter_cons_of_neg (by simp), List.filter_eq_self]
        exact fun g hg => decide_eq_true (hk g hg).ne'
      rw [hread, hdrop, Table.total_cons]
      exact Nat.add_comm _ _
    · have hread : Table.read d ((k, w) :: t) n = Table.read d t n := if_neg hkn
      have hdrop : Table.drop n ((k, w) :: t) = (k, w) :: Table.drop n t :=
        List.filter_cons_of_pos (by simpa using Ne.symm hkn)
      have := ih ht
      rw [hread, hdrop, Table.total_cons, Table.total_cons]
      omega

theorem Table.total_write [DecidableEq α] (hd : h d = 0) (hw : Table.wf d t) (n : Nat) (v : α) :
    Table.total h (Table.write d t n v) + h (Table.read d t n) = Table.total h t + h v := by
  unfold Table.write
  split_ifs with hv
  · rw [Table.total_drop hd hw.1, hv, hd]; rfl
  · exact Table.total_put hd hw.1 n v

end

/-! ### Sums over the documents -/

/-- The sum of a measure over the documents of the catalog. -/
def Body.total (b : Body) (g : Document → Nat) : Nat := (b.documents.map (fun e => g e.2)).sum

/-- A measure of a slot's document, 0 where it holds none. -/
def Slot.measure (g : Document → Nat) (v : Slot) : Nat := (v.doc.map g).getD 0

section
variable {b : Body} {n : Nat} {d : Document} (g : Document → Nat)

theorem Body.total_eq (b : Body) : b.total g = Table.total (Slot.measure g) b.catalog := by
  unfold Body.total Body.documents Table.total
  induction b.catalog with
  | nil => rfl
  | cons e t ih =>
    obtain ⟨k, v, o⟩ := e
    cases o with
    | none => simpa [Slot.measure] using ih
    | some d => simpa [Slot.measure] using ih

theorem Body.total_congr {c : Body} (h : c.catalog = b.catalog) : c.total g = b.total g := by
  rw [Body.total_eq, Body.total_eq, h]

theorem Body.setSlot_total (hw : Table.wf Slot.free b.catalog) (n : Nat) (v : Slot) :
    (b.setSlot n v).total g + ((b.doc n).map g).getD 0 = b.total g + (v.doc.map g).getD 0 := by
  rw [Body.total_eq, Body.total_eq]
  exact Table.total_write (h := Slot.measure g) rfl hw n v

theorem Body.setDoc_total (hw : Table.wf Slot.free b.catalog) (hd : b.doc n = some d) (f : Document) :
    (b.setDoc n f).total g + g d = b.total g + g f := by
  have := b.setSlot_total g hw n { b.slot n with doc := some f }
  rw [hd] at this
  exact this

theorem Body.setDoc_total_new (hw : Table.wf Slot.free b.catalog) (hd : b.doc n = none) (f : Document) :
    (b.setDoc n f).total g = b.total g + g f := by
  have := b.setSlot_total g hw n { b.slot n with doc := some f }
  rw [hd] at this
  exact this

theorem Body.freeSlot_total (hw : Table.wf Slot.free b.catalog) (hd : b.doc n = some d) :
    (b.freeSlot n).total g + g d = b.total g := by
  have := b.setSlot_total g hw n ⟨((b.slot n).generation + 1) % 256, none⟩
  rw [hd] at this
  exact this

theorem Body.le_total (hd : b.doc n = some d) : g d ≤ b.total g :=
  List.le_sum_of_mem (List.mem_map_of_mem (f := fun e : Nat × Document => g e.2) (Body.documents_of_doc hd))

/-- In the canonical form the catalog's entries are what its slots hold. -/
theorem Body.mem_documents_iff (hw : Table.wf Slot.free b.catalog) : (n, d) ∈ b.documents ↔ b.doc n = some d := by
  refine ⟨fun h => ?_, Body.documents_of_doc⟩
  obtain ⟨v, hv, hd⟩ := Body.mem_documents.mp h
  have hread : Table.read Slot.free b.catalog n = v := ((Table.mem_iff_read hw n v).mp hv).2
  rw [← hd, ← hread]
  rfl

end

/-! ### The law of charges of a body -/

section
variable {b c : Body} {n : Nat} {d f : Document}

theorem Body.chargesLawful.account (h : b.chargesLawful) (x : Nat) :
    b.account x = b.total (fun d => chargeOf d.obligations x) := h.accounts x

/-- The law of charges speaks of the catalog, the accounts and the purge list alone. -/
theorem Body.chargesLawful.congr (h : b.chargesLawful) (hc : c.catalog = b.catalog) (ha : c.accounts = b.accounts)
    (hp : c.purges = b.purges) : c.chargesLawful where
  canonical := hc ▸ h.canonical
  documents n d hd := h.documents n d ((Body.doc_congr hc n).symm.trans hd)
  accounts x := by
    have hacc : c.account x = b.account x := by unfold Body.account; rw [ha]
    rw [hacc, documents_congr hc]
    exact h.accounts x
  purges n hn := by
    obtain ⟨d, hd, hs⟩ := h.purges n (hp ▸ hn)
    exact ⟨d, (Body.doc_congr hc n).trans hd, hs⟩

/-- One document is replaced by a lawful one, and each account moves with its charge. -/
theorem Body.chargesLawful.replace (h : b.chargesLawful) (hd : b.doc n = some d) (hf : f.chargesLawful)
    (hst : d.state = .purging → f.state = .purging) (hc : c.catalog = (b.setDoc n f).catalog)
    (ha : ∀ x, c.account x + chargeOf d.obligations x = b.account x + chargeOf f.obligations x)
    (hp : c.purges = b.purges) : c.chargesLawful where
  canonical := by rw [hc]; exact Table.wf_write _ _ h.canonical
  documents m e he := by
    rw [Body.doc_congr hc, Body.setDoc_doc] at he
    split_ifs at he
    · cases he; exact hf
    · exact h.documents m e he
  accounts x := by
    have h1 := Body.setDoc_total (fun e => chargeOf e.obligations x) h.canonical hd f
    have h2 := h.account x
    have h3 := ha x
    have h4 : c.total (fun e => chargeOf e.obligations x) = _ := Body.total_congr (b := b.setDoc n f) _ hc
    change c.account x = c.total (fun e => chargeOf e.obligations x)
    omega
  purges m hm := by
    obtain ⟨e, he, hs⟩ := h.purges m (hp ▸ hm)
    rw [Body.doc_congr hc, Body.setDoc_doc]
    split_ifs with hmn
    · rw [hmn, hd] at he
      cases he
      exact ⟨f, rfl, hst hs⟩
    · exact ⟨e, he, hs⟩

/-- A document enters a free slot with no charge on it. -/
theorem Body.chargesLawful.enter (h : b.chargesLawful) (hd : b.doc n = none) (hf : f.chargesLawful)
    (hz : ∀ x, chargeOf f.obligations x = 0) (hc : c.catalog = (b.setDoc n f).catalog)
    (ha : ∀ x, c.account x = b.account x) (hp : c.purges = b.purges) : c.chargesLawful where
  canonical := by rw [hc]; exact Table.wf_write _ _ h.canonical
  documents m e he := by
    rw [Body.doc_congr hc, Body.setDoc_doc] at he
    split_ifs at he
    · cases he; exact hf
    · exact h.documents m e he
  accounts x := by
    have h1 := Body.setDoc_total_new (fun e => chargeOf e.obligations x) h.canonical hd f
    have h2 := h.account x
    have h3 := ha x
    have h4 : c.total (fun e => chargeOf e.obligations x) = _ := Body.total_congr (b := b.setDoc n f) _ hc
    have h5 := hz x
    change c.account x = c.total (fun e => chargeOf e.obligations x)
    omega
  purges m hm := by
    obtain ⟨e, he, hs⟩ := h.purges m (hp ▸ hm)
    rw [Body.doc_congr hc, Body.setDoc_doc]
    split_ifs with hmn
    · rw [hmn, hd] at he; cases he
    · exact ⟨e, he, hs⟩

theorem Body.freeSlot_doc (b : Body) (n m : Nat) : (b.freeSlot n).doc m = if m = n then none else b.doc m := by
  unfold Body.doc
  rw [Body.freeSlot_slot]
  split_ifs <;> rfl

/-- A slot whose document bears no charge is freed. -/
theorem Body.chargesLawful.free (h : b.chargesLawful) (hd : b.doc n = some d)
    (hz : ∀ x, chargeOf d.obligations x = 0) : (b.freeSlot n).chargesLawful where
  canonical := Table.wf_write _ _ h.canonical
  documents m e he := by
    rw [Body.freeSlot_doc] at he
    split_ifs at he
    exact h.documents m e he
  accounts x := by
    have h1 := Body.freeSlot_total (fun e => chargeOf e.obligations x) h.canonical hd
    have h2 := h.account x
    have h3 : (b.freeSlot n).account x = b.account x := rfl
    have h4 := hz x
    change (b.freeSlot n).account x = (b.freeSlot n).total (fun e => chargeOf e.obligations x)
    omega
  purges m hm := by
    obtain ⟨hm, hne⟩ := List.mem_filter.mp (show m ∈ b.purges.filter (fun m => m ≠ n) from hm)
    obtain ⟨e, he, hs⟩ := h.purges m hm
    refine ⟨e, ?_, hs⟩
    rw [Body.freeSlot_doc, if_neg (by simpa using hne), he]

/-- A purge starts: a RETAINED document becomes PURGING and stands on the purge list. -/
theorem Body.chargesLawful.list (h : b.chargesLawful) (hd : b.doc n = some d) (hs : d.state = .purging) :
    ({ b with purges := b.purges ++ [n] } : Body).chargesLawful where
  canonical := h.canonical
  documents := h.documents
  accounts := h.accounts
  purges m hm := by
    rcases List.mem_append.mp hm with hm | hm
    · exact h.purges m hm
    · rw [List.mem_singleton.mp hm]; exact ⟨d, hd, hs⟩

/-- The documents that the law frees without a charge: PURGING ones owe none. -/
theorem Document.chargesLawful.uncharged (h : d.chargesLawful) (hs : d.state = .purging) (x : Nat) :
    chargeOf d.obligations x = 0 := by
  rw [(h.purging hs).1]; rfl

/-- A document's charge is within its department's account. -/
theorem Body.chargesLawful.charge_le (h : b.chargesLawful) (hd : b.doc n = some d) (x : Nat) :
    chargeOf d.obligations x ≤ b.account x := by
  rw [h.account x]
  exact Body.le_total (fun e => chargeOf e.obligations x) hd

end

end Sys2Proof.Machine
end

section
/-! Obligations that are marked, added, removed or raised: what becomes of a document's charges and of the accounts
(R103 to R120). -/

namespace Sys2Proof.Machine

/-! ### Charges of a list of obligations -/

/-- What the accounts see of an obligation. -/
def Obligation.owing (o : Obligation) : Nat × Nat := (o.department, o.charge)

section
variable {os ps : List Obligation} {o : Obligation}

theorem chargeOf_owing (h : ps.map Obligation.owing = os.map Obligation.owing) (x : Nat) : chargeOf ps x = chargeOf os x := by
  have hread : ∀ l : List Obligation,
      chargeOf l x = (((l.map Obligation.owing).filter (fun e => e.1 == x)).map Prod.snd).sum := fun l => by
    unfold chargeOf
    rw [List.filter_map, List.map_map]
    rfl
  rw [hread, hread, h]

theorem departments_owing (h : ps.map Obligation.owing = os.map Obligation.owing) :
    ps.map (fun o => o.department) = os.map (fun o => o.department) := by
  have := congrArg (List.map Prod.fst) h
  rwa [List.map_map, List.map_map] at this

theorem charges_owing (h : ps.map Obligation.owing = os.map Obligation.owing) :
    ps.map (fun o => o.charge) = os.map (fun o => o.charge) := by
  have := congrArg (List.map Prod.snd) h
  rwa [List.map_map, List.map_map] at this

/-- No obligation of a list that bears no charge puts one on a department. -/
theorem chargeOf_eq_zero (h : ∀ o ∈ os, o.charge = 0) (x : Nat) : chargeOf os x = 0 := by
  unfold chargeOf
  refine List.sum_eq_zero fun c hc => ?_
  obtain ⟨o, ho, rfl⟩ := List.mem_map.mp hc
  exact h o (List.mem_filter.mp ho).1

theorem filter_department_self (h : o.department ∉ os.map (fun q => q.department)) :
    os.filter (fun q => q.department != o.department) = os :=
  List.filter_eq_self.mpr fun q hq => bne_iff_ne.mpr fun he => h (List.mem_map.mpr ⟨q, hq, he⟩)

/-- The charge of an obligation that goes is taken from the sum. -/
theorem charges_removed (hn : (os.map (fun q => q.department)).Nodup) (ho : o ∈ os) :
    ((os.filter (fun q => q.department != o.department)).map (fun q => q.charge)).sum + o.charge =
      (os.map (fun q => q.charge)).sum := by
  induction os with
  | nil => cases ho
  | cons p os ih =>
    obtain ⟨hp, hn⟩ := List.nodup_cons.mp hn
    rcases List.mem_cons.mp ho with rfl | ho
    · rw [List.filter_cons_of_neg (by simp), filter_department_self hp, List.map_cons, List.sum_cons]
      exact Nat.add_comm _ _
    · have hne : (p.department != o.department) = true :=
        bne_iff_ne.mpr fun he => hp (List.mem_map.mpr ⟨o, ho, he.symm⟩)
      have := ih hn ho
      rw [List.filter_cons_of_pos (p := fun q : Obligation => q.department != o.department) hne, List.map_cons, List.sum_cons, List.map_cons, List.sum_cons]
      omega

theorem chargeOf_self (hn : (os.map (fun q => q.department)).Nodup) (ho : o ∈ os) :
    chargeOf os o.department = o.charge := by
  induction os with
  | nil => cases ho
  | cons p os ih =>
    obtain ⟨hp, hn⟩ := List.nodup_cons.mp hn
    rw [chargeOf_cons]
    rcases List.mem_cons.mp ho with rfl | ho
    · rw [if_pos rfl, chargeOf_of_notMem hp, Nat.add_zero]
    · rw [if_neg fun he => hp (List.mem_map.mpr ⟨o, ho, he.symm⟩), ih hn ho, Nat.zero_add]

theorem chargeOf_removed (os : List Obligation) (x y : Nat) :
    chargeOf (os.filter (fun q => q.department != x)) y = if y = x then 0 else chargeOf os y := by
  unfold chargeOf
  rw [List.filter_filter]
  split_ifs with h
  · subst h
    rw [List.filter_eq_nil_iff.mpr fun q _ => by simp [bne]]
    rfl
  · congr 2
    refine List.filter_congr fun q _ => ?_
    by_cases hq : q.department = y
    · simp [hq, h]
    · simp [hq]

/-- A department's obligation with its charge raised. -/
def raisedBy (x c : Nat) (os : List Obligation) : List Obligation :=
  os.map (fun q => if q.department = x then { q with charge := q.charge + c } else q)

theorem raisedBy_departments (x c : Nat) (os : List Obligation) :
    (raisedBy x c os).map (fun q => q.department) = os.map (fun q => q.department) := by
  unfold raisedBy
  rw [List.map_map]
  exact List.map_congr_left fun q _ => by simp only [Function.comp]; split_ifs <;> rfl

theorem raisedBy_unobliged {x : Nat} (c : Nat) (h : x ∉ os.map (fun q => q.department)) : raisedBy x c os = os :=
  (List.map_congr_left fun q hq => if_neg fun he => h (List.mem_map.mpr ⟨q, hq, he⟩)).trans (List.map_id _)

theorem charges_raised {x c : Nat} (hn : (os.map (fun q => q.department)).Nodup) (hx : x ∈ os.map (fun q => q.department)) :
    ((raisedBy x c os).map (fun q => q.charge)).sum = (os.map (fun q => q.charge)).sum + c := by
  induction os with
  | nil => cases hx
  | cons p os ih =>
    obtain ⟨hp, hn⟩ := List.nodup_cons.mp hn
    have hcons : raisedBy x c (p :: os) =
      (if p.department = x then { p with charge := p.charge + c } else p) :: raisedBy x c os := rfl
    rw [hcons, List.map_cons, List.sum_cons, List.map_cons, List.sum_cons]
    by_cases hpx : p.department = x
    · subst hpx
      rw [if_pos rfl, raisedBy_unobliged c hp]
      dsimp only
      omega
    · rw [if_neg hpx, ih hn ((List.mem_cons.mp hx).resolve_left (Ne.symm hpx))]
      omega

theorem chargeOf_raised {x c : Nat} (hn : (os.map (fun q => q.department)).Nodup) (hx : x ∈ os.map (fun q => q.department))
    (y : Nat) : chargeOf (raisedBy x c os) y = chargeOf os y + if y = x then c else 0 := by
  induction os with
  | nil => cases hx
  | cons p os ih =>
    obtain ⟨hp, hn⟩ := List.nodup_cons.mp hn
    have hcons : raisedBy x c (p :: os) =
      (if p.department = x then { p with charge := p.charge + c } else p) :: raisedBy x c os := rfl
    rw [hcons, chargeOf_cons, chargeOf_cons]
    by_cases hpx : p.department = x
    · subst hpx
      rw [if_pos rfl, raisedBy_unobliged c hp]
      dsimp only
      by_cases hy : p.department = y
      · simp only [hy, if_true]; omega
      · simp only [hy, Ne.symm hy, if_false]; omega
    · rw [if_neg hpx, ih hn ((List.mem_cons.mp hx).resolve_left (Ne.symm hpx))]
      omega

end

/-! ### Lawful documents -/

section
variable {d f : Document}

/-- Which leaf slots of each page are released. -/
def Document.mask (d : Document) : List (List Bool) := d.pages.map (fun p => p.slots.map (fun v => v == .released))

theorem Document.leafCount_mask (d : Document) : d.leafCount = (d.mask.map List.length).sum := by
  unfold Document.leafCount Document.mask
  rw [List.map_map]
  exact congrArg List.sum (List.map_congr_left fun p _ => (List.length_map _).symm)

/-- The number of a document's slots that are not released. -/
def Document.unreleased (d : Document) : Nat := (d.pages.map (fun p => p.slots.countP (fun v => v != .released))).sum

theorem Document.unreleased_mask (d : Document) : d.unreleased = (d.mask.map (fun m => m.countP (fun x => !x))).sum := by
  unfold Document.unreleased Document.mask
  rw [List.map_map]
  exact congrArg List.sum (List.map_congr_left fun p _ => (List.countP_map ..).symm)

theorem Document.noneReleased_mask (d : Document) :
    (∀ p ∈ d.pages, .released ∉ p.slots) ↔ ∀ m ∈ d.mask, true ∉ m := by
  unfold Document.mask
  simp only [List.mem_map, forall_exists_index, and_imp, forall_apply_eq_imp_iff₂, beq_iff_eq, not_exists, not_and]
  refine forall₂_congr fun p _ => ⟨fun h v hv hr => h (hr ▸ hv), fun h hv => h _ hv rfl⟩

/-- The law of a document's charges speaks of which slots are released, its state, its retained charge, and what each
obligation owes. -/
theorem Document.chargesLawful.same (h : d.chargesLawful) (hp : f.mask = d.mask) (hs : f.state = d.state)
    (hr : f.retained = d.retained) (ho : f.obligations.map Obligation.owing = d.obligations.map Obligation.owing) :
    f.chargesLawful := by
  have hnil : f.obligations = [] ↔ d.obligations = [] := by rw [← List.map_eq_nil_iff, ho, List.map_eq_nil_iff]
  have htail : ∀ l m : List Obligation, l.map Obligation.owing = m.map Obligation.owing →
      (∀ o ∈ m.tail, o.charge = 0) → ∀ o ∈ l.tail, o.charge = 0 := by
    intro l m hlm hm o hol
    have hmem : o.owing ∈ m.tail.map Obligation.owing := by
      rw [List.map_tail, ← hlm, ← List.map_tail]
      exact List.mem_map_of_mem hol
    obtain ⟨q, hq, hqo⟩ := List.mem_map.mp hmem
    exact (congrArg Prod.snd hqo).symm.trans (hm q hq)
  refine ⟨?_, fun hst => ?_, fun hst => ?_, fun hst => ?_, fun hst => ?_, fun hst => ?_⟩
  · rw [departments_owing ho]; exact h.distinct
  · rw [charges_owing ho, hr, f.leafCount_mask, f.noneReleased_mask, hp, ← d.leafCount_mask, ← d.noneReleased_mask]
    exact h.whole (hs ▸ hst)
  · obtain ⟨h1, h2, h3⟩ := h.receiving (hs ▸ hst)
    exact ⟨hr.trans h1, fun hn => h2 (hnil.mp hn), htail _ _ ho h3⟩
  · exact fun hn => h.distributing (hs ▸ hst) (hnil.mp hn)
  · exact hnil.mpr (h.retained (hs ▸ hst))
  · obtain ⟨h1, h2⟩ := h.purging (hs ▸ hst)
    refine ⟨hnil.mpr h1, ?_⟩
    change f.retained = f.unreleased
    rw [hr, f.unreleased_mask, hp, ← d.unreleased_mask]
    exact h2

/-- An obligation joins the end of the list, with the retained charge or none. -/
theorem Document.chargesLawful.add (h : d.chargesLawful) {o : Obligation} (hp : f.pages = d.pages)
    (hd : d.state ≠ .purging) (ho : f.obligations = d.obligations ++ [o])
    (hnew : o.department ∉ d.obligations.map (fun q => q.department))
    (hr : f.retained + o.charge = d.retained)
    (hs : f.state = .distributing ∨ f.state = .receiving ∧ d.state = .receiving) : f.chargesLawful := by
  have hleaf : f.leafCount = d.leafCount := by unfold Document.leafCount; rw [hp]
  refine ⟨?_, fun _ => ?_, fun hst => ?_, fun _ hn => ?_, fun hst => ?_, fun hst => ?_⟩
  · rw [ho, List.map_append, List.nodup_append]
    refine ⟨h.distinct, List.nodup_singleton _, fun x hx y hy hxy => hnew ?_⟩
    rw [List.map_singleton, List.mem_singleton] at hy
    rw [← hy, ← hxy]
    exact hx
  · obtain ⟨hsum, hnone⟩ := h.whole hd
    refine ⟨?_, hp ▸ hnone⟩
    rw [ho, List.map_append, List.sum_append, hleaf, List.map_singleton, List.sum_singleton]
    omega
  · obtain ⟨h1, h2, h3⟩ := h.receiving (hs.resolve_left (by rw [hst]; nofun)).2
    refine ⟨by omega, by simp [ho], ?_⟩
    obtain ⟨lead, rest, hlead⟩ := List.exists_cons_of_ne_nil h2
    rw [ho, hlead]
    rw [hlead] at h3
    intro q hq
    rcases List.mem_append.mp hq with hq | hq
    · exact h3 q hq
    · rw [List.mem_singleton.mp hq]; omega
  · rw [ho] at hn; simp at hn
  · rcases hs with hs | ⟨hs, _⟩ <;> rw [hs] at hst <;> cases hst
  · rcases hs with hs | ⟨hs, _⟩ <;> rw [hs] at hst <;> cases hst

theorem Document.mem_departments {x : Nat} : x ∈ d.obligations.map (fun q => q.department) ↔ d.obliges x = true := by
  unfold Document.obliges
  rw [List.any_eq_true, List.mem_map]
  exact exists_congr fun o => and_congr_right fun _ => beq_iff_eq.symm

/-- A document that owes is RECEIVING or DISTRIBUTING. -/
theorem Document.chargesLawful.owes (h : d.chargesLawful) (ho : d.obligations ≠ []) :
    d.state = .receiving ∨ d.state = .distributing := by
  cases hs : d.state with
  | receiving => exact .inl rfl
  | distributing => exact .inr rfl
  | retained => exact absurd (h.retained hs) ho
  | purging => exact absurd (h.purging hs).1 ho

/-- A department's obligation is accepted (R111). -/
theorem Document.chargesLawful.accepted (h : d.chargesLawful) {o : Obligation} (ho : o ∈ d.obligations)
    (hd : d.state = .distributing) : (d.accepted o).chargesLawful := by
  have hsum := charges_removed h.distinct ho
  have hstate : (d.accepted o).state = .retained ∧ (d.accepted o).obligations = [] ∨
      (d.accepted o).state = .distributing ∧ (d.accepted o).obligations ≠ [] := by
    unfold Document.accepted
    dsimp only
    split_ifs with hn
    · exact .inl ⟨rfl, hn⟩
    · exact .inr ⟨hd, hn⟩
  refine ⟨h.distinct.sublist (List.filter_sublist.map _), fun _ => ?_, fun hst => ?_, fun hst => ?_, fun hst => ?_,
    fun hst => ?_⟩
  · obtain ⟨hwhole, hnone⟩ := h.whole (by rw [hd]; nofun)
    refine ⟨?_, hnone⟩
    change ((d.obligations.filter (fun q => q.department != o.department)).map (fun q => q.charge)).sum +
      (d.retained + o.charge) = d.leafCount
    omega
  · rcases hstate with ⟨hs, _⟩ | ⟨hs, _⟩ <;> rw [hs] at hst <;> cases hst
  · rcases hstate with ⟨hs, _⟩ | ⟨_, hn⟩
    · rw [hs] at hst; cases hst
    · exact hn
  · rcases hstate with ⟨_, hn⟩ | ⟨hs, _⟩
    · exact hn
    · rw [hs] at hst; cases hst
  · rcases hstate with ⟨hs, _⟩ | ⟨hs, _⟩ <;> rw [hs] at hst <;> cases hst

/-- A document with its obligations shifted among departments, none of them gone: DISTRIBUTING before and after. -/
theorem Document.chargesLawful.shift (h : d.chargesLawful) (hd : d.state = .distributing) (hp : f.pages = d.pages)
    (hs : f.state = .distributing) (hr : f.retained = d.retained) (hne : f.obligations ≠ [])
    (hn : (f.obligations.map (fun q => q.department)).Nodup)
    (hsum : (f.obligations.map (fun q => q.charge)).sum = (d.obligations.map (fun q => q.charge)).sum) :
    f.chargesLawful := by
  have hleaf : f.leafCount = d.leafCount := by unfold Document.leafCount; rw [hp]
  refine ⟨hn, fun _ => ?_, fun hst => ?_, fun _ => hne, fun hst => ?_, fun hst => ?_⟩
  · rw [hsum, hr, hleaf, hp]
    exact h.whole (by rw [hd]; nofun)
  all_goals rw [hs] at hst; cases hst

end

end Sys2Proof.Machine
end

section
/-! Obligations, holds and retention move a document's charges between departments and its retained charge, and leave its
pages and its session: one shape for READ, RELEASE, FORWARD, HOLD, UNHOLD, escalations and SET CLOCK. -/

namespace Sys2Proof.Machine

/-- The document `d` in slot `n` has become `f`, with the accounts moved by its charges: its pages and its session stay, and
so does whether it is being received. The bodies before and after. -/
structure Recharged (b c : Body) (n : Nat) (d f : Document) : Prop where
  doc : b.doc n = some d
  pages : f.pages = d.pages
  session : f.session = d.session
  receiving : f.state = .receiving ↔ d.state = .receiving
  purging : d.state = .purging → f.state = .purging
  lawful : f.chargesLawful
  accounts : ∀ x, c.account x + chargeOf d.obligations x = b.account x + chargeOf f.obligations x
  others : c = { b with catalog := (b.setDoc n f).catalog, accounts := c.accounts, attention := c.attention }

section
variable {b : Body} {n : Nat} {d f : Document} {o : Obligation}

/-- Fields that no law of charges speaks of are stored. -/
theorem Recharged.store (h : b.chargesLawful) (hd : b.doc n = some d)
    (hf : f = { d with obligations := f.obligations, base := f.base, departments := f.departments,
                       retainUntil := f.retainUntil, holds := f.holds })
    (ho : f.obligations.map Obligation.owing = d.obligations.map Obligation.owing) :
    Recharged b (b.setDoc n f) n d f where
  doc := hd
  pages := by rw [hf]
  session := by rw [hf]
  receiving := by rw [hf]
  purging hs := by rw [hf]; exact hs
  lawful := (h.documents n d hd).same (by rw [hf]; rfl) (by rw [hf]) (by rw [hf]) ho
  accounts x := by rw [chargeOf_owing ho]; rfl
  others := rfl

theorem updObligation_owing (d : Document) (x : Nat) {g : Obligation → Obligation} (hg : ∀ o, (g o).owing = o.owing) :
    (d.updObligation x g).obligations.map Obligation.owing = d.obligations.map Obligation.owing := by
  unfold Document.updObligation
  rw [List.map_map]
  refine List.map_congr_left fun o _ => ?_
  simp only [Function.comp]
  split_ifs
  · exact hg o
  · rfl

/-- The charge of a list with one obligation more. -/
theorem chargeOf_concat (os : List Obligation) (o : Obligation) (x : Nat) :
    chargeOf (os ++ [o]) x = chargeOf os x + if x = o.department then o.charge else 0 := by
  rw [chargeOf_append, chargeOf_cons, chargeOf_nil, Nat.add_zero]
  simp only [eq_comm]

/-- An obligation without a charge joins a document that owes. -/
theorem Recharged.addObligation (h : b.chargesLawful) (hd : b.doc n = some d) (t : Tables) (run : Nat) {dept : Nat}
    (kind : ObKind) (hne : d.obligations ≠ []) (hnew : d.obliges dept = false) :
    Recharged b (b.addObligation t run n dept kind 0) n d (d.obliged t run dept kind 0) := by
  have hlaw := h.documents n d hd
  have howes := hlaw.owes hne
  refine ⟨hd, rfl, rfl, Iff.rfl, id, ?_, fun x => ?_, ?_⟩
  · refine hlaw.add rfl (by rcases howes with hs | hs <;> rw [hs] <;> nofun) rfl ?_ rfl
      (howes.symm.imp id fun hs => ⟨hs, hs⟩)
    exact fun hm => by rw [Document.mem_departments.mp hm] at hnew; cases hnew
  · rw [Body.addObligation_eq hd]
    refine Eq.trans ?_ (congrArg (b.account x + ·) (chargeOf_concat d.obligations _ x)).symm
    have hacc : Table.read 0 (Table.write 0 b.accounts dept (b.account dept + 0)) x = b.account x := by
      rw [Table.read_write]
      split_ifs with hx
      · rw [hx]; rfl
      · rfl
    dsimp only [Body.account] at hacc ⊢
    rw [hacc]
    simp
  · rw [Body.addObligation_eq hd]
    rfl

/-- A department accepts (R111). -/
theorem Recharged.accept (h : b.chargesLawful) (hd : b.doc n = some d) (ho : o ∈ d.obligations)
    (hst : d.state = .distributing) : Recharged b (b.accept n d o) n d (d.accepted o) := by
  have hlaw := h.documents n d hd
  have hstate : (d.accepted o).state = .retained ∨ (d.accepted o).state = .distributing := by
    unfold Document.accepted
    dsimp only
    split_ifs
    · exact .inl rfl
    · exact .inr hst
  refine ⟨hd, rfl, rfl, ?_, fun hs => ?_, hlaw.accepted ho hst, fun x => ?_, ?_⟩
  · rw [hst]
    refine ⟨fun hs => ?_, nofun⟩
    rcases hstate with h1 | h1 <;> rw [h1] at hs <;> cases hs
  · rw [hst] at hs; cases hs
  · have hle := h.charge_le hd x
    have hself := chargeOf_self hlaw.distinct ho
    have hacc : (b.accept n d o).account x =
        if x = o.department then b.account o.department - o.charge else b.account x := by
      rw [Body.accept_eq]
      exact Table.read_write ..
    have hgone : chargeOf (d.accepted o).obligations x = if x = o.department then 0 else chargeOf d.obligations x :=
      chargeOf_removed d.obligations o.department x
    rw [hacc, hgone]
    split_ifs with hx
    · subst hx; omega
    · rfl
  · rw [Body.accept_eq]
    rfl

/-- What a decline makes of the obligations (R112). -/
theorem Document.declined_obligations {t : Tables} {run : Nat} (hn : (d.obligations.map (fun q => q.department)).Nodup)
    (ho : o ∈ d.obligations) (h0 : o.department ≠ 0) :
    (d.declined t run o).obligations ≠ [] ∧ ((d.declined t run o).obligations.map (fun q => q.department)).Nodup ∧
      ((d.declined t run o).obligations.map (fun q => q.charge)).sum = (d.obligations.map (fun q => q.charge)).sum ∧
      ∀ x, chargeOf (d.declined t run o).obligations x =
        if x = o.department then 0 else chargeOf d.obligations x + if x = 0 then o.charge else 0 := by
  have hsum := charges_removed hn ho
  have hgone := chargeOf_removed d.obligations o.department
  have hmem : ∀ x, x ∈ (d.obligations.filter (fun q => q.department != o.department)).map (fun q => q.department) ↔
      x ≠ o.department ∧ d.obliges x = true := fun x => by
    rw [← Document.mem_departments, List.mem_map, List.mem_map]
    constructor
    · rintro ⟨q, hq, rfl⟩
      obtain ⟨hq, hne⟩ := List.mem_filter.mp hq
      exact ⟨bne_iff_ne.mp hne, q, hq, rfl⟩
    · rintro ⟨hne, q, hq, rfl⟩
      exact ⟨q, List.mem_filter.mpr ⟨hq, bne_iff_ne.mpr hne⟩, rfl⟩
  have hnodup : ((d.obligations.filter (fun q => q.department != o.department)).map (fun q => q.department)).Nodup :=
    hn.sublist (List.filter_sublist.map _)
  by_cases hi : d.obliges 0 = true
  · have hobl : (d.declined t run o).obligations =
        raisedBy 0 o.charge (d.obligations.filter (fun q => q.department != o.department)) := by
      rw [Document.declined_obliging o hi]; rfl
    have hin := (hmem 0).mpr ⟨Ne.symm h0, hi⟩
    rw [hobl]
    refine ⟨fun hnil => ?_, ?_, ?_, fun x => ?_⟩
    · have hdepts := raisedBy_departments 0 o.charge (d.obligations.filter (fun q => q.department != o.department))
      rw [hnil] at hdepts
      rw [← hdepts] at hin
      cases hin
    · rw [raisedBy_departments]; exact hnodup
    · rw [charges_raised hnodup hin]; exact hsum
    · rw [chargeOf_raised hnodup hin, hgone]
      split_ifs with h1 h2
      · exact absurd (h1.symm.trans h2) h0
      all_goals omega
  · have hno : d.obliges 0 = false := by simpa using hi
    have hobl : (d.declined t run o).obligations = d.obligations.filter (fun q => q.department != o.department) ++
        [⟨0, .rerouted, .pending, run, none, false, o.charge⟩] := by
      rw [Document.declined_rerouting hno h0]
    rw [hobl]
    refine ⟨by simp, ?_, ?_, fun x => ?_⟩
    · rw [List.map_append, List.nodup_append]
      refine ⟨hnodup, List.nodup_singleton _, fun x hx y hy hxy => hi ?_⟩
      rw [List.map_singleton, List.mem_singleton] at hy
      exact ((hmem 0).mp (by rw [hxy, hy] at hx; exact hx)).2
    · rw [List.map_append, List.sum_append]
      exact hsum
    · rw [chargeOf_concat, hgone]
      dsimp only
      split_ifs with h1 h2
      · exact absurd (h1.symm.trans h2) h0
      all_goals omega

/-- A department declines, and intake takes its charge (R112). -/
theorem Recharged.decline (h : b.chargesLawful) (hd : b.doc n = some d) (t : Tables) (run : Nat) (ho : o ∈ d.obligations)
    (h0 : o.department ≠ 0) (hst : d.state = .distributing) :
    Recharged b (b.decline t run n d o) n d (d.declined t run o) := by
  have hlaw := h.documents n d hd
  obtain ⟨hne, hnodup, hsum, hcharge⟩ := Document.declined_obligations (t := t) (run := run) hlaw.distinct ho h0
  have hfields : (d.declined t run o).pages = d.pages ∧ (d.declined t run o).session = d.session ∧
      (d.declined t run o).state = d.state ∧ (d.declined t run o).retained = d.retained := by
    by_cases hi : d.obliges 0 = true
    · rw [Document.declined_obliging o hi]; exact ⟨rfl, rfl, rfl, rfl⟩
    · rw [Document.declined_rerouting (by simpa using hi) h0]; exact ⟨rfl, rfl, rfl, rfl⟩
  obtain ⟨hp, hses, hstate, hret⟩ := hfields
  refine ⟨hd, hp, hses, by rw [hstate], fun hs => hstate.trans hs,
    hlaw.shift hst hp (hstate.trans hst) hret hne hnodup hsum, fun x => ?_, ?_⟩
  · have hle := h.charge_le hd x
    have hself := chargeOf_self hlaw.distinct ho
    have hacc : (b.decline t run n d o).account x = if x = o.department then b.account o.department - o.charge
        else if x = 0 then b.account 0 + o.charge else b.account x := by
      rw [Body.decline_eq t run hd h0]
      exact (Table.read_write ..).trans (if_congr Iff.rfl rfl (Table.read_write ..))
    rw [hacc, hcharge]
    split_ifs with h1 h2
    · subst h1; omega
    · subst h2; omega
    · rfl
  · rw [Body.decline_eq t run hd h0]
    rfl

/-- A document is forwarded (R115). -/
theorem Recharged.forwardTo (h : b.chargesLawful) (hd : b.doc n = some d) (t : Tables) (run : Nat) {dept : Nat}
    (hp : d.state ≠ .purging) (hnew : d.obliges dept = false) :
    Recharged b (b.forwardTo t run n d dept) n d (d.forwarded t run dept) := by
  have hlaw := h.documents n d hd
  obtain ⟨hbody, hacc⟩ := Body.forwardTo_eq t run dept hd hp
  have hfresh : dept ∉ d.obligations.map (fun q => q.department) := fun hm => by
    rw [Document.mem_departments.mp hm] at hnew; cases hnew
  have hstate : (d.forwarded t run dept).state = if d.state = .receiving then .receiving else .distributing := rfl
  refine ⟨hd, rfl, rfl, ?_, fun hs => absurd hs hp, ?_, fun x => ?_, ?_⟩
  · rw [hstate]
    split_ifs with hs
    · exact ⟨fun _ => hs, fun _ => rfl⟩
    · exact ⟨nofun, fun hr => absurd hr hs⟩
  · refine hlaw.add rfl hp rfl hfresh ?_ ?_
    · unfold Document.forwarded
      dsimp only
      split_ifs
      · exact Nat.zero_add _
      · rfl
    · rw [hstate]
      split_ifs with hs
      · exact .inr ⟨rfl, hs⟩
      · exact .inl rfl
  · have hcharge : chargeOf (d.forwarded t run dept).obligations x =
        chargeOf d.obligations x + if x = dept then (if d.state = .retained then d.retained else 0) else 0 :=
      chargeOf_concat ..
    rw [hacc, hcharge]
    split_ifs <;> omega
  · have hatt : (b.forwardTo t run n d dept).attention = Table.write false b.attention dept true := by rw [hbody]
    rw [hatt]
    exact hbody

theorem Document.escalated_owing (t : Tables) (run : Nat) (d : Document) (dept : Nat) :
    (d.escalated t run dept).obligations.map Obligation.owing =
      d.obligations.map Obligation.owing ++ if d.obliges 0 then [] else [(0, 0)] := by
  have hfields := d.escalated_fields t run dept
  rw [congrArg Document.obligations hfields]
  dsimp only
  rw [List.map_append, List.map_map]
  refine congrArg₂ (· ++ ·) (List.map_congr_left fun q _ => ?_) ?_
  · simp only [Function.comp]
    split_ifs <;> rfl
  · split_ifs <;> rfl

/-- An escalation fires on a document that owes (R117). -/
theorem Recharged.escalate (h : b.chargesLawful) (hd : b.doc n = some d) (t : Tables) (run dept : Nat)
    (hne : d.obligations ≠ []) : Recharged b (b.escalate t run n dept) n d (d.escalated t run dept) := by
  have howing := d.escalated_owing t run dept
  have hfields := d.escalated_fields t run dept
  have hmarked : (d.updObligation dept (fun o => { o with escalated := true, deadline := none })).obligations.map
      Obligation.owing = d.obligations.map Obligation.owing := updObligation_owing d dept fun _ => rfl
  have hlaw := h.documents n d hd
  by_cases hi : d.obliges 0 = true
  · rw [Body.escalate_obliged t run dept hd hi]
    refine Recharged.store h hd ?_ (by rw [howing, if_pos hi, List.append_nil])
    rw [hfields]
  · have hno : d.obliges 0 = false := by simpa using hi
    rw [hfields] at howing
    rw [Body.escalate_unobliged t run dept hd hno]
    refine ⟨hd, ?_, ?_, ?_, fun hs => ?_, ?_, fun x => ?_, rfl⟩
    · rw [hfields]
    · rw [hfields]
    · rw [hfields]
    · rw [hfields]; exact hs
    · have hmid : ({ d with obligations := d.obligations.map (fun q => if q.department = dept
          then { q with escalated := true, deadline := none } else q) } : Document).chargesLawful :=
        hlaw.same rfl rfl rfl hmarked
      have howes := hlaw.owes hne
      refine hmid.add (o := ⟨0, .escalated, .pending, run, none, false, 0⟩) (by rw [hfields])
        (by rcases howes with hs | hs <;> rw [hs] <;> nofun) (by rw [hfields, if_neg hi]) ?_ (by rw [hfields]; rfl) ?_
      · exact fun hm => hi (Document.mem_departments.mp ((congrArg (0 ∈ ·) (departments_owing hmarked)).mp hm))
      · rw [hfields]; exact howes.symm.imp id fun hs => ⟨hs, hs⟩
    · have hacc : ({ b with
          catalog := (b.setDoc n (d.escalated t run dept)).catalog, accounts := Table.write 0 b.accounts 0 (b.account 0),
          attention := Table.write false b.attention 0 true } : Body).account x = b.account x := by
        refine (Table.read_write ..).trans ?_
        split_ifs with hx
        · rw [hx]
        · rfl
      rw [hacc, hfields]
      dsimp only
      rw [if_neg hi, chargeOf_concat, ← chargeOf_owing hmarked]
      simp [Document.updObligation]

end

end Sys2Proof.Machine
end

section
/-! The changes that the part's commands are made of. A law that each of them keeps is kept by every command; the part
works where a request is taken, where a purge or an operation starts, and where a session closes. -/

namespace Sys2Proof.Machine

/-! ### Changes of the body -/

/-- Nothing but deadlines, attention, the next serial and the count of free choices has moved: the bodies before and after. -/
structure Calm (b c : Body) : Prop where
  sessions : ∀ k, (c.session k).state = (b.session k).state ∧ (c.session k).doc = (b.session k).doc ∧
    (c.session k).queue = (b.session k).queue
  others : c = { b with sessions := c.sessions, attention := c.attention, nextSerial := c.nextSerial, draws := c.draws }

/-- A call as session `k` begins it (R5, R47). -/
structure NewCall (d : Document) (k : Nat) : Prop where
  state : d.state = .receiving
  session : d.session = some k
  pages : d.pages = []
  retained : d.retained = 0
  owes : d.obligations ≠ []
  distinct : (d.obligations.map (fun o => o.department)).Nodup
  uncharged : ∀ o ∈ d.obligations, o.charge = 0

/-- No APPEND of session `k` awaits its data block. -/
def Transaction.clear (txn : Transaction) (k : Nat) : Prop := ∀ a, txn = .appending a → a.session ≠ k

/-- A law of the part's state that each change keeps. -/
structure WorkLaw (P : State → Prop) : Prop where
  charges : ∀ {s}, P s → s.chargesLawful
  frame : ∀ {s t : State}, P s → t.body = s.body → t.flash = s.flash →
    (t.recovery.part = s.recovery.part ∨ s.recovery.part.works = true ∧ t.recovery.part.works = true) →
    t.recovery.mark = s.recovery.mark → t.recovery.scanned = s.recovery.scanned →
    (t.txn = s.txn ∨ ∀ a, t.txn ≠ .appending a) → P t
  calm : ∀ {s : State} {b : Body}, P s → Calm s.body b → P { s with body := b }
  recharge : ∀ {s : State} {b : Body} {n d f}, P s → s.recovery.part.works = true → Recharged s.body b n d f →
    P { s with body := b }
  admitted : ∀ {s : State} {n k d} (deadline : Nat), P s → s.recovery.part.works = true →
    (s.body.session k).state = .idle → s.body.doc n = none → NewCall d k → P { s with body := s.body.admitCall n k d deadline }
  stop : ∀ {s : State} {k}, P s → s.recovery.part.works = true → (s.body.session k).state = .admitted →
    P { s with body := s.body.setSession k { s.body.session k with state := .stopped } }
  beginPage : ∀ {s : State} {k n d i l} {page : Page}, P s → s.recovery.part.works = true → s.txn.clear k →
    (s.body.session k).state = .admitted → (s.body.session k).doc = some n → s.body.doc n = some d →
    s.body.room k = .found i l → page.slots = [.placed l] → P { s with body := s.body.beginPage k n d page i l }
  await : ∀ {s : State} {a : AppendInFlight}, P s → s.recovery.part.works = true →
    (s.body.session a.session).state = .inPage → a.rolled = false → P { s with txn := .appending a }
  rollOver : ∀ {s : State} {a : AppendInFlight} {n d i l}, P s → s.recovery.part.works = true →
    (s.body.session a.session).state = .inPage → (s.body.session a.session).doc = some n → s.body.doc n = some d →
    s.body.room a.session = .found i l → P { s with body := s.body.rollOver a.session n d i l, txn := .appending a }
  settle : ∀ {s : State} {a : AppendInFlight} (bytes : List Byte), P s → s.txn = .appending a →
    P { s with body := s.body.settleAppend a bytes, txn := .none }
  cutPage : ∀ {s : State} {k next}, P s → s.recovery.part.works = true → s.txn.clear k →
    (s.body.session k).state = .inPage → (next = .admitted ∨ next = .stopped) → P { s with body := s.body.cutPage k next }
  endPage : ∀ {s : State} {k n} (x y : Nat), P s → s.recovery.part.works = true → s.txn.clear k →
    (s.body.session k).state = .inPage → (s.body.session k).doc = some n → P { s with body := s.body.endPage k n x y }
  close : ∀ {s : State} (t : Tables) (tb : Timebase) (k : Nat) (ending : Ending), P s → s.recovery.part.works = true →
    s.txn.clear k → P { s with body := s.body.closeSession t tb k ending }
  touch : ∀ {s : State} {i}, P s → s.recovery.part.works = true → i ∈ s.body.windows →
    P { s with body := s.body.touchWindow i }
  fetch : ∀ {s : State} {i l p}, P s → s.recovery.part.works = true → s.body.windowBuffer = some i →
    s.body.slotAt p = some (.placed l) → (s.body.leaf l).buffer = none → s.body.windowOf l = none →
    P { s with body := s.body.fetchInto i l }
  purge : ∀ {s : State} {n d}, P s → s.recovery.part.works = true → s.body.doc n = some d → d.state = .retained →
    P { s with body := s.body.startPurge n }
  start : ∀ {s : State} {floor k w}, P s → k < 4 → (s.body.bank k).op = .none →
    s.body.choose s.recovery.part floor k = some w → P { s with body := s.body.startWork k w }
  resetWindows : ∀ {s : State}, P s → s.recovery.part.works = true →
    P { s with body := s.body.windows.foldl Body.resetWindow s.body }
  programDone : ∀ {s : State} {k i l header} {f : Flash}, P s → k < 4 → (s.body.bank k).op = .program i l header →
    (∀ m, m ≠ l → f.spareOf m = s.flash.spareOf m) → P { s with body := s.body.programDone k i l, flash := f }
  programLost : ∀ {s : State} {k i l header} {f : Flash}, P s → k < 4 → (s.body.bank k).op = .program i l header →
    (∀ m, m ≠ l → f.spareOf m = s.flash.spareOf m) → P { s with body := s.body.programLost k i l, flash := f }
  fetchDone : ∀ {s : State} {k i} (f : Flash), P s → k < 4 → (s.body.bank k).op = .fetch i →
    P { s with body := s.body.fetchDone f k i }
  voidDone : ∀ {s : State} {k l} {f : Flash}, P s → k < 4 → (s.body.bank k).op = .voidMark l →
    (∀ m, m ≠ l → f.spareOf m = s.flash.spareOf m) → P { s with body := (s.body.setOp k .none).voidLeaf l, flash := f }
  eraseDone : ∀ {s : State} {k l} {f : Flash}, P s → k < 4 → (s.body.bank k).op = .erase l →
    (∀ m, m ≠ l → f.spareOf m = s.flash.spareOf m) → P { s with body := s.body.eraseDone k l, flash := f }
  eraseLost : ∀ {s : State} {k l} {f : Flash}, P s → k < 4 → (s.body.bank k).op = .erase l →
    (∀ m, m ≠ l → f.spareOf m = s.flash.spareOf m) → P { s with body := s.body.eraseLost k l, flash := f }
  warm : ∀ {s : State} (hub node : Nat), P s → s.recovery.part = .off → s.recovery.mark = true → P (s.warmBegin hub node)
  cold : ∀ {s : State} (hub node : Nat), P s → s.recovery.part = .off → P (s.coldBegin hub node)
  failure : ∀ {s : State} {r : Recovery}, P s → s.recovery.part = .off → r.part = .off → r.mark = false → r.scanned = 0 →
    P { s with body := s.body.coldStart, recovery := r }
  scan : ∀ {s : State}, P s → s.recovery.part = .rebuilding → s.recovery.scanned < 65536 →
    P { s with body := s.body.scanLeaf s.flash s.recovery.scanned,
               recovery := { s.recovery with scanned := s.recovery.scanned + 1 } }
  reconcile : ∀ {s : State}, P s → s.recovery.part = .starting → P s.reconcile

section
variable {P : State → Prop} {s : State}

/-! ### Changes put together -/

theorem WorkLaw.same (L : WorkLaw P) {t : State} (h : P s) (hb : t.body = s.body) (hf : t.flash = s.flash)
    (hr : t.recovery = s.recovery) (ht : t.txn = s.txn ∨ ∀ a, t.txn ≠ .appending a) : P t :=
  L.frame h hb hf (.inl (by rw [hr])) (by rw [hr]) (by rw [hr]) ht

theorem Calm.drawn (b : Body) (n : Nat) : Calm b { b with draws := n } := ⟨fun _ => ⟨rfl, rfl, rfl⟩, rfl⟩

theorem Calm.attention (b : Body) (d : Nat) (v : Bool) : Calm b (b.setAttention d v) := ⟨fun _ => ⟨rfl, rfl, rfl⟩, rfl⟩

theorem Calm.callObliged (b : Body) : Calm b b.callObliged := by
  have hframe : b.callObliged = { b with attention := b.callObliged.attention } := by
    unfold Body.callObliged
    exact foldl_callAttention_eq _ b
  refine ⟨fun k => ?_, ?_⟩
  · rw [Body.session_congr (b := b.callObliged) (c := b) (by rw [hframe])]
    exact ⟨rfl, rfl, rfl⟩
  · rw [hframe]

/-- The idle banks choose. -/
theorem WorkLaw.arbitrateBody (L : WorkLaw P) (floor : Nat) (h : P s) :
    P { s with body := s.body.arbitrate s.recovery.part floor } :=
  Body.arbitrate_keeps (P := fun c => P { s with body := c })
    (fun b hb => L.calm (s := { s with body := b }) hb (.drawn b _))
    (fun b _ _ hb hk hi hw => L.start (s := { s with body := b }) hb hk hi hw) (b := s.body) h

theorem WorkLaw.arbitrate (L : WorkLaw P) (h : P s) : P s.arbitrate := L.arbitrateBody s.tables.floor h

/-! ### Purges -/

/-- The banks choose after one purge has started, and the other RETAINED documents are still there. -/
theorem WorkLaw.retained_purgedOver (L : WorkLaw P) {c : Body} {n m : Nat} (h : P s) (hc : PurgedOver [n] s.body c)
    (hm : m ≠ n) (hret : ∃ d, s.body.doc m = some d ∧ d.state = .retained) :
    ∃ d, c.doc m = some d ∧ d.state = .retained := by
  obtain ⟨d, hd, hs⟩ := hret
  have hunlisted : m ∉ s.body.purges := fun hp => by
    obtain ⟨e, he, hpurging⟩ := (L.charges h).charges.purges m hp
    rw [hd] at he
    cases he
    rw [hs] at hpurging
    cases hpurging
  have hmn : m ∉ [n] := fun hmem => hm (List.mem_singleton.mp hmem)
  cases hf : c.doc m with
  | none =>
    rcases hc.gone m hf with h1 | h1 | h1
    · rw [hd] at h1; cases h1
    · exact absurd h1 hunlisted
    · exact absurd h1 hmn
  | some f =>
    obtain ⟨e, he, hmoved, _⟩ := hc.others m hmn f hf
    rw [hd] at he
    cases he
    refine ⟨f, rfl, ?_⟩
    unfold Document.movedFrom at hmoved
    rw [hmoved]
    exact hs

theorem WorkLaw.startPurges (L : WorkLaw P) (floor : Nat) : ∀ (fuel : Nat) (l : List Nat) {s : State}, P s →
    s.recovery.part.works = true → l.Nodup → (∀ n ∈ l, ∃ d, s.body.doc n = some d ∧ d.state = .retained) →
    P { s with body := Body.startPurges s.recovery.part floor fuel l s.body }
  | 0, _, _, h, _, _, _ => h
  | fuel + 1, [], _, h, _, _, _ => h
  | fuel + 1, [n], s, h, hw, _, hret => by
    obtain ⟨d, hd, hs⟩ := hret n List.mem_cons_self
    have hstart := L.purge h hw hd hs
    have harb := L.arbitrateBody (s := { s with body := s.body.startPurge n }) floor hstart
    exact L.startPurges floor fuel []
      (s := { s with body := (s.body.startPurge n).arbitrate s.recovery.part floor }) harb hw List.nodup_nil (fun _ h => by cases h)
  | fuel + 1, n :: m :: ns, s, h, hw, hnd, hret => by
    have hmem : s.body.pick (n :: m :: ns) ∈ n :: m :: ns := Body.pick_mem nofun
    unfold Body.startPurges
    dsimp only
    generalize s.body.pick (n :: m :: ns) = chosen at hmem
    obtain ⟨d, hd, hs⟩ := hret chosen hmem
    have hdraw : P { s with body := { s.body with draws := s.body.draws + 1 } } := L.calm h (.drawn s.body _)
    have hstart := L.purge (n := chosen) (d := d) hdraw hw hd hs
    have harb := L.arbitrateBody
      (s := { s with body := ({ s.body with draws := s.body.draws + 1 } : Body).startPurge chosen }) floor hstart
    refine L.startPurges floor fuel _ harb hw (hnd.erase _) fun x hx => ?_
    have hxc : x ≠ chosen := fun hxc => (hnd.mem_erase_iff.mp hx).1 hxc
    have hcount : PurgedOver [] s.body { s.body with draws := s.body.draws + 1 } := .of_catalog rfl rfl
    have hover := ((hcount.trans (.startPurge _ chosen)).trans (.arbitrate _ s.recovery.part floor)).congr
      (m := [chosen]) fun x => by rw [List.append_nil, List.nil_append]
    exact L.retained_purgedOver h hover hxc (hret x (List.mem_of_mem_erase hx))

theorem Body.dueSlots_nodup {b : Body} (hw : Table.wf Slot.free b.catalog) (clock : Nat) : (b.dueSlots clock).Nodup := by
  have hkeys : ((b.catalog.filterMap (fun e => e.2.doc.map (fun d => (e.1, d)))).map Prod.fst).Pairwise (· < ·) := by
    rw [List.pairwise_map, List.pairwise_filterMap]
    refine hw.1.imp fun {x y} hxy e he f hf => ?_
    obtain ⟨_, _, rfl⟩ := Option.map_eq_some_iff.mp he
    obtain ⟨_, _, rfl⟩ := Option.map_eq_some_iff.mp hf
    exact hxy
  unfold Body.dueSlots
  refine List.Pairwise.imp (R := (· < ·)) (fun h => h.ne) ?_
  exact hkeys.sublist (List.filter_sublist.map _)

theorem WorkLaw.startDuePurges (L : WorkLaw P) (floor clock : Nat) (h : P s) :
    P { s with body := s.body.startDuePurges s.recovery.part floor clock } := by
  have hlaw := (L.charges h).charges
  unfold Body.startDuePurges
  split_ifs with hw
  · refine L.startPurges floor _ _ h hw (Body.dueSlots_nodup hlaw.canonical clock) fun n hn => ?_
    obtain ⟨e, he, rfl, hdue⟩ := Body.mem_dueSlots.mp hn
    exact ⟨e.2, (Body.mem_documents_iff hlaw.canonical).mp he, hdue.1⟩
  · exact h

theorem WorkLaw.purgeIfDue (L : WorkLaw P) (clock n : Nat) (h : P s) :
    P { s with body := s.body.purgeIfDue s.recovery.part clock n } := by
  unfold Body.purgeIfDue
  split
  · rename_i d hd
    split_ifs with hdue
    · rw [Bool.and_eq_true] at hdue
      exact L.purge h hdue.1 hd (Document.due_iff.mp hdue.2).1
    · exact h
  · exact h

/-! ### Escalations and the resolution of pending retention -/

theorem WorkLaw.escalate (L : WorkLaw P) (t : Tables) (run : Nat) {n dept : Nat} (h : P s)
    (hw : s.recovery.part.works = true) (ho : ∀ d, s.body.doc n = some d → d.obligations ≠ []) :
    P { s with body := s.body.escalate t run n dept } := by
  cases hd : s.body.doc n with
  | none => rw [Body.escalate_none hd]; exact h
  | some d => exact L.recharge h hw (.escalate (L.charges h).charges hd t run dept (ho d hd))

theorem Document.escalated_owes (t : Tables) (run : Nat) {d : Document} (x : Nat) (h : d.obligations ≠ []) :
    (d.escalated t run x).obligations ≠ [] := by
  intro hn
  have howing := d.escalated_owing t run x
  rw [hn, List.map_nil] at howing
  exact h (List.map_eq_nil_iff.mp (List.append_eq_nil_iff.mp howing.symm).1)

theorem WorkLaw.escalating (L : WorkLaw P) (t : Tables) (run : Nat) (ps : List (Nat × Nat)) (h : P s)
    (hw : s.recovery.part.works = true) (ho : ∀ p ∈ ps, ∀ d, s.body.doc p.1 = some d → d.obligations ≠ []) :
    P { s with body := s.body.escalating t run ps } := by
  induction ps generalizing s with
  | nil => exact h
  | cons p ps ih =>
    rw [Body.escalating_cons]
    refine ih (s := { s with body := s.body.escalate t run p.1 p.2 })
      (L.escalate t run h hw fun d => ho p List.mem_cons_self d) hw fun q hq f hf => ?_
    have hdoc : (s.body.escalate t run p.1 p.2).doc q.1 = some f := hf
    rw [Body.escalate_doc] at hdoc
    split_ifs at hdoc
    · obtain ⟨d, hd, rfl⟩ := Option.map_eq_some_iff.mp hdoc
      exact Document.escalated_owes t run p.2 (ho q (List.mem_cons_of_mem _ hq) d hd)
    · exact ho q (List.mem_cons_of_mem _ hq) f hdoc

theorem WorkLaw.escalateDue (L : WorkLaw P) (t : Tables) (run : Nat) (h : P s) (hw : s.recovery.part.works = true) :
    P { s with body := s.body.escalateDue t run } := by
  rw [Body.escalateDue_eq]
  refine L.escalating t run _ h hw fun p hp d hd => ?_
  obtain ⟨e, he, o, ho, _⟩ := Body.mem_overdues.mp hp
  rw [(Body.mem_documents_iff (L.charges h).charges.canonical).mp he] at hd
  cases hd
  exact List.ne_nil_of_mem ho

theorem WorkLaw.retainResolve (L : WorkLaw P) (t : Tables) (v : Nat) (h : P s) (hw : s.recovery.part.works = true) :
    P { s with body := s.body.retainResolve t v } := by
  unfold Body.retainResolve
  generalize s.body.documents = l
  induction l generalizing s with
  | nil => exact h
  | cons e l ih =>
    rw [List.foldl_cons]
    refine ih (s := { s with body := s.body.updDoc e.1 (Document.retainResolve t v) }) ?_ hw
    cases hd : s.body.doc e.1 with
    | none => rw [Body.updDoc_none _ hd]; exact h
    | some d =>
      rw [Body.updDoc_eq _ hd]
      have hf : (Document.retainResolve t v d) = { d with
          base := (Document.retainResolve t v d).base, retainUntil := (Document.retainResolve t v d).retainUntil } := by
        unfold Document.retainResolve
        split_ifs <;> rfl
      refine L.recharge h hw (.store (L.charges h).charges hd ?_ ?_)
      · conv_lhs => rw [hf]
        rw [hf]
      · rw [hf]

/-- What waits for the part to become RUNNING keeps the law. -/
theorem WorkLaw.resume (L : WorkLaw P) (h : P s) (hw : s.recovery.part.works = true) : P s.resume := by
  have hesc := L.escalateDue s.tables s.time.run h hw
  unfold State.resume
  dsimp only
  split_ifs
  · exact L.arbitrate hesc
  · have hdraw := L.calm hesc (.drawn _ ((s.body.escalateDue s.tables s.time.run).draws + 1))
    exact L.startDuePurges (s := State.arbitrate _) _ _ (L.arbitrate hdraw)
  · have hdraw := L.calm hesc (.drawn _ ((s.body.escalateDue s.tables s.time.run).draws + 1))
    exact L.arbitrate (L.startDuePurges _ _ hdraw)

/-! ### Closes -/

theorem WorkLaw.closeSessions (L : WorkLaw P) (t : Tables) (tb : Timebase) (ending : Ending) (ks : List Nat) (h : P s)
    (hw : s.recovery.part.works = true) (hc : ∀ k ∈ ks, s.txn.clear k) :
    P { s with body := s.body.closeSessions t tb ks ending } := by
  unfold Body.closeSessions
  induction ks generalizing s with
  | nil => exact h
  | cons k ks ih =>
    exact ih (s := { s with body := s.body.closeSession t tb k ending })
      (L.close t tb k ending h hw (hc k List.mem_cons_self)) hw fun j hj => hc j (List.mem_cons_of_mem _ hj)

theorem WorkLaw.busReset (L : WorkLaw P) (t : Tables) (tb : Timebase) (h : P s) (hw : s.recovery.part.works = true)
    (hc : ∀ k, s.txn.clear k) : P { s with body := s.body.busReset t tb } := by
  unfold Body.busReset
  generalize List.range Config.sessions = ks
  have hclosed := L.closeSessions t tb .busReset ks h hw fun k _ => hc k
  have hreset := L.resetWindows hclosed hw
  have hcalled := L.calm hreset (.callObliged _)
  exact hcalled

end

end Sys2Proof.Machine
end

section
/-! A law that each of the part's changes keeps is kept by every command, the loss of main power and the rebuild apart. -/

namespace Sys2Proof.Machine

/-- The part works, no APPEND is in flight, and a law holds: where an owner takes a request. -/
structure AtWork (P : State → Prop) (s : State) : Prop where
  law : P s
  works : s.recovery.part.works = true
  free : ∀ a, s.txn ≠ .appending a

section
variable {P : State → Prop} {s t : State}

theorem AtWork.clear (h : AtWork P s) (k : Nat) : s.txn.clear k := fun a ha => absurd ha (h.free a)

theorem AtWork.body (h : AtWork P s) {b : Body} (hb : P { s with body := b }) : AtWork P { s with body := b } :=
  ⟨hb, h.works, h.free⟩

theorem AtWork.session_doc (L : WorkLaw P) (h : AtWork P s) {k : Nat} (hk : (s.body.session k).state ≠ .idle) :
    ∃ n, (s.body.session k).doc = some n := by
  obtain ⟨n, _, hn, _⟩ := (L.charges h.law).sessions k hk
  exact ⟨n, hn⟩

/-! ### Requests -/

theorem WorkLaw.nextPacket (L : WorkLaw P) (h : P s) : P s.nextPacket := L.same h rfl rfl rfl (.inr fun _ => nofun)

theorem WorkLaw.quiet (L : WorkLaw P) (h : P s) : P s.quiet := L.same h rfl rfl rfl (.inl rfl)

theorem WorkLaw.reply (L : WorkLaw P) (h : P s) (role : Role) (op : Op) (v : Verdict) (block : Block) :
    P (s.reply role op v block) := L.same h rfl rfl rfl (.inr fun _ => nofun)

theorem WorkLaw.discard (L : WorkLaw P) (h : P s) (role : Role) (v : Verdict) : P (s.discard role v) :=
  L.same h rfl rfl rfl (.inr fun _ => nofun)

theorem WorkLaw.atWork (L : WorkLaw P) (h : P s) (hr : s.recovery.part = .running) : AtWork P s.nextPacket :=
  ⟨L.nextPacket h, by rw [State.nextPacket_recovery, hr]; rfl, fun _ => nofun⟩

/-- A request whose owner keeps the law keeps it. -/
theorem WorkLaw.request (L : WorkLaw P) {h : Head} {op : Op} {formed : Role → Bool} {owner : Role → State → Taken}
    (hop : op ≠ .status) (ho : ∀ role u, formed role = true → AtWork P u → P (owner role u).state) (hs : P s)
    (hr : Machine.request s h op formed owner = .next t) : P t := by
  rcases request_next hr with rfl | ⟨role, v, rfl⟩ | ⟨role, _, hf, hrun, rfl⟩
  · exact L.nextPacket hs
  · exact L.reply (L.nextPacket hs) role op v .none
  · exact L.reply (ho role _ hf (L.atWork hs (hrun.resolve_right hop))) role op _ _

theorem WorkLaw.moveDeadline (L : WorkLaw P) (h : AtWork P s) (k : Nat) : AtWork P (s.moveDeadline k) := by
  by_cases hk : (s.body.session k).state = .idle
  · rw [State.moveDeadline_idle hk]; exact h
  · rw [State.moveDeadline_open hk]
    refine h.body (L.calm h.law ⟨fun j => ?_, rfl⟩)
    rw [Body.setSession_session]
    split_ifs with hj
    · rw [hj]; exact ⟨rfl, rfl, rfl⟩
    · exact ⟨rfl, rfl, rfl⟩

theorem WorkLaw.line (L : WorkLaw P) {h : Head} {op : Op} {formed : Role → Bool} {channel : BitVec 3}
    {owner : Nat → Session → State → Taken} (hop : op ≠ .status)
    (ho : ∀ k u, AtWork P u → P (owner k (u.body.session k) u).state) (hs : P s)
    (hr : Machine.request s h op formed (lineOwner channel owner) = .next t) : P t :=
  L.request hop (fun role u _ hu => by
    unfold lineOwner
    exact ho _ _ (L.moveDeadline hu _)) hs hr

theorem WorkLaw.document (L : WorkLaw P) {h : Head} {op : Op} {formed : Role → Bool} {slot : BitVec 13}
    {generation : BitVec 8} {owner : Role → Document → State → Taken} (hop : op ≠ .status)
    (ho : ∀ role d u, AtWork P u → u.body.doc slot.toNat = some d → P (owner role d u).state) (hs : P s)
    (hr : Machine.request s h op formed (fun role u => onDocument u slot generation (fun d => owner role d u)) =
      .next t) : P t := by
  refine L.request hop (fun role u _ hu => ?_) hs hr
  rcases onDocument_cases u slot generation (fun d => owner role d u) with he | ⟨d, hd, he⟩
  · rw [he]; exact hu.law
  · rw [he]; exact ho role d u hu hd

/-! ### Sessions -/

theorem firstList_newCall (s : State) (k : Nat) (ext caller : Option (List Nat)) : NewCall (newDocument s k ext caller) k :=
  ⟨rfl, rfl, rfl, rfl, firstList_ne_nil _ _ _ _, firstList_nodup _ _ _ _, fun _ ho => (firstList_fresh ho).2.2.2.2⟩

theorem WorkLaw.ownOpenCall (L : WorkLaw P) (ext caller : Option (List Nat)) (k : Nat) (h : AtWork P s) :
    P (ownOpenCall ext caller k (s.body.session k) s).state := by
  unfold Machine.ownOpenCall
  split
  · exact h.law
  rename_i hidle
  split
  · exact h.law
  split
  · exact h.law
  rename_i n hn
  split
  · exact h.law
  exact L.admitted s.idleDeadline h.law h.works (not_not.mp hidle) (s.body.lowestFreeSlot_some hn).2.1
    (firstList_newCall s k ext caller)

theorem WorkLaw.ownPageBegin (L : WorkLaw P) (density : Density) (width : PageWidth) (coding k : Nat) (h : AtWork P s) :
    P (ownPageBegin density width coding k (s.body.session k) s).state := by
  unfold Machine.ownPageBegin
  split
  · exact h.law
  · exact h.law
  · exact h.law
  · rename_i hst
    obtain ⟨n, hn⟩ := h.session_doc L (k := k) (by rw [hst]; nofun)
    rw [hn]
    dsimp only [Option.getD_some]
    split
    · exact h.law
    · rename_i d hd
      split
      · exact h.law
      split
      · exact h.law
      · exact h.law
      · exact h.law
      · exact L.stop h.law h.works hst
      · rename_i i l hroom
        split
        · exact h.law
        · exact L.arbitrate (s := { s with body := s.body.beginPage k n d (newPage density width coding l) i l })
            (L.beginPage h.law h.works (h.clear k) hst hn hd hroom rfl)

theorem WorkLaw.cutAway (L : WorkLaw P) {k : Nat} {next : SessState} (h : AtWork P s)
    (hst : (s.body.session k).state = .inPage) (hn : next = .admitted ∨ next = .stopped) :
    P (s.withBody (fun b => b.cutPage k next)).arbitrate :=
  L.arbitrate (s := { s with body := s.body.cutPage k next }) (L.cutPage h.law h.works (h.clear k) hst hn)

/-- The state in which the session unit leaves an APPEND's request, with the APPEND in flight where its block is awaited. -/
def AppendChoice.flying : AppendChoice → State
  | .away s _ => s
  | .await s a => { s with txn := .appending a }

theorem WorkLaw.ownAppend (L : WorkLaw P) (count k : Nat) (h : AtWork P s) :
    P (ownAppend count k (s.body.session k) s).flying := by
  unfold Machine.ownAppend
  split
  · exact h.law
  · exact h.law
  · exact h.law
  · rename_i hst
    obtain ⟨n, hn⟩ := h.session_doc L (k := k) (by rw [hst]; nofun)
    rw [hn]
    dsimp only [Option.getD_some]
    split
    · exact h.law
    · rename_i d hd
      split
      · exact L.await (a := ⟨k, count, _, false⟩) h.law h.works hst rfl
      split
      · exact L.cutAway h hst (.inl rfl)
      split
      · exact h.law
      · exact h.law
      · exact h.law
      · exact L.cutAway h hst (.inr rfl)
      · rename_i i l hroom
        exact L.arbitrate (L.rollOver (a := ⟨k, count, _, true⟩) h.law h.works hst hn hd hroom)

theorem WorkLaw.append (L : WorkLaw P) {h : Head} {channel : BitVec 3} {count : BitVec 9} (hs : P s)
    (hr : execAppend h channel count s = .next t) : P t := by
  unfold execAppend at hr
  split_ifs at hr
  · rw [next_eq hr]; exact L.nextPacket hs
  · dsimp only at hr
    split at hr
    · rw [next_eq hr]; exact L.discard (L.nextPacket hs) _ _
    · rename_i hcheck
      generalize sessionOf (s.tables.role h.sender.toNat) channel = k at hr
      have hrun : s.recovery.part = .running := by
        unfold busCheck at hcheck
        split_ifs at hcheck with h1 h2 h3 h4
        exact not_not.mp fun hp => h4 ⟨hp, nofun⟩
      have hk := L.ownAppend count.toNat k (L.moveDeadline (L.atWork hs hrun) k)
      split at hr <;> rename_i u v ha <;> rw [ha] at hk <;> rw [next_eq hr]
      · exact L.discard (s := u) hk _ _
      · exact hk

theorem WorkLaw.ownPageEnd (L : WorkLaw P) (x y k : Nat) (h : AtWork P s) :
    P (ownPageEnd x y k (s.body.session k) s).state := by
  unfold Machine.ownPageEnd
  split
  · exact h.law
  · exact h.law
  · exact h.law
  · rename_i hst
    obtain ⟨n, hn⟩ := h.session_doc L (k := k) (by rw [hst]; nofun)
    rw [hn]
    exact L.arbitrate (s := { s with body := s.body.endPage k n x y }) (L.endPage x y h.law h.works (h.clear k) hst hn)

theorem WorkLaw.closing (L : WorkLaw P) (k : Nat) (e : Ending) (h : P s) (hw : s.recovery.part.works = true)
    (hc : s.txn.clear k) : P (s.close k e) :=
  L.arbitrate (s := { s with body := s.body.closeSession s.tables s.time k e }) (L.close s.tables s.time k e h hw hc)

theorem WorkLaw.ownCloseCall (L : WorkLaw P) (e : Ending) (k : Nat) (h : AtWork P s) :
    P (ownCloseCall e k (s.body.session k) s).state := by
  unfold Machine.ownCloseCall
  split
  · exact h.law
  · exact L.closing k e h.law h.works (h.clear k)
  · exact L.closing k e h.law h.works (h.clear k)
  · exact L.closing k _ h.law h.works (h.clear k)

theorem WorkLaw.appendDataBlockEnd (L : WorkLaw P) {w : List Word} (hs : P s)
    (hr : execAppendDataBlockEnd w s = .next t) : P t := by
  unfold execAppendDataBlockEnd at hr
  split at hr <;> rw [next_eq hr]
  · exact L.quiet hs
  · exact L.quiet hs
  · exact L.same hs rfl rfl rfl (.inr fun _ => nofun)
  · rename_i a ha
    have hset := L.arbitrate (L.settle (arrived a.count w) hs ha)
    exact L.same hset rfl rfl rfl (.inr fun _ => nofun)

/-! ### Delivery and duties -/

theorem WorkLaw.openObligation (L : WorkLaw P) {n : Nat} {d : Document} (h : AtWork P s) (hd : s.body.doc n = some d)
    (role : Role) : P { s with body := s.body.openObligation role n } := by
  unfold Body.openObligation
  split
  · rw [Body.updDoc_eq _ hd]
    exact L.recharge h.law h.works (.store (L.charges h.law).charges hd rfl (updObligation_owing d _ fun _ => rfl))
  all_goals exact h.law

theorem Body.openObligation_windows (b : Body) (role : Role) (n : Nat) : (b.openObligation role n).windows = b.windows := by
  unfold Body.openObligation
  split
  · exact Body.updDoc_windows ..
  all_goals rfl

theorem Body.windowOf_mem {b : Body} {l i : Nat} (h : b.windowOf l = some i) : i ∈ b.windows := List.mem_of_find?_eq_some h

/-- Where a READ finds a window, or misses (R135). -/
theorem Body.source_cases (b : Body) (p : Place) (v : LeafSlot) :
    (∀ i, b.source p v = .hit i → i ∈ b.windows) ∧
      ∀ l, b.source p v = .miss l → v = .placed l ∧ (b.leaf l).buffer = none ∧ b.windowOf l = none := by
  unfold Body.source
  split
  · rename_i m
    split
    · exact ⟨nofun, nofun⟩
    · rename_i hbuf
      split
      · rename_i j hj
        split_ifs
        · refine ⟨fun i hi => ?_, nofun⟩
          cases hi
          exact Body.windowOf_mem hj
        · exact ⟨nofun, nofun⟩
      · rename_i hw
        refine ⟨nofun, fun l hl => ?_⟩
        cases hl
        exact ⟨rfl, hbuf, hw⟩
  · exact ⟨nofun, nofun⟩
  · exact ⟨nofun, nofun⟩

theorem Body.slotAt_eq {b : Body} {n page i : Nat} {d : Document} {g : Page} (hd : b.doc n = some d)
    (hp : d.page page = some g) : b.slotAt ⟨n, page, i⟩ = g.slots[i]? := by
  unfold Body.slotAt
  dsimp only
  rw [hd, Option.bind_some, hp, Option.bind_some]

theorem WorkLaw.readPage (L : WorkLaw P) (role : Role) {n page : Nat} {d : Document} {g : Page} (offset count : Nat)
    (h : AtWork P s) (hd : s.body.doc n = some d) (hp : d.page page = some g) :
    P (readPage role n page g offset count s).state := by
  obtain ⟨hhit, hmiss⟩ := s.body.source_cases ⟨n, page, offset / Config.leafBytes⟩
    ((g.slots[offset / Config.leafBytes]?).getD .unplaced)
  unfold Machine.readPage
  dsimp only
  split
  · exact L.openObligation h hd role
  · rename_i i hi
    exact L.touch (s := { s with body := s.body.openObligation role n }) (L.openObligation h hd role) h.works
      (by rw [Body.openObligation_windows]; exact hhit i hi)
  · exact h.law
  · rename_i l hl
    obtain ⟨hv, hbuf, hwin⟩ := hmiss l hl
    split
    · rename_i i hi
      have hslot : s.body.slotAt ⟨n, page, offset / Config.leafBytes⟩ = some (.placed l) := by
        rw [Body.slotAt_eq hd hp]
        cases hx : g.slots[offset / Config.leafBytes]? with
        | none => rw [hx] at hv; cases hv
        | some v => rw [hx] at hv; exact congrArg some hv
      exact L.arbitrate (s := { s with body := s.body.fetchInto i l }) (L.fetch h.law h.works hi hslot hbuf hwin)
    · exact h.law

theorem WorkLaw.readDocument (L : WorkLaw P) (role : Role) {n : Nat} {d : Document} (page offset count : Nat)
    (h : AtWork P s) (hd : s.body.doc n = some d) : P (readDocument role n d page offset count s).state := by
  unfold Machine.readDocument
  split
  · exact h.law
  · rename_i g hg
    split
    · exact h.law
    exact L.readPage role offset count h hd hg

theorem Document.mem_of_obligation {d : Document} {x : Nat} {o : Obligation} (h : d.obligation x = some o) :
    o ∈ d.obligations ∧ o.department = x := ⟨List.mem_of_find?_eq_some h, Document.obligation_department h⟩

/-- A document that owes and is not received is DISTRIBUTING. -/
theorem Document.chargesLawful.distributes {d : Document} (h : d.chargesLawful) (hne : d.obligations ≠ [])
    (hr : d.state ≠ .receiving) : d.state = .distributing := (h.owes hne).resolve_left hr

theorem WorkLaw.ownRelease (L : WorkLaw P) {n : Nat} {d : Document} (h : AtWork P s) (hd : s.body.doc n = some d)
    (accepts : Bool) (role : Role) : P (ownRelease accepts role n d s).state := by
  have hlaw := (L.charges h.law).charges
  unfold Machine.ownRelease
  dsimp only
  split
  · exact h.law
  rename_i hrec
  split
  · exact h.law
  rename_i o ho
  obtain ⟨hmem, hdept⟩ := Document.mem_of_obligation ho
  have hst := (hlaw.documents n d hd).distributes (List.ne_nil_of_mem hmem) hrec
  split
  · have hacc := L.recharge h.law h.works (.accept hlaw hd hmem hst)
    exact L.arbitrate (L.purgeIfDue s.time.clock n hacc)
  · split_ifs with h0
    · exact h.law
    · exact L.recharge h.law h.works (.decline hlaw hd _ _ hmem (by rw [hdept]; exact h0) hst)

theorem WorkLaw.ownForward (L : WorkLaw P) {n : Nat} {d : Document} (h : AtWork P s) (hd : s.body.doc n = some d)
    (dept : Nat) : P (ownForward dept n d s).state := by
  have hlaw := (L.charges h.law).charges
  unfold Machine.ownForward
  dsimp only
  split
  · exact h.law
  rename_i hp
  split
  · exact h.law
  split
  · exact h.law
  rename_i hno
  exact L.recharge h.law h.works (.forwardTo hlaw hd s.tables s.time.run hp (by simpa using hno))

theorem WorkLaw.ownHold (L : WorkLaw P) {n : Nat} {d : Document} (h : AtWork P s) (hd : s.body.doc n = some d)
    (tag : Nat) : P (ownHold tag n d s).state := by
  unfold Machine.ownHold
  split_ifs
  · exact h.law
  · exact h.law
  · exact h.law
  · exact L.recharge h.law h.works (.store (L.charges h.law).charges hd rfl rfl)

theorem WorkLaw.ownUnhold (L : WorkLaw P) {n : Nat} {d : Document} (h : AtWork P s) (hd : s.body.doc n = some d)
    (tag : Nat) : P (ownUnhold tag n d s).state := by
  unfold Machine.ownUnhold
  split
  · exact h.law
  split
  · exact h.law
  · have hset := L.recharge h.law h.works
      (.store (f := { d with holds := d.holds.filter (fun t => t ≠ tag) }) (L.charges h.law).charges hd rfl rfl)
    exact L.arbitrate (L.purgeIfDue s.time.clock n hset)

/-! ### Administration and the clock -/

theorem WorkLaw.setNode (L : WorkLaw P) (h : AtWork P s) (node : Nat) (role : Role) : P (s.setNode node role) := by
  have henrol : P { s with tables := s.tables.enrol node role } := L.same h.law rfl rfl rfl (.inl rfl)
  unfold State.setNode
  dsimp only
  split_ifs
  · exact henrol
  · have hclosed := L.closeSessions s.tables s.time .withdrawn (lostSessions (s.tables.role node) role) henrol h.works
      fun k _ => h.clear k
    exact L.arbitrate hclosed

theorem WorkLaw.setClock (L : WorkLaw P) (h : P s) (hw : s.recovery.part.works = true) (v : Nat) : P (s.setClock v) := by
  have hset : P { s with time := s.time.set v } := L.same h rfl rfl rfl (.inl rfl)
  unfold State.setClock
  dsimp only
  split_ifs
  · have hres := L.retainResolve s.tables v hset hw
    exact L.startDuePurges s.tables.floor v hres
  · exact L.startDuePurges s.tables.floor v hset
  · exact hset

theorem WorkLaw.tick (L : WorkLaw P) (h : P s) : P s.tick := by
  have htime : P { s with time := s.time.tick } := L.same h rfl rfl rfl (.inl rfl)
  unfold State.tick
  dsimp only
  split_ifs
  · exact L.startDuePurges s.tables.floor s.time.tick.clock htime
  · exact htime

/-! ### The bus reset input -/

theorem WorkLaw.settleCut (L : WorkLaw P) (h : P s) (words : List Word) :
    P { s.endTransaction with resetHeld := true, body := s.body.settleCut s.txn words } := by
  have hend : s.endTransaction.flash = s.flash ∧ s.endTransaction.recovery = s.recovery := by
    have he := SameOutside.endTransaction s
    exact ⟨he.flash, he.recovery⟩
  have hstill : ∀ b : Body, b = s.body → P { s.endTransaction with resetHeld := true, body := b } := by
    rintro b rfl
    exact L.same h rfl hend.1 hend.2 (.inr fun a ha => by
      rw [State.endTransaction_txn] at ha; cases ha)
  cases ht : s.txn with
  | appending a =>
    exact L.same (L.settle (arrived a.count words) h ht) rfl hend.1 hend.2 (.inl s.endTransaction_txn)
  | none => exact hstill _ rfl
  | discarding answer => exact hstill _ rfl
  | sending m => exact hstill _ rfl

theorem WorkLaw.busResetCommand (L : WorkLaw P) {w : List Word} (hs : P s) (hr : execBusReset w s = .next t) : P t := by
  have he := SameOutside.endTransaction s
  have hheld : P { s.endTransaction with resetHeld := true } :=
    L.same hs s.endTransaction_body he.flash he.recovery (.inr fun a ha => by
      rw [State.endTransaction_txn] at ha; cases ha)
  have hreset : s.recovery.part.works = true → P (({ s.endTransaction with resetHeld := true } : State).withBody
      (fun b => (b.settleCut s.txn w).busReset s.tables s.time)).arbitrate := fun hw => by
    have hclear : ∀ k, Transaction.clear s.endTransaction.txn k := fun k a ha => by
      rw [State.endTransaction_txn] at ha; cases ha
    have hdone := L.busReset (s := { s.endTransaction with resetHeld := true, body := s.body.settleCut s.txn w })
      s.tables s.time (L.settleCut hs w) (by rw [← hw]; exact congrArg (fun r => PartState.works r.part) he.recovery) hclear
    have hbody : s.endTransaction.body = s.body := s.endTransaction_body
    refine L.arbitrate ?_
    unfold State.withBody
    rw [hbody]
    exact hdone
  unfold execBusReset at hr
  dsimp only at hr
  split_ifs at hr
  · rw [next_eq hr]; exact L.quiet hs
  · split at hr <;> rename_i hp <;> rw [next_eq hr]
    · exact L.same hs rfl rfl rfl (.inl rfl)
    · exact hheld
    · exact hheld
    · exact hreset (by rw [hp]; rfl)
    · exact hreset (by rw [hp]; rfl)

end

end Sys2Proof.Machine
end

section
/-! Every command but the loss of main power and the rebuild keeps a law that each of the part's changes keeps. -/

namespace Sys2Proof.Machine

section
variable {P : State → Prop} {s t : State}

/-- A request keeps a law that each change keeps. -/
theorem WorkLaw.execRequest (L : WorkLaw P) {c : Instr} {h : Head} {op : Op} (hq : requestOf c = some (h, op)) (hs : P s)
    (hr : Machine.exec c s = .next t) : P t := by
  cases c
  case openCall =>
    dsimp only [Machine.exec, execOpenCall] at hr
    exact L.line (by nofun) (fun k u hu => L.ownOpenCall _ _ k hu) hs hr
  case pageBegin =>
    dsimp only [Machine.exec, execPageBegin] at hr
    exact L.line (by nofun) (fun k u hu => L.ownPageBegin _ _ _ k hu) hs hr
  case append => exact L.append hs hr
  case pageEnd =>
    dsimp only [Machine.exec, execPageEnd] at hr
    exact L.line (by nofun) (fun k u hu => L.ownPageEnd _ _ k hu) hs hr
  case closeCall =>
    dsimp only [Machine.exec, execCloseCall] at hr
    exact L.line (by nofun) (fun k u hu => L.ownCloseCall _ k hu) hs hr
  case endSession =>
    dsimp only [Machine.exec, execEndSession] at hr
    refine L.request (by nofun) (fun role u _ hu => ?_) hs hr
    split_ifs
    · exact hu.law
    · exact L.closing _ _ hu.law hu.works (hu.clear _)
  case list =>
    dsimp only [Machine.exec, execList] at hr
    refine L.request (by nofun) (fun role u _ hu => ?_) hs hr
    dsimp only
    split
    · exact L.calm hu.law (.attention u.body _ false)
    · exact hu.law
  case describe =>
    dsimp only [Machine.exec, execDescribe] at hr
    refine L.document (by nofun) (fun role d u hu _ => ?_) hs hr
    split <;> exact hu.law
  case read =>
    dsimp only [Machine.exec, execRead] at hr
    refine L.document (by nofun) (fun role d u hu hd => ?_) hs hr
    split
    · exact hu.law
    · exact L.readDocument role _ _ _ hu hd
  case release =>
    dsimp only [Machine.exec, execRelease] at hr
    exact L.document (by nofun) (fun role d u hu hd => L.ownRelease hu hd _ role) hs hr
  case forward =>
    dsimp only [Machine.exec, execForward] at hr
    exact L.document (by nofun) (fun role d u hu hd => L.ownForward hu hd _) hs hr
  case hold =>
    dsimp only [Machine.exec, execHold] at hr
    exact L.document (by nofun) (fun role d u hu hd => L.ownHold hu hd _) hs hr
  case unhold =>
    dsimp only [Machine.exec, execUnhold] at hr
    exact L.document (by nofun) (fun role d u hu hd => L.ownUnhold hu hd _) hs hr
  case setNode =>
    dsimp only [Machine.exec, execSetNode] at hr
    refine L.request (by nofun) (fun role u _ hu => ?_) hs hr
    unfold ownSetNode
    split
    · exact hu.law
    · exact L.setNode hu _ _
  case setRoute =>
    dsimp only [Machine.exec, execSetRoute] at hr
    exact L.request (by nofun) (fun role u _ hu => L.same hu.law rfl rfl rfl (.inl rfl)) hs hr
  case clearRoute =>
    dsimp only [Machine.exec, execClearRoute] at hr
    exact L.request (by nofun) (fun role u _ hu => L.same hu.law rfl rfl rfl (.inl rfl)) hs hr
  case setDepartment =>
    dsimp only [Machine.exec, execSetDepartment] at hr
    exact L.request (by nofun) (fun role u _ hu => L.same hu.law rfl rfl rfl (.inl rfl)) hs hr
  case setLimits =>
    dsimp only [Machine.exec, execSetLimits] at hr
    exact L.request (by nofun) (fun role u _ hu => L.same hu.law rfl rfl rfl (.inl rfl)) hs hr
  case setClock =>
    dsimp only [Machine.exec, execSetClock] at hr
    exact L.request (by nofun) (fun role u _ hu => L.setClock hu.law hu.works _) hs hr
  case status =>
    dsimp only [Machine.exec, execStatus] at hr
    rcases request_next hr with rfl | ⟨role, v, rfl⟩ | ⟨role, _, _, _, rfl⟩
    · exact L.nextPacket hs
    · exact L.reply (L.nextPacket hs) role _ v .none
    · exact L.reply (L.nextPacket hs) role _ _ _
  case unknownOperation =>
    dsimp only [Machine.exec, execUnknownOperation] at hr
    exact L.request (by nofun) (fun role u _ hu => hu.law) hs hr
  all_goals cases hq

/-! ### Banks -/

theorem WorkLaw.bankEvent (L : WorkLaw P) {b : Body} {f : Flash} (h : P { s with body := b, flash := f }) :
    P (s.bankEvent b f) := L.arbitrate (L.quiet h)

/-- The end of a bank operation keeps a law that each change keeps. -/
theorem WorkLaw.endsBankWork (L : WorkLaw P) {c : Instr} (hc : Machine.endsBankWork c = true) (hs : P s)
    (hr : Machine.exec c s = .next t) : P t := by
  have hbank : ∀ bank : BitVec 2, bank.toNat < 4 := fun bank => bank.isLt
  cases c
  case programComplete bank =>
    dsimp only [Machine.exec, execProgramComplete] at hr
    split at hr <;> cases hr
    rename_i i l header hop
    exact L.bankEvent (L.programDone hs (hbank bank) hop fun m hm => Flash.programmed_spareOf.trans (if_neg hm))
  case programFail bank =>
    dsimp only [Machine.exec, execProgramFail] at hr
    split at hr <;> cases hr
    rename_i i l header hop
    exact L.bankEvent (L.programLost hs (hbank bank) hop fun m hm => Flash.leaves_spareOf.trans (if_neg hm))
  case fetchComplete bank =>
    dsimp only [Machine.exec, execFetchComplete] at hr
    split at hr <;> cases hr
    rename_i i hop
    exact L.bankEvent (L.fetchDone s.flash hs (hbank bank) hop)
  case voidMarkEnd bank completed =>
    dsimp only [Machine.exec, execVoidMarkEnd] at hr
    split at hr <;> cases hr
    rename_i l hop
    refine L.bankEvent (L.voidDone hs (hbank bank) hop fun m hm => ?_)
    split_ifs
    · exact (Flash.setSpare_spareOf ..).trans (if_neg hm)
    · exact Flash.leavesSpare_spareOf.trans (if_neg hm)
  case eraseEnd bank completed =>
    dsimp only [Machine.exec, execEraseEnd] at hr
    split at hr <;> cases hr
    rename_i l hop
    split_ifs
    · exact L.bankEvent (L.eraseDone hs (hbank bank) hop fun m hm => Flash.erased_spareOf.trans (if_neg hm))
    · exact L.bankEvent (L.eraseLost hs (hbank bank) hop fun m hm => Flash.leaves_spareOf.trans (if_neg hm))
  all_goals cases hc

/-! ### Events -/

/-- An event other than the loss of main power and the rebuild keeps a law that each change keeps. -/
theorem WorkLaw.execEvent (L : WorkLaw P) {c : Instr} (hq : requestOf c = none) (hl : ∀ x, c ≠ .mainPowerLoss x)
    (hc : c ≠ .rebuildComplete) (hs : P s) (hr : Machine.exec c s = .next t) : P t := by
  cases c
  case appendDataBlockEnd => exact L.appendDataBlockEnd hs hr
  case idleExpiry session =>
    dsimp only [Machine.exec, execIdleExpiry] at hr
    split_ifs at hr with ha hdue
    rw [next_eq hr]
    refine L.closing (s := s.quiet) _ _ (L.quiet hs) (State.idleDue_iff.mp hdue).1 fun a htxn hk => ha ?_
    exact Transaction.appendsTo_iff.mpr ⟨a, htxn, hk⟩
  case broadcastSetClock =>
    dsimp only [Machine.exec, execBroadcastSetClock] at hr
    split_ifs at hr with _ hrun <;> rw [next_eq hr]
    · simp only [Bool.and_eq_true, decide_eq_true_eq] at hrun
      have hw : s.nextPacket.recovery.part.works = true := by rw [State.nextPacket_recovery, hrun.2]; rfl
      exact L.setClock (L.nextPacket hs) hw _
    · exact L.nextPacket hs
  case tick =>
    dsimp only [Machine.exec, execTick] at hr
    split_ifs at hr <;> rw [next_eq hr]
    · exact L.tick (L.quiet hs)
    · exact L.quiet hs
  case escalation =>
    dsimp only [Machine.exec, execEscalation] at hr
    split_ifs at hr with hdue
    rw [next_eq hr]
    obtain ⟨hp, d, o, hd, ho, _⟩ := State.escalationDue_iff.mp hdue
    refine L.escalate (s := s.quiet) _ _ (L.quiet hs) (PartState.works_iff.mpr hp) fun e he => ?_
    have hed : s.body.doc _ = some e := he
    rw [hd] at hed
    cases hed
    exact List.ne_nil_of_mem (Document.mem_of_obligation ho).1
  case retentionDue =>
    dsimp only [Machine.exec, execRetentionDue] at hr
    split_ifs at hr with hdue <;> rw [next_eq hr]
    · obtain ⟨hp, d, hd, hdue⟩ := State.retentionDue_iff.mp hdue
      exact L.arbitrate (L.purge (s := s.quiet) (L.quiet hs) (PartState.works_iff.mpr hp) hd hdue.1)
    · exact L.quiet hs
  case busReset => exact L.busResetCommand hs hr
  case busResetWithdrawn => rw [next_eq hr]; exact L.same hs rfl rfl rfl (.inl rfl)
  case powerFailWarning =>
    rw [next_eq hr]
    refine L.frame hs rfl rfl ?_ rfl rfl (.inl rfl)
    dsimp only [State.quiet]
    split_ifs with hp
    · exact .inr ⟨by rw [hp]; rfl, rfl⟩
    · exact .inl rfl
  case powerFailWithdrawn =>
    dsimp only [Machine.exec, execPowerFailWithdrawn] at hr
    split_ifs at hr with hp <;> rw [next_eq hr]
    · refine L.resume ?_ rfl
      exact L.frame hs rfl rfl (.inr ⟨by rw [hp]; rfl, rfl⟩) rfl rfl (.inl rfl)
    · exact L.frame hs rfl rfl (.inl rfl) rfl rfl (.inl rfl)
  case mainPowerLoss x => exact absurd rfl (hl x)
  case mainPowerReturn =>
    obtain ⟨hoff, ⟨hm, rfl⟩ | ⟨_, rfl⟩⟩ := execMainPowerReturn_next hr
    · exact L.warm _ _ (L.quiet hs) hoff hm
    · exact L.cold _ _ (L.quiet hs) hoff
  case backupSupplyFailure =>
    obtain ⟨hoff, ht⟩ := execBackupSupplyFailure_next hr
    have hfail := L.failure (r := t.recovery) hs hoff (by rw [ht]; exact hoff) (by rw [ht]) (by rw [ht])
    exact L.same hfail (by rw [ht]) (by rw [ht]; rfl) rfl (.inl (by rw [ht]; rfl))
  case warmStartComplete =>
    obtain ⟨hp, ht⟩ := execWarmStartComplete_next hr
    rw [ht]
    refine L.resume (L.reconcile (L.quiet hs) hp) ?_
    unfold State.reconcile Recovery.afterStart
    dsimp only
    split_ifs <;> rfl
  case rebuildComplete => exact absurd rfl hc
  case headerScanLeafRead =>
    obtain ⟨hp, hlt, ht⟩ := execHeaderScanLeafRead_next hr
    rw [ht]
    exact L.scan (s := s.quiet) (L.quiet hs) hp hlt
  case programComplete | programFail | fetchComplete | voidMarkEnd | eraseEnd => exact L.endsBankWork rfl hs hr
  all_goals cases hq

/-- Every command but the loss of main power and the rebuild keeps a law that each of the part's changes keeps. -/
theorem WorkLaw.exec (L : WorkLaw P) {c : Instr} (hl : ∀ x, c ≠ .mainPowerLoss x) (hc : c ≠ .rebuildComplete) (hs : P s)
    (hr : Machine.exec c s = .next t) : P t := by
  cases hq : requestOf c
  case none => exact L.execEvent hq hl hc hs hr
  case some p => exact L.execRequest hq hs hr

end

end Sys2Proof.Machine
end

section
/-! The sessions and the APPEND in flight stand over documents that are being received: what keeps it so (R5, R43, R50). -/

namespace Sys2Proof.Machine

/-- An open session owns a document that is received, and an APPEND in flight is one of a session IN_PAGE. -/
structure OpenCalls (txn : Transaction) (b : Body) : Prop where
  sessions : b.sessionsOwn
  append : ∀ a, txn = .appending a → (b.session a.session).state = .inPage ∧
    (a.rolled = true → ∃ n d p, (b.session a.session).doc = some n ∧ b.doc n = some d ∧
      d.pages.getLast? = some p ∧ 2 ≤ p.slots.length)

theorem State.chargesLawful.calls {s : State} (h : s.chargesLawful) : OpenCalls s.txn s.body :=
  ⟨h.sessions, fun a ha => (h.append a ha).2⟩

/-- A document goes on being received in its session, with as many leaf slots on each page. -/
def Document.Continues (d : Document) (o : Option Document) : Prop :=
  ∃ f, o = some f ∧ f.state = .receiving ∧ f.session = d.session ∧ f.mask = d.mask

theorem Document.lastPage_of_mask {d f : Document} {p : Page} (h : f.mask = d.mask) (hp : d.pages.getLast? = some p) :
    ∃ q, f.pages.getLast? = some q ∧ q.slots.length = p.slots.length := by
  have hlast := congrArg List.getLast? h
  unfold Document.mask at hlast
  rw [List.getLast?_map, List.getLast?_map, hp] at hlast
  obtain ⟨q, hq, hqp⟩ := Option.map_eq_some_iff.mp hlast
  refine ⟨q, hq, ?_⟩
  have := congrArg List.length hqp
  rwa [List.length_map, List.length_map] at this

section
variable {txn : Transaction} {b c : Body}

/-- The document of an open session is no other session's. -/
theorem Body.sessionsOwn.other (h : b.sessionsOwn) {n k j : Nat} (hn : ∀ d, b.doc n = some d → d.session = some k)
    (hj : j ≠ k) (hst : (b.session j).state ≠ .idle) : (b.session j).doc ≠ some n := by
  intro hdoc
  obtain ⟨m, d, hm, hd, _, hses, _⟩ := h j hst
  rw [hdoc] at hm
  cases hm
  rw [hn d hd] at hses
  exact hj (Option.some.inj hses).symm

/-- The sessions stay, and their documents go on being received. -/
theorem OpenCalls.transport (h : OpenCalls txn b)
    (hs : ∀ k, (c.session k).state = (b.session k).state ∧ (c.session k).doc = (b.session k).doc)
    (hd : ∀ k n d, (b.session k).doc = some n → b.doc n = some d → d.state = .receiving → d.session = some k →
      d.Continues (c.doc n)) : OpenCalls txn c where
  sessions k hk := by
    obtain ⟨hst, hdoc⟩ := hs k
    obtain ⟨n, d, hn, hdn, hrec, hses, hpage⟩ := h.sessions k (hst ▸ hk)
    obtain ⟨f, hf, hfrec, hfses, hmask⟩ := hd k n d hn hdn hrec hses
    refine ⟨n, f, hdoc.trans hn, hf, hfrec, hfses.trans hses, fun hin => ?_⟩
    obtain ⟨p, hp, hne⟩ := hpage (hst ▸ hin)
    obtain ⟨q, hq, hlen⟩ := Document.lastPage_of_mask hmask hp
    exact ⟨q, hq, fun hnil => hne (List.length_eq_zero_iff.mp (by rw [← hlen, hnil]; rfl))⟩
  append a ha := by
    obtain ⟨hst, hdoc⟩ := hs a.session
    obtain ⟨hin, hrolled⟩ := h.append a ha
    refine ⟨hst.trans hin, fun hr => ?_⟩
    obtain ⟨n, d, p, hn, hdn, hp, hlen⟩ := hrolled hr
    obtain ⟨m, e, hm, hem, hrec, hses, _⟩ := h.sessions a.session (by rw [hin]; nofun)
    rw [hn] at hm
    cases hm
    rw [hdn] at hem
    cases hem
    obtain ⟨f, hf, _, _, hmask⟩ := hd a.session n d hn hdn hrec hses
    obtain ⟨q, hq, hql⟩ := Document.lastPage_of_mask hmask hp
    exact ⟨n, f, q, hdoc.trans hn, hf, hq, hql ▸ hlen⟩

/-- Sessions and documents stay as they are. -/
theorem OpenCalls.still (h : OpenCalls txn b) (hc : c.catalog = b.catalog)
    (hs : ∀ k, (c.session k).state = (b.session k).state ∧ (c.session k).doc = (b.session k).doc) : OpenCalls txn c :=
  h.transport hs fun _ n d _ hd hrec _ => ⟨d, (Body.doc_congr hc n).trans hd, hrec, rfl, rfl⟩

/-- One document is replaced, and goes on where it is being received. -/
theorem OpenCalls.replace (h : OpenCalls txn b) {n : Nat} {d f : Document} (hd : b.doc n = some d)
    (hc : c.catalog = (b.setDoc n f).catalog)
    (hs : ∀ k, (c.session k).state = (b.session k).state ∧ (c.session k).doc = (b.session k).doc)
    (hf : d.state = .receiving → d.Continues (some f)) : OpenCalls txn c := by
  refine h.transport hs fun k m e _ he hrec _ => ?_
  rw [Body.doc_congr hc, Body.setDoc_doc]
  split_ifs with hm
  · rw [hm, hd] at he
    cases he
    exact hf hrec
  · exact ⟨e, he, hrec, rfl, rfl⟩

/-- Only session `k` and the document in slot `n` change, which is no other session's. -/
theorem OpenCalls.update (h : OpenCalls txn b) {txn' : Transaction} {n k : Nat}
    (hn : ∀ d, b.doc n = some d → d.session = some k)
    (hs : ∀ j, j ≠ k → (c.session j).state = (b.session j).state ∧ (c.session j).doc = (b.session j).doc)
    (hd : ∀ m, m ≠ n → c.doc m = b.doc m)
    (hk : (c.session k).state ≠ .idle → ∃ m f, (c.session k).doc = some m ∧ c.doc m = some f ∧ f.state = .receiving ∧
      f.session = some k ∧ ((c.session k).state = .inPage → ∃ p, f.pages.getLast? = some p ∧ p.slots ≠ []))
    (ha : ∀ a, txn' = .appending a → txn = .appending a ∧ a.session ≠ k ∨ a.session = k ∧
      (c.session k).state = .inPage ∧ (a.rolled = true → ∃ m f p, (c.session k).doc = some m ∧ c.doc m = some f ∧
        f.pages.getLast? = some p ∧ 2 ≤ p.slots.length)) : OpenCalls txn' c where
  sessions j hj := by
    by_cases hjk : j = k
    · subst hjk; exact hk hj
    · obtain ⟨hst, hdoc⟩ := hs j hjk
      have hne := h.sessions.other hn hjk (hst ▸ hj)
      obtain ⟨m, e, hm, he, hrec, hses, hpage⟩ := h.sessions j (hst ▸ hj)
      refine ⟨m, e, hdoc.trans hm, (hd m fun hmn => hne (hmn ▸ hm)).trans he, hrec, hses, fun hin => hpage (hst ▸ hin)⟩
  append a ht := by
    rcases ha a ht with ⟨htxn, hak⟩ | ⟨rfl, hin, hrolled⟩
    · obtain ⟨hst, hdoc⟩ := hs a.session hak
      obtain ⟨hin, hrolled⟩ := h.append a htxn
      have hne := h.sessions.other hn hak (by rw [hin]; nofun)
      refine ⟨hst.trans hin, fun hr => ?_⟩
      obtain ⟨m, d, p, hm, hdm, hp, hlen⟩ := hrolled hr
      exact ⟨m, d, p, hdoc.trans hm, (hd m fun hmn => hne (hmn ▸ hm)).trans hdm, hp, hlen⟩
    · exact ⟨hin, hrolled⟩

end

/-! ### The law of charges of a state -/

section
variable {s : State} {b : Body}

theorem PartState.not_rebuilding {p : PartState} (h : p.works = true) : p ≠ .rebuilding := by
  rintro rfl; cases h

/-- The body changes alone. -/
theorem State.chargesLawful.ofBody (h : s.chargesLawful) (hb : b.chargesLawful) (hc : OpenCalls s.txn b)
    (hd : s.recovery.part = .rebuilding → ∀ n, b.doc n = none) : ({ s with body := b } : State).chargesLawful :=
  ⟨hb, hc.sessions, fun a ha => ⟨(h.append a ha).1, hc.append a ha⟩, hd⟩

/-- The body changes alone while the part works. -/
theorem State.chargesLawful.ofWork (h : s.chargesLawful) (hw : s.recovery.part.works = true) (hb : b.chargesLawful)
    (hc : OpenCalls s.txn b) : ({ s with body := b } : State).chargesLawful :=
  h.ofBody hb hc fun hp => absurd hp (PartState.not_rebuilding hw)

/-- Catalog, accounts and purge list stay, and so do the states and documents of the sessions. -/
theorem State.chargesLawful.still (h : s.chargesLawful) (hc : b.catalog = s.body.catalog)
    (ha : b.accounts = s.body.accounts) (hp : b.purges = s.body.purges)
    (hs : ∀ k, (b.session k).state = (s.body.session k).state ∧ (b.session k).doc = (s.body.session k).doc) :
    ({ s with body := b } : State).chargesLawful :=
  h.ofBody (h.charges.congr hc ha hp) (h.calls.still hc hs) fun hr n => (Body.doc_congr hc n).trans (h.rebuilding hr n)

/-- A law of charges does not see the flash. -/
theorem State.chargesLawful.anyFlash (h : s.chargesLawful) (f : Flash) : ({ s with flash := f } : State).chargesLawful :=
  ⟨h.charges, h.sessions, h.append, h.rebuilding⟩

end

end Sys2Proof.Machine
end

section
/-! Purges, programs and replacements keep charges and accounts: which slots are released is all the law sees of them
(R92, R93, R95, R106, R119). -/

namespace Sys2Proof.Machine

/-! ### Slots that are not released -/

section
variable {d : Document}

theorem countP_flatMap {α β : Type} (p : β → Bool) (f : α → List β) (l : List α) :
    (l.flatMap f).countP p = (l.map (fun a => (f a).countP p)).sum := by
  induction l with
  | nil => rfl
  | cons a l ih => rw [List.flatMap_cons, List.countP_append, ih, List.map_cons, List.sum_cons]

theorem countP_zipIdx {α : Type} (p : α → Bool) (l : List α) (k : Nat) :
    (l.zipIdx k).countP (fun e => p e.1) = l.countP p := by
  have h := congrArg (List.countP p) (List.zipIdx_map_fst k l)
  rwa [List.countP_map] at h

/-- The slots not released, counted along the leaf slots. -/
theorem Document.unreleased_leafSlots (d : Document) :
    d.unreleased = d.leafSlots.countP (fun s => s.2.2 != .released) := by
  unfold Document.unreleased Document.leafSlots
  rw [countP_flatMap, ← List.zipIdx_map_fst 0 d.pages, List.map_map, List.zipIdx_map_fst]
  refine congrArg List.sum (List.map_congr_left fun e _ => ?_)
  rw [List.countP_map]
  exact (countP_zipIdx (fun v => v != .released) e.1.slots 0).symm

/-- In a list of distinct places, one slot that is not released goes. -/
theorem countP_release {l : List (Nat × Nat × LeafSlot)} (hn : (l.map slotPlace).Nodup) {s : Nat × Nat × LeafSlot}
    (hs : s ∈ l) (hv : s.2.2 ≠ .released) :
    (l.map (fun x => if slotPlace x = slotPlace s then slotWith .released x else x)).countP (fun x => x.2.2 != .released) + 1 =
      l.countP (fun x => x.2.2 != .released) := by
  induction l with
  | nil => cases hs
  | cons x l ih =>
    obtain ⟨hx, hn⟩ := List.nodup_cons.mp hn
    rw [List.map_cons, List.countP_cons, List.countP_cons]
    rcases List.mem_cons.mp hs with rfl | hs
    · have hrest : l.map (fun x => if slotPlace x = slotPlace s then slotWith .released x else x) = l :=
        (List.map_congr_left fun y hy => if_neg fun he => hx (List.mem_map.mpr ⟨y, hy, he⟩)).trans (List.map_id _)
      rw [hrest]
      simp [slotWith, hv]
    · have hne : slotPlace x ≠ slotPlace s := fun he => hx (List.mem_map.mpr ⟨s, hs, he.symm⟩)
      have := ih hn hs
      simp only [hne, if_false]
      omega

theorem Document.unreleased_release {page index : Nat} {v : LeafSlot} (hs : (page, index, v) ∈ d.leafSlots)
    (hv : v ≠ .released) : (d.setLeafSlot page index .released).unreleased + 1 = d.unreleased := by
  rw [Document.unreleased_leafSlots, Document.unreleased_leafSlots,
    Document.leafSlots_setLeafSlot d (Document.page_pos_of_mem hs)]
  exact countP_release (s := (page, index, v)) d.leafSlots_nodup hs hv

/-- A PURGING document stays lawful when one of its slots is released (R119). -/
theorem Document.chargesLawful.release (h : d.chargesLawful) (hst : d.state = .purging) {page index : Nat} {v : LeafSlot}
    (hs : (page, index, v) ∈ d.leafSlots) (hv : v ≠ .released) :
    ({ d.setLeafSlot page index .released with retained := d.retained - 1 } : Document).chargesLawful := by
  obtain ⟨hnil, hret⟩ := h.purging hst
  have hcount := Document.unreleased_release hs hv
  refine ⟨h.distinct, fun hp => absurd hst hp, fun hr => ?_, fun hr => ?_, fun hr => ?_, fun _ => ⟨hnil, ?_⟩⟩
  · have hd : d.state = .receiving := hr
    rw [hst] at hd; cases hd
  · have hd : d.state = .distributing := hr
    rw [hst] at hd; cases hd
  · have hd : d.state = .retained := hr
    rw [hst] at hd; cases hd
  · change d.retained - 1 = (d.setLeafSlot page index .released).unreleased
    have hret' : d.retained = d.unreleased := hret
    omega

/-- The other slots stay where one is released. -/
theorem Document.mem_leafSlots_release {page index : Nat} (hp : 1 ≤ page) {s : Nat × Nat × LeafSlot} (hs : s ∈ d.leafSlots)
    (hne : slotPlace s ≠ (page, index)) : s ∈ (d.setLeafSlot page index .released).leafSlots := by
  rw [Document.leafSlots_setLeafSlot d hp, List.mem_map]
  exact ⟨s, hs, if_neg hne⟩

/-- Several slots of a PURGING document are released. -/
theorem Document.chargesLawful.releasing (h : d.chargesLawful) (hst : d.state = .purging)
    {l : List (Nat × Nat × LeafSlot)} (hn : (l.map slotPlace).Nodup) (hl : ∀ s ∈ l, s ∈ d.leafSlots ∧ s.2.2 ≠ .released) :
    (d.releasing l).chargesLawful := by
  induction l generalizing d with
  | nil => exact h
  | cons s l ih =>
    obtain ⟨hs, hn⟩ := List.nodup_cons.mp hn
    obtain ⟨hmem, hv⟩ := hl s List.mem_cons_self
    rw [Document.releasing_cons]
    refine ih (h.release hst hmem hv) hst hn fun x hx => ?_
    obtain ⟨hxm, hxv⟩ := hl x (List.mem_cons_of_mem _ hx)
    exact ⟨Document.mem_leafSlots_release (Document.page_pos_of_mem hmem) hxm
      fun he => hs (List.mem_map.mpr ⟨x, hx, he⟩), hxv⟩

/-- A slot changed without being released, or while it is, shows nothing to the law of charges. -/
theorem Document.updLeafSlot_mask (d : Document) (page index : Nat) {g : LeafSlot → LeafSlot}
    (hg : ∀ v, (g v == .released) = (v == .released)) : (d.updLeafSlot page index g).mask = d.mask := by
  unfold Document.mask Document.updLeafSlot Document.updPage
  refine List.ext_getElem? fun j => ?_
  simp only [List.getElem?_map, getElem?_updateNth]
  split_ifs
  · cases d.pages[j]? with
    | none => rfl
    | some p =>
      simp only [Option.map_some, Option.some.injEq]
      refine List.ext_getElem? fun x => ?_
      simp only [List.getElem?_map, getElem?_updateNth]
      split_ifs
      · cases p.slots[x]? with
        | none => rfl
        | some v => exact congrArg some (hg v)
      · rfl
  · rfl

theorem LeafSlot.lost_released (v : LeafSlot) : (v.lost == .released) = (v == .released) := by cases v <;> rfl

theorem LeafSlot.filled_released (l : Nat) (v : LeafSlot) : (v.filled l == .released) = (v == .released) := by
  cases v <;> rfl

end

/-! ### The body under the law -/

/-- The law of charges of a body, with the sessions and the APPEND in flight over documents being received. -/
structure ChargesHeld (txn : Transaction) (b : Body) : Prop where
  charges : b.chargesLawful
  calls : OpenCalls txn b

/-- The sessions keep their states and documents. -/
def SessionsKept (b c : Body) : Prop :=
  ∀ k, (c.session k).state = (b.session k).state ∧ (c.session k).doc = (b.session k).doc

theorem SessionsKept.of_eq {b c : Body} (h : c.sessions = b.sessions) : SessionsKept b c := fun k => by
  rw [Body.session_congr h]; exact ⟨rfl, rfl⟩

theorem SessionsKept.trans {a b c : Body} (h : SessionsKept a b) (k : SessionsKept b c) : SessionsKept a c := fun n =>
  ⟨(k n).1.trans (h n).1, (k n).2.trans (h n).2⟩

theorem SessionsKept.releaseBuffer (b : Body) (i : Nat) : SessionsKept b (b.releaseBuffer i) := fun k => by
  rw [Body.releaseBuffer_session]; exact ⟨rfl, rfl⟩

section
variable {txn : Transaction} {b c : Body} {n : Nat} {d f : Document}

theorem ChargesHeld.still (h : ChargesHeld txn b) (hc : c.catalog = b.catalog) (ha : c.accounts = b.accounts)
    (hp : c.purges = b.purges) (hs : SessionsKept b c) : ChargesHeld txn c :=
  ⟨h.charges.congr hc ha hp, h.calls.still hc hs⟩

/-- A document is replaced by one that the law does not tell from it. -/
theorem ChargesHeld.store (h : ChargesHeld txn b) (hd : b.doc n = some d) (hm : f.mask = d.mask)
    (hf : f = { d with pages := f.pages }) : ChargesHeld txn (b.setDoc n f) := by
  have hobl : f.obligations = d.obligations := by rw [hf]
  have hstate : f.state = d.state := by rw [hf]
  refine ⟨h.charges.replace hd ?_ (fun hs => hstate.trans hs) rfl (fun x => by rw [hobl]; rfl) rfl,
    h.calls.replace hd rfl (SessionsKept.of_eq rfl) fun hs => ⟨f, rfl, hstate.trans hs, by rw [hf], hm⟩⟩
  exact (h.charges.documents n d hd).same hm hstate (by rw [hf]) (by rw [hobl])

theorem ChargesHeld.updSlot (h : ChargesHeld txn b) (n page index : Nat) {g : LeafSlot → LeafSlot}
    (hg : ∀ v, (g v == .released) = (v == .released)) :
    ChargesHeld txn (b.updDoc n (fun d => d.updLeafSlot page index g)) := by
  cases hd : b.doc n with
  | none => rw [Body.updDoc_none _ hd]; exact h
  | some d =>
    rw [Body.updDoc_eq _ hd]
    exact h.store hd (d.updLeafSlot_mask page index hg) rfl

/-- A PURGING document is replaced by a lawful one. -/
theorem ChargesHeld.purging (h : ChargesHeld txn b) (hd : b.doc n = some d) (hst : d.state = .purging)
    (hf : f.chargesLawful) (hfst : f.state = .purging) (hc : c.catalog = (b.setDoc n f).catalog)
    (ha : c.accounts = b.accounts) (hp : c.purges = b.purges) (hs : SessionsKept b c) : ChargesHeld txn c := by
  have hacc : ∀ x, c.account x = b.account x := fun x => by unfold Body.account; rw [ha]
  refine ⟨h.charges.replace hd hf (fun _ => hfst) hc (fun x => ?_) hp,
    h.calls.replace hd hc hs fun hr => by rw [hst] at hr; cases hr⟩
  rw [hacc, (h.charges.documents n d hd).uncharged hst, hf.uncharged hfst]

theorem ChargesHeld.freePurging (h : ChargesHeld txn b) (hd : b.doc n = some d) (hst : d.state = .purging) :
    ChargesHeld txn (b.freeSlot n) := by
  refine ⟨h.charges.free hd ((h.charges.documents n d hd).uncharged hst),
    h.calls.transport (SessionsKept.of_eq rfl) fun k m e _ he hrec _ => ⟨e, ?_, hrec, rfl, rfl⟩⟩
  rw [Body.freeSlot_doc, if_neg fun hm => ?_, he]
  rw [hm, hd] at he
  cases he
  rw [hst] at hrec
  cases hrec

theorem SessionsKept.freeing (b : Body) (l : List Nat) : SessionsKept b (b.freeing l) := fun k => by
  rw [Body.freeing_session]; exact ⟨rfl, rfl⟩

theorem Body.setDoc_catalog_congr {b c : Body} (h : c.catalog = b.catalog) (n : Nat) (f : Document) :
    (c.setDoc n f).catalog = (b.setDoc n f).catalog := by
  simp only [Body.setDoc, Body.setSlot, Body.slot_congr h, h]

/-- A slot of a PURGING document is released. -/
theorem ChargesHeld.releaseSlot (h : ChargesHeld txn b) (hd : b.doc n = some d) (hst : d.state = .purging)
    {page index : Nat} {v : LeafSlot} (hs : (page, index, v) ∈ d.leafSlots) (hv : v ≠ .released) :
    ChargesHeld txn (b.releaseSlot n page index) := by
  have hlaw := (h.charges.documents n d hd).release hst hs hv
  refine h.purging hd hst hlaw hst ?_ ?_ (Body.releaseSlot_purges ..) ?_
  · rw [Body.releaseSlot_eq, Body.updDoc_eq _ hd]
  · rw [Body.releaseSlot_eq, Body.freeing_frame]
  · rw [Body.releaseSlot_eq]
    exact SessionsKept.freeing b _

/-- The slots of a list of a PURGING document are released one after another. -/
theorem ChargesHeld.releaseSlots (h : ChargesHeld txn b) (hd : b.doc n = some d) (hst : d.state = .purging)
    {l : List (Nat × Nat × LeafSlot)} (hn : (l.map slotPlace).Nodup) (hl : ∀ s ∈ l, s ∈ d.leafSlots ∧ s.2.2 ≠ .released) :
    ChargesHeld txn (b.releaseSlots n l) := by
  induction l generalizing b d with
  | nil => exact h
  | cons s l ih =>
    obtain ⟨hs, hn⟩ := List.nodup_cons.mp hn
    obtain ⟨hmem, hv⟩ := hl s List.mem_cons_self
    rw [Body.releaseSlots_cons]
    have hdoc : (b.releaseSlot n s.1 s.2.1).doc n =
        some { d.setLeafSlot s.1 s.2.1 .released with retained := d.retained - 1 } := by
      unfold Body.doc
      rw [Body.releaseSlot_slot hd, if_pos rfl]
    refine ih (h.releaseSlot hd hst hmem hv) hdoc hst hn fun x hx => ?_
    obtain ⟨hxm, hxv⟩ := hl x (List.mem_cons_of_mem _ hx)
    exact ⟨Document.mem_leafSlots_release (Document.page_pos_of_mem hmem) hxm
      fun he => hs (List.mem_map.mpr ⟨x, hx, he⟩), hxv⟩

/-- The cursor of a PURGING document moves on. -/
theorem ChargesHeld.advancePurge (h : ChargesHeld txn b) (hd : b.doc n = some d) (hst : d.state = .purging) :
    ChargesHeld txn (b.advancePurge n) := by
  have hset := h.releaseSlots hd hst d.unplacedAtCursor_nodup fun s hs => by
    obtain ⟨hp, hu⟩ := Document.mem_unplacedAtCursor.mp hs
    exact ⟨Document.mem_of_passed hp, by rw [hu]; nofun⟩
  have hdoc : (b.releaseSlots n d.unplacedAtCursor).doc n = some (d.releasing d.unplacedAtCursor) := by
    unfold Body.doc
    rw [Body.releaseSlots_slot hd, if_pos rfl]
  rw [Body.advancePurge_eq hd]
  split_ifs
  · refine hset.freePurging hdoc ?_
    rw [Document.releasing_eq]
    exact hst
  · exact hset

/-- The body of a purge that starts, before its cursor moves on (R150). -/
def Body.purgeListed (b : Body) (n : Nat) (d : Document) : Body :=
  { b.setDoc n { d with state := .purging } with purges := b.purges ++ [n] }

theorem Body.purgeListed_doc (b : Body) (n : Nat) (d : Document) (m : Nat) :
    (b.purgeListed n d).doc m = if m = n then some { d with state := .purging } else b.doc m := Body.setDoc_doc b n _ m

theorem Body.startPurge_listed (hd : b.doc n = some d) : b.startPurge n = (b.purgeListed n d).advancePurge n := by
  unfold Body.startPurge
  rw [Body.updDoc_eq _ hd]
  rfl

theorem ChargesHeld.purgeListed (h : ChargesHeld txn b) (hd : b.doc n = some d) (hst : d.state = .retained) :
    ChargesHeld txn (b.purgeListed n d) := by
  have hlaw := h.charges.documents n d hd
  have hnil := hlaw.retained hst
  obtain ⟨hsum, hnone⟩ := hlaw.whole (by rw [hst]; nofun)
  have hcount : d.unreleased = d.leafCount := by
    refine congrArg List.sum (List.map_congr_left fun p hp => List.countP_eq_length.mpr fun v hv => ?_)
    exact bne_iff_ne.mpr fun hr => hnone p hp (hr ▸ hv)
  have hf : ({ d with state := .purging } : Document).chargesLawful := by
    refine ⟨hlaw.distinct, fun hp => absurd rfl hp, nofun, nofun, nofun, fun _ => ⟨hnil, ?_⟩⟩
    rw [hnil] at hsum
    exact ((Nat.zero_add _).symm.trans hsum).trans hcount.symm
  have hset : ChargesHeld txn (b.setDoc n { d with state := .purging }) := by
    refine ⟨h.charges.replace hd hf (fun _ => rfl) rfl (fun x => rfl) rfl,
      h.calls.replace hd rfl (SessionsKept.of_eq rfl) fun hr => ?_⟩
    rw [hst] at hr
    cases hr
  have hdoc : (b.setDoc n { d with state := .purging }).doc n = some { d with state := .purging } :=
    (Body.setDoc_doc ..).trans (if_pos rfl)
  exact ⟨hset.charges.list hdoc rfl, hset.calls.still rfl (SessionsKept.of_eq rfl)⟩

/-- The purge of a RETAINED document starts (R150). -/
theorem ChargesHeld.startPurge (h : ChargesHeld txn b) (hd : b.doc n = some d) (hst : d.state = .retained) :
    ChargesHeld txn (b.startPurge n) := by
  rw [Body.startPurge_listed hd]
  exact (h.purgeListed hd hst).advancePurge (by rw [Body.purgeListed_doc, if_pos rfl]) rfl

/-! ### Operations of the banks -/

theorem ChargesHeld.releaseBuffer (h : ChargesHeld txn b) (i : Nat) : ChargesHeld txn (b.releaseBuffer i) :=
  h.still (by simp) (by simp) (by simp) (.releaseBuffer b i)

theorem ChargesHeld.dropWindow (h : ChargesHeld txn b) (l : Nat) : ChargesHeld txn (b.dropWindow l) := by
  unfold Body.dropWindow
  split
  · split_ifs
    · exact h.releaseBuffer _
    · exact h.still rfl rfl rfl (.of_eq rfl)
  · exact h

theorem Body.dropWindow_doc (b : Body) (l n : Nat) : (b.dropWindow l).doc n = b.doc n :=
  Body.doc_congr (Body.dropWindow_catalog b l) n

/-- The void mark at a PURGING document's cursor starts (R95). -/
theorem ChargesHeld.startVoidMark (h : ChargesHeld txn b) (hd : b.doc n = some d) (hst : d.state = .purging)
    {page index : Nat} {l : Nat} (k : Nat) (hs : (page, index, LeafSlot.placed l) ∈ d.leafSlots) :
    ChargesHeld txn (b.startVoidMark k n page index l) := by
  have hmark : ChargesHeld txn ((b.setLeaf l ⟨.voiding, none, none⟩).setOp k (.voidMark l)) :=
    h.still rfl rfl rfl (.of_eq rfl)
  have hrel := (hmark.releaseSlot hd hst hs nofun).dropWindow l
  have hdoc : (b.marked k n page index l).doc n =
      some { d.setLeafSlot page index .released with retained := d.retained - 1 } := by
    unfold Body.doc
    rw [Body.marked_slot hd, if_pos rfl]
  rw [Body.startVoidMark_eq]
  exact ChargesHeld.advancePurge (b := b.marked k n page index l) hrel hdoc hst

theorem ChargesHeld.startReplace (h : ChargesHeld txn b) (k i : Nat) : ChargesHeld txn (b.startReplace k i) := by
  rcases Body.startReplace_cases (b := b) (k := k) i with ⟨_, he⟩ | ⟨l, rest, p, _, _, he⟩
  · rw [he]; exact h
  · have hpop : ChargesHeld txn ((b.popBlank k).setLeaf l ⟨.blank, some p, some i⟩) :=
      h.still rfl rfl rfl (.of_eq rfl)
    have hfill := hpop.updSlot p.slot p.page p.index (LeafSlot.filled_released l)
    rw [he]
    exact hfill.still rfl rfl rfl (.of_eq rfl)

/-- What a bank has chosen starts. -/
theorem ChargesHeld.startWork (h : ChargesHeld txn b) {part : PartState} {floor k : Nat} {w : Work}
    (hw : b.choose part floor k = some w) : ChargesHeld txn (b.startWork k w) := by
  cases w with
  | program i l => exact h.still rfl rfl rfl (.of_eq rfl)
  | replace i => exact h.startReplace k i
  | fetch i => exact h.still rfl rfl rfl (.of_eq rfl)
  | erase l => exact h.still rfl rfl rfl (.of_eq rfl)
  | voidMark n page index l =>
    rcases Body.choose_source hw with ⟨i, _, hi⟩ | ⟨_, ⟨_, _, _, hv⟩ | ⟨_, _, _, hv⟩ | ⟨m, hm, d, p, x, j, hd, hcur, _, _, hv⟩⟩
    · rcases hi.2 with ⟨_, _, _, hv⟩ | ⟨_, _, hv⟩ <;> cases hv
    · cases hv
    · cases hv
    · cases hv
      obtain ⟨e, he, hst⟩ := h.charges.purges n hm
      rw [hd] at he
      cases he
      exact h.startVoidMark hd hst k (List.mem_of_find?_eq_some hcur)

/-- A failed program leaves its slot unplaced (R92). -/
theorem ChargesHeld.unplace (h : ChargesHeld txn b) (p : Place) : ChargesHeld txn (b.unplace p) := by
  have hlost := h.updSlot p.slot p.page p.index LeafSlot.lost_released
  unfold Body.unplace
  dsimp only
  split_ifs with hp
  · obtain ⟨d, hd, hst⟩ := Option.map_eq_some_iff.mp hp
    exact hlost.advancePurge hd hst
  · exact hlost

theorem ChargesHeld.programLost (h : ChargesHeld txn b) (k i l : Nat) : ChargesHeld txn (b.programLost k i l) := by
  have hmiss : ∀ v : Buffer, ChargesHeld txn (((b.setOp k .none).setLeaf l ⟨.retired, none, none⟩).setBuffer i v) :=
    fun v => h.still rfl rfl rfl (.of_eq rfl)
  unfold Body.programLost
  dsimp only
  split
  · exact (hmiss _).unplace _
  · exact hmiss _

end

end Sys2Proof.Machine
end

section
/-! The sessions' changes keep charges and accounts: a call admitted, a slot allocated or returned, a page ended, a session
closed (R47, R50 to R59, R108, R109). -/

namespace Sys2Proof.Machine

/-! ### Documents being received -/

section
variable {d f : Document} {lead : Obligation} {rest : List Obligation} {p : Page}

/-- While a document is received its lead bears the whole leaf count (R108). -/
theorem Document.chargesLawful.leadBears (h : d.chargesLawful) (hst : d.state = .receiving) (ho : d.obligations = lead :: rest) :
    lead.charge = d.leafCount ∧ d.retained = 0 ∧ ∀ o ∈ rest, o.charge = 0 := by
  obtain ⟨hret, _, htail⟩ := h.receiving hst
  obtain ⟨hsum, _⟩ := h.whole (by rw [hst]; nofun)
  rw [ho] at hsum htail
  have hrest : (rest.map (fun o => o.charge)).sum = 0 := List.sum_eq_zero fun c hc => by
    obtain ⟨o, hor, rfl⟩ := List.mem_map.mp hc
    exact htail o hor
  rw [List.map_cons, List.sum_cons] at hsum
  exact ⟨by omega, hret, htail⟩

/-- A document that is received gains or loses leaf slots, and its lead bears the new leaf count. -/
theorem Document.chargesLawful.leading (h : d.chargesLawful) (hst : d.state = .receiving)
    (ho : d.obligations = lead :: rest) {c : Nat}
    (hf : f = { d with pages := f.pages, obligations := { lead with charge := c } :: rest }) (hc : c = f.leafCount)
    (hnone : ∀ p ∈ f.pages, .released ∉ p.slots) : f.chargesLawful := by
  obtain ⟨_, hret, hrest⟩ := h.leadBears hst ho
  have hdist := h.distinct
  have hobl : f.obligations = { lead with charge := c } :: rest := by rw [hf]
  have hstate : f.state = .receiving := by rw [hf]; exact hst
  have hfret : f.retained = 0 := by rw [hf]; exact hret
  rw [ho] at hdist
  refine ⟨by rw [hobl]; exact hdist, fun _ => ⟨?_, hnone⟩, fun _ => ⟨hfret, by rw [hobl]; simp, ?_⟩, fun hs => ?_,
    fun hs => ?_, fun hs => ?_⟩
  · have hsum : (rest.map (fun o => o.charge)).sum = 0 := List.sum_eq_zero fun x hx => by
      obtain ⟨o, hor, rfl⟩ := List.mem_map.mp hx
      exact hrest o hor
    rw [hobl, hfret, List.map_cons, List.sum_cons]
    dsimp only
    omega
  · rw [hobl]; exact hrest
  all_goals rw [hstate] at hs; cases hs

theorem Document.leafCount_pages (d : Document) (l : List Page) (p : Page) (h : d.pages = l ++ [p]) :
    d.leafCount = (l.map (fun q => q.slots.length)).sum + p.slots.length := by
  unfold Document.leafCount
  rw [h, List.map_append, List.sum_append]
  simp

theorem Document.pages_last (h : d.pages.getLast? = some p) : d.pages = d.pages.dropLast ++ [p] := by
  conv_lhs => rw [← List.getLast?_toList_append_dropLast d.pages, h]
  rfl

/-- A change of a page that leaves its slots shows nothing to the law of charges. -/
theorem Document.updLastPage_mask (d : Document) {g : Page → Page} (hg : ∀ p, (g p).slots = p.slots) :
    (d.updLastPage g).mask = d.mask := by
  unfold Document.mask
  rw [Document.updLastPage_pages]
  conv_rhs => rw [← List.getLast?_toList_append_dropLast d.pages]
  cases d.pages.getLast? with
  | none => rfl
  | some p => simp [hg]

/-- What a close keeps is lawful (R109). -/
theorem Document.chargesLawful.kept (h : d.chargesLawful) (hst : d.state = .receiving) (t : Tables) (tb : Timebase)
    (ending : Ending) : (d.kept t tb ending).chargesLawful := by
  obtain ⟨hret, hne, _⟩ := h.receiving hst
  obtain ⟨hframe, hpages, hobl, _⟩ := Document.closedAs_kept t tb d ending
  have hstate : (d.kept t tb ending).state = .distributing := by rw [hframe]
  have hfret : (d.kept t tb ending).retained = 0 := by rw [hframe]; exact hret
  have howing : ∀ os : List Obligation, (os.map (fun o => { o with
      deadline := t.deadline o.department o.kind tb.run })).map Obligation.owing = os.map Obligation.owing :=
    fun os => (List.map_map ..).trans rfl
  have hleaf : (d.kept t tb ending).leafCount = d.leafCount := by
    unfold Document.leafCount
    rw [hpages]
    conv_rhs => rw [← List.getLast?_toList_append_dropLast d.pages]
    cases d.pages.getLast? <;> simp
  have hdepts : (d.kept t tb ending).obligations.map (fun o => o.department) = d.obligations.map (fun o => o.department) := by
    rw [hobl, departments_owing (howing _)]
    exact d.apportioned_departments
  refine ⟨by rw [hdepts]; exact h.distinct, fun _ => ⟨?_, fun p hp => ?_⟩, fun hs => ?_, fun _ hn => hne ?_,
    fun hs => ?_, fun hs => ?_⟩
  · rw [hobl, charges_owing (howing _), Document.apportioned_sum hne, hfret, hleaf]
    rfl
  · obtain ⟨_, hnone⟩ := h.whole (by rw [hst]; nofun)
    rw [hpages] at hp
    rcases List.mem_append.mp hp with hp | hp
    · exact hnone p (List.dropLast_subset _ hp)
    · obtain ⟨q, hq, rfl⟩ := Option.map_eq_some_iff.mp (Option.mem_toList.mp hp)
      rw [Page.cut_slots]
      exact hnone q (List.mem_of_getLast? hq)
  · rw [hstate] at hs; cases hs
  · rw [hn, List.map_nil] at hdepts
    exact List.map_eq_nil_iff.mp hdepts.symm
  · rw [hstate] at hs; cases hs
  · rw [hstate] at hs; cases hs

/-- A call as it is admitted is lawful. -/
theorem NewCall.lawful {k : Nat} (h : NewCall d k) : d.chargesLawful := by
  have hsum : (d.obligations.map (fun o => o.charge)).sum = 0 := List.sum_eq_zero fun c hc => by
    obtain ⟨o, ho, rfl⟩ := List.mem_map.mp hc
    exact h.uncharged o ho
  have hleaf : d.leafCount = 0 := by unfold Document.leafCount; rw [h.pages]; rfl
  refine ⟨h.distinct, fun _ => ⟨by rw [hsum, h.retained, hleaf], fun p hp => ?_⟩,
    fun _ => ⟨h.retained, h.owes, fun o ho => h.uncharged o (List.mem_of_mem_tail ho)⟩, fun hs => ?_, fun hs => ?_,
    fun hs => ?_⟩
  · rw [h.pages] at hp; cases hp
  all_goals rw [h.state] at hs; cases hs

end

/-! ### The changes of the sessions -/

section
variable {txn : Transaction} {b c : Body} {n k : Nat} {d f : Document}

/-- What a session IN_PAGE has (R43, R50). -/
theorem OpenCalls.inPage (h : OpenCalls txn b) (hst : (b.session k).state = .inPage) : ∃ n d p,
    (b.session k).doc = some n ∧ b.doc n = some d ∧ d.state = .receiving ∧ d.session = some k ∧
      d.pages.getLast? = some p ∧ p.slots ≠ [] := by
  obtain ⟨n, d, hn, hd, hrec, hses, hpage⟩ := h.sessions k (by rw [hst]; nofun)
  obtain ⟨p, hp, hne⟩ := hpage hst
  exact ⟨n, d, p, hn, hd, hrec, hses, hp, hne⟩

theorem OpenCalls.free (h : OpenCalls txn b) : OpenCalls .none b := ⟨h.sessions, fun _ => nofun⟩

theorem OpenCalls.clear_of_idle (h : OpenCalls txn b) (hst : (b.session k).state ≠ .inPage) : txn.clear k := fun a ha hak =>
  hst (hak ▸ (h.append a ha).1)

/-- A call is admitted (R47). -/
theorem ChargesHeld.admitCall (h : ChargesHeld txn b) (hd : b.doc n = none) (hidle : (b.session k).state = .idle)
    (hnew : NewCall d k) (deadline : Nat) : ChargesHeld txn (b.admitCall n k d deadline) := by
  have heq := b.admitCall_eq n k d deadline
  have hsession : ∀ j, (b.admitCall n k d deadline).session j =
      if j = k then ⟨.admitted, some n, some deadline, []⟩ else b.session j := fun j => by
    rw [heq]; exact Table.read_write Session.idle b.sessions k j ⟨.admitted, some n, some deadline, []⟩
  have hdoc := b.admitCall_doc n k d deadline
  have hclear : txn.clear k := h.calls.clear_of_idle (by rw [hidle]; nofun)
  refine ⟨h.charges.enter hd hnew.lawful (chargeOf_eq_zero hnew.uncharged) (by rw [heq]; rfl)
    (fun x => by rw [heq]; rfl) (by rw [heq]), h.calls.update (n := n) (k := k) ?_ ?_ ?_ ?_ ?_⟩
  · intro e he; rw [hd] at he; cases he
  · intro j hj; rw [hsession, if_neg hj]; exact ⟨rfl, rfl⟩
  · intro m hm; rw [hdoc, if_neg hm]
  · intro _
    rw [hsession, if_pos rfl]
    exact ⟨n, d, rfl, (hdoc n).trans (if_pos rfl), hnew.state, hnew.session, nofun⟩
  · exact fun a ha => .inl ⟨ha, hclear a ha⟩

/-- A leaf slot more of the document of a session IN_PAGE, charged to its lead (R50, R55, R108). -/
theorem ChargesHeld.withSlot (h : ChargesHeld txn b) {txn' : Transaction} (hd : b.doc n = some d)
    (hrec : d.state = .receiving) (hses : d.session = some k) (hdoc : (b.session k).doc = some n) {lead : Obligation}
    {rest : List Obligation} (ho : d.obligations = lead :: rest) {p : Page} {i l : Nat} (place : Place)
    (hf : f = { d with pages := f.pages, obligations := { lead with charge := lead.charge + 1 } :: rest })
    (hcount : f.leafCount = d.leafCount + 1) (hnone : ∀ p ∈ f.pages, .released ∉ p.slots)
    (hp : f.pages.getLast? = some p) (hne : p.slots ≠ [])
    (ha : ∀ a, txn' = .appending a → txn = .appending a ∧ a.session ≠ k ∨
      a.session = k ∧ (a.rolled = true → 2 ≤ p.slots.length)) :
    ChargesHeld txn' (b.withSlot k n f lead.department place i l .inPage) := by
  have hlaw := h.charges.documents n d hd
  obtain ⟨hlead, _, _⟩ := hlaw.leadBears hrec ho
  have hfobl : f.obligations = { lead with charge := lead.charge + 1 } :: rest := by rw [hf]
  have hfstate : f.state = d.state := by rw [hf]
  have hfses : f.session = d.session := by rw [hf]
  have hslotdoc := b.withSlot_doc k n f lead.department place i l .inPage
  have hsession := b.withSlot_session k n f lead.department place i l .inPage
  refine ⟨h.charges.replace hd (hlaw.leading hrec ho hf (by omega) hnone) (fun hs => hfstate.trans hs) rfl (fun x => ?_) rfl,
    h.calls.update (n := n) (k := k) ?_ ?_ ?_ ?_ ?_⟩
  · have hacc := b.withSlot_account k n f lead.department place i l .inPage x
    rw [hacc, hfobl, ho, chargeOf_cons, chargeOf_cons]
    dsimp only
    by_cases hx : x = lead.department
    · rw [if_pos hx, if_pos hx.symm, if_pos hx.symm, hx]; omega
    · rw [if_neg hx, if_neg (Ne.symm hx), if_neg (Ne.symm hx)]
  · intro e he; rw [hd] at he; cases he; exact hses
  · intro j hj; rw [hsession, if_neg hj]; exact ⟨rfl, rfl⟩
  · intro m hm; rw [hslotdoc, if_neg hm]
  · intro _
    rw [hsession, if_pos rfl]
    exact ⟨n, f, hdoc, (hslotdoc n).trans (if_pos rfl), hfstate.trans hrec, hfses.trans hses, fun _ => ⟨p, hp, hne⟩⟩
  · intro a hta
    rcases ha a hta with h1 | ⟨hak, hrolled⟩
    · exact .inl h1
    · refine .inr ⟨hak, ?_, fun hr => ⟨n, f, p, ?_, (hslotdoc n).trans (if_pos rfl), hp, hrolled hr⟩⟩
      · rw [hsession, if_pos rfl]
      · rw [hsession, if_pos rfl]; exact hdoc

theorem ChargesHeld.beginPage (h : ChargesHeld txn b) (hd : b.doc n = some d) (hst : (b.session k).state = .admitted)
    (hdoc : (b.session k).doc = some n) {page : Page} {i l : Nat} (hpage : page.slots = [.placed l]) :
    ChargesHeld txn (b.beginPage k n d page i l) := by
  obtain ⟨m, e, hm, he, hrec, hses, _⟩ := h.calls.sessions k (by rw [hst]; nofun)
  rw [hdoc] at hm
  cases hm
  rw [hd] at he
  cases he
  have hlaw := h.charges.documents n d hd
  obtain ⟨lead, rest, ho⟩ := List.exists_cons_of_ne_nil (hlaw.receiving hrec).2.1
  obtain ⟨_, hnone⟩ := hlaw.whole (by rw [hrec]; nofun)
  have hclear : txn.clear k := h.calls.clear_of_idle (by rw [hst]; nofun)
  rw [Body.beginPage_eq ho]
  refine h.withSlot hd hrec hses hdoc ho _ rfl ?_ ?_ (p := page) List.getLast?_concat (by rw [hpage]; simp)
    fun a ha => .inl ⟨ha, hclear a ha⟩
  · rw [Document.leafCount_pages _ d.pages page rfl, hpage]
    rfl
  · intro q hq
    rcases List.mem_append.mp hq with hq | hq
    · exact hnone q hq
    · rw [List.mem_singleton.mp hq, hpage]; simp

theorem ChargesHeld.rollOver (h : ChargesHeld txn b) {a : AppendInFlight} (hd : b.doc n = some d)
    (hst : (b.session a.session).state = .inPage) (hdoc : (b.session a.session).doc = some n) (i l : Nat) :
    ChargesHeld (.appending a) (b.rollOver a.session n d i l) := by
  obtain ⟨m, e, p, hm, he, hrec, hses, hp, hne⟩ := h.calls.inPage hst
  rw [hdoc] at hm
  cases hm
  rw [hd] at he
  cases he
  have hlaw := h.charges.documents n d hd
  obtain ⟨lead, rest, ho⟩ := List.exists_cons_of_ne_nil (hlaw.receiving hrec).2.1
  obtain ⟨_, hnone⟩ := hlaw.whole (by rw [hrec]; nofun)
  have hlen : 0 < p.slots.length := List.length_pos_iff.mpr hne
  rw [Body.rollOver_eq ho hp, hst]
  refine h.withSlot hd hrec hses hdoc ho _ rfl ?_ ?_ (p := { p with slots := p.slots ++ [.placed l] })
    List.getLast?_concat (by simp) fun x hx => ?_
  · rw [Document.leafCount_pages _ d.pages.dropLast { p with slots := p.slots ++ [.placed l] } rfl,
      Document.leafCount_pages d _ p (Document.pages_last hp), List.length_append]
    rfl
  · intro q hq
    rcases List.mem_append.mp hq with hq | hq
    · exact hnone q (List.dropLast_subset _ hq)
    · rw [List.mem_singleton.mp hq]
      have := hnone p (List.mem_of_getLast? hp)
      simp [this]
  · cases hx
    exact .inr ⟨rfl, fun _ => by simp only [List.length_append, List.length_singleton]; omega⟩

/-! ### The end of an APPEND's data block -/

theorem ChargesHeld.fill (h : ChargesHeld txn b) (i : Nat) (bytes : List Byte) : ChargesHeld txn (b.fill i bytes) :=
  h.still rfl rfl rfl (.of_eq rfl)

theorem ChargesHeld.makeReady (h : ChargesHeld txn b) (i : Nat) : ChargesHeld txn (b.makeReady i) :=
  h.still (by simp) (by simp) (by simp) (.of_eq (by simp))

theorem ChargesHeld.updPage (h : ChargesHeld txn b) (n : Nat) {g : Page → Page} (hg : ∀ p, (g p).slots = p.slots) :
    ChargesHeld txn (b.updDoc n (fun d => d.updLastPage g)) := by
  cases hd : b.doc n with
  | none => rw [Body.updDoc_none _ hd]; exact h
  | some d =>
    rw [Body.updDoc_eq _ hd]
    exact h.store hd (d.updLastPage_mask hg) rfl

theorem ChargesHeld.growPage (h : ChargesHeld txn b) (n count : Nat) : ChargesHeld txn (b.growPage n count) :=
  h.updPage n fun _ => rfl

/-- The slot that an APPEND reserved is returned, where its page holds another (R56). -/
theorem ChargesHeld.returnReserved (h : ChargesHeld txn b) (hst : (b.session k).state = .inPage)
    (hdoc : (b.session k).doc = some n) (hlen : ∀ d p, b.doc n = some d → d.pages.getLast? = some p → 2 ≤ p.slots.length)
    (i : Nat) : ChargesHeld .none (b.returnReserved n i) := by
  obtain ⟨m, d, p, hm, hd, hrec, hses, hp, _⟩ := h.calls.inPage hst
  rw [hdoc] at hm
  cases hm
  have hlaw := h.charges.documents n d hd
  obtain ⟨lead, rest, ho⟩ := List.exists_cons_of_ne_nil (hlaw.receiving hrec).2.1
  obtain ⟨_, hnone⟩ := hlaw.whole (by rw [hrec]; nofun)
  obtain ⟨hlead, _, _⟩ := hlaw.leadBears hrec ho
  have h2 := hlen d p hd hp
  have hshort : (d.withLastPage { p with slots := p.slots.dropLast }).leafCount + 1 = d.leafCount := by
    rw [Document.leafCount_pages d _ p (Document.pages_last hp),
      Document.leafCount_pages (d.withLastPage _) d.pages.dropLast { p with slots := p.slots.dropLast } rfl,
      List.length_dropLast]
    omega
  have hback : ∀ c : Body, ChargesHeld .none c → ChargesHeld .none (match (b.buffer i).leaf with
      | some l => ((c.releaseBuffer i).setLeaf l Leaf.blank).returnBlank l
      | none => c.releaseBuffer i) := fun c hc => by
    have hrel := hc.releaseBuffer i
    split
    · exact hrel.still rfl rfl rfl (.of_eq rfl)
    · exact hrel
  unfold Body.returnReserved
  dsimp only
  refine hback _ ?_
  rw [Body.updDoc_eq _ hd, Document.updLastPage_last _ hp, Body.setDoc_dischargeLead (d := d.withLastPage _) ho]
  refine ⟨h.charges.replace (f := { d.withLastPage { p with slots := p.slots.dropLast } with
      obligations := { lead with charge := lead.charge - 1 } :: rest }) hd
    (hlaw.leading hrec ho (c := lead.charge - 1) rfl ?_ fun q hq => ?_) (fun hs => hs) rfl (fun x => ?_) rfl, h.calls.update (n := n) (k := k) ?_ (fun _ _ => ⟨rfl, rfl⟩) ?_ ?_ fun a => nofun⟩
  · change lead.charge - 1 = (d.withLastPage { p with slots := p.slots.dropLast }).leafCount
    omega
  · rcases List.mem_append.mp hq with hq | hq
    · exact hnone q (List.dropLast_subset _ hq)
    · rw [List.mem_singleton.mp hq]
      exact fun hr => hnone p (List.mem_of_getLast? hp) (List.dropLast_subset _ hr)
  · have hle := h.charges.charge_le hd x
    have hacc : Table.read 0 (Table.write 0 b.accounts lead.department (b.account lead.department - 1)) x =
        if x = lead.department then b.account lead.department - 1 else b.account x := Table.read_write ..
    rw [ho, chargeOf_cons] at hle
    dsimp only [Body.account] at hacc hle ⊢
    rw [hacc, ho, chargeOf_cons, chargeOf_cons]
    by_cases hx : x = lead.department
    · subst hx
      rw [if_pos rfl] at hle
      simp only [if_true]
      omega
    · simp only [hx, Ne.symm hx, if_false]
  · intro e he; rw [hd] at he; cases he; exact hses
  · intro m hm
    exact (Body.setDoc_doc b n _ m).trans (if_neg hm)
  · intro _
    refine ⟨n, _, hdoc, (Body.setDoc_doc b n _ n).trans (if_pos rfl), hrec, hses, fun _ =>
      ⟨_, Document.withLastPage_last .., fun hnil => ?_⟩⟩
    have := congrArg List.length hnil
    rw [List.length_dropLast, List.length_nil] at this
    omega

/-- The bytes of an APPEND's data block are settled (R52, R55, R56). -/
theorem ChargesHeld.settleAppend {a : AppendInFlight} (h : ChargesHeld (.appending a) b) (bytes : List Byte) :
    ChargesHeld .none (b.settleAppend a bytes) := by
  obtain ⟨hst, hrolled⟩ := h.calls.append a rfl
  obtain ⟨n, d, p, hdoc, hd, hrec, hses, hp, hne⟩ := h.calls.inPage hst
  have hfree : ∀ {c : Body}, ChargesHeld (.appending a) c → ChargesHeld .none c := fun hc => ⟨hc.charges, hc.calls.free⟩
  unfold Body.settleAppend
  dsimp only
  rw [hdoc, Option.getD_some]
  split_ifs with hr hfit
  · obtain ⟨m, e, q, hm, he, hq, hlen⟩ := hrolled hr
    rw [hdoc] at hm
    cases hm
    generalize (b.session a.session).queue.dropLast.getLast?.getD 0 = old
    have hsession : ((b.fill old bytes).growPage n bytes.length).session a.session = b.session a.session :=
      Body.session_congr (Body.updDoc_sessions ..) _
    refine ((h.fill old bytes).growPage n bytes.length).returnReserved (by rw [hsession]; exact hst)
      (by rw [hsession]; exact hdoc) (fun f g hf hg => ?_) _
    have hgrown : ((b.fill old bytes).growPage n bytes.length).doc n =
        some (e.withLastPage { q with byteLength := q.byteLength + bytes.length }) := by
      rw [Body.growPage_eq (b := b.fill old bytes) (d := e) (page := q) _ he hq, Body.setDoc_doc, if_pos rfl]
    rw [hgrown] at hf
    cases hf
    rw [Document.withLastPage_last] at hg
    cases hg
    exact hlen
  · exact hfree ((((h.fill _ _).makeReady _).fill _ _).growPage n _)
  · exact hfree ((h.fill _ _).growPage n _)

/-! ### Pages and sessions that end -/

theorem ChargesHeld.leavePage (h : ChargesHeld txn b) (hc : txn.clear k) {st : SessState} (hst : (b.session k).state ≠ .idle)
    (hn : st ≠ .inPage) : ChargesHeld txn (b.setSession k { b.session k with state := st }) := by
  have hsession := b.setSession_session k { b.session k with state := st }
  obtain ⟨n, d, hdoc, hd, hrec, hses, _⟩ := h.calls.sessions k hst
  refine ⟨h.charges.congr rfl rfl rfl, h.calls.update (n := n) (k := k) ?_ ?_ (fun _ _ => rfl) ?_ ?_⟩
  · intro e he; rw [hd] at he; cases he; exact hses
  · intro j hj; rw [hsession, if_neg hj]; exact ⟨rfl, rfl⟩
  · intro _
    rw [hsession, if_pos rfl]
    exact ⟨n, d, hdoc, hd, hrec, hses, fun hin => absurd hin hn⟩
  · exact fun a ha => .inl ⟨ha, hc a ha⟩

theorem ChargesHeld.cutPage (h : ChargesHeld txn b) (hc : txn.clear k) {st : SessState} (hst : (b.session k).state ≠ .idle)
    (hn : st ≠ .inPage) : ChargesHeld txn (b.cutPage k st) := by
  have hcut : ChargesHeld txn (match (b.session k).doc with
      | some n => b.updDoc n (fun d => d.updLastPage Page.cut)
      | none => b) := by
    split
    · exact h.updPage _ Page.cut_slots
    · exact h
  have hses : ∀ c : Body, c.sessions = b.sessions → (c.session k).state ≠ .idle := fun c hc => by
    rw [Body.session_congr hc]; exact hst
  unfold Body.cutPage
  dsimp only
  refine (hcut.makeReady _).leavePage hc (hses _ ?_) hn
  rw [Body.makeReady_sessions]
  split
  · exact Body.updDoc_sessions ..
  · rfl

theorem ChargesHeld.endPage (h : ChargesHeld txn b) (hc : txn.clear k) (hst : (b.session k).state ≠ .idle) (n x y : Nat) :
    ChargesHeld txn (b.endPage k n x y) := by
  have hses : ∀ c : Body, c.sessions = b.sessions → (c.session k).state ≠ .idle := fun c hc => by
    rw [Body.session_congr hc]; exact hst
  have hupd := h.updPage n (g := fun p => { p with state := .closed, counts := some (x, y) }) fun _ => rfl
  unfold Body.endPage
  dsimp only
  refine (hupd.makeReady _).leavePage hc (hses _ ?_) nofun
  rw [Body.makeReady_sessions, Body.updDoc_sessions]

/-- A document that is received closes (R8, R9, R109). -/
theorem Body.chargesLawful.closeDocument (h : b.chargesLawful) (hd : b.doc n = some d) (hrec : d.state = .receiving)
    (t : Tables) (tb : Timebase) (ending : Ending) : (b.closeDocument t tb n ending).chargesLawful := by
  have hlaw := h.documents n d hd
  by_cases hz : d.leafCount = 0
  · rw [Body.closeDocument_discards hd hz]
    refine h.free hd (chargeOf_eq_zero fun o ho => ?_)
    obtain ⟨hsum, _⟩ := hlaw.whole (by rw [hrec]; nofun)
    have := List.le_sum_of_mem (List.mem_map_of_mem (f := fun o : Obligation => o.charge) ho)
    omega
  · rw [Body.closeDocument_keeps hd hz]
    refine h.replace hd (hlaw.kept hrec t tb ending) (fun hs => by rw [hrec] at hs; cases hs)
      (Body.moveAccounts_catalog ..) (fun x => ?_) (Body.moveAccounts_purges ..)
    have hle := h.charge_le hd x
    have hacc := (b.setDoc n (d.kept t tb ending)).moveAccounts_account d.apportioned_departments hlaw.distinct x
    have hset : (b.setDoc n (d.kept t tb ending)).account x = b.account x := rfl
    have hcharge : chargeOf (d.kept t tb ending).obligations x = chargeOf d.apportioned x := by
      rw [Document.kept_obligations]
      exact chargeOf_owing (by rw [List.map_map]; rfl) x
    omega

/-- A session closes (R59). -/
theorem ChargesHeld.closeSession (h : ChargesHeld txn b) (hc : txn.clear k) (t : Tables) (tb : Timebase) (ending : Ending) :
    ChargesHeld txn (b.closeSession t tb k ending) := by
  by_cases hst : (b.session k).state = .idle
  · rw [Body.closeSession_idle hst]; exact h
  · obtain ⟨n, d, hdoc, hd, hrec, hses, _⟩ := h.calls.sessions k hst
    have hparts := Body.closeSession_parts (t := t) (tb := tb) (ending := ending) hst
    have hclose : b.closeDocOf t tb (b.session k).doc ending = b.closeDocument t tb n ending := by rw [hdoc]; rfl
    rw [hclose] at hparts
    have hcat : (b.closeSession t tb k ending).catalog = (b.closeDocument t tb n ending).catalog := by rw [hparts]
    have hsession := Body.closeSession_session (t := t) (tb := tb) (ending := ending) hst
    refine ⟨(h.charges.closeDocument hd hrec t tb ending).congr hcat (by rw [hparts]) (by rw [hparts]),
      h.calls.update (n := n) (k := k) ?_ ?_ ?_ ?_ ?_⟩
    · intro e he; rw [hd] at he; cases he; exact hses
    · intro j hj; rw [hsession, if_neg hj]; exact ⟨rfl, rfl⟩
    · intro m hm
      unfold Body.doc
      rw [Body.slot_congr hcat, Body.closeDocument_otherSlots hm]
    · intro hk; rw [hsession, if_pos rfl] at hk; exact absurd rfl hk
    · exact fun a ha => .inl ⟨ha, hc a ha⟩

end

end Sys2Proof.Machine
end

section
/-! Which slots a warm start keeps, and what the loss takes from a document's charges (R165, R166, R120). -/

namespace Sys2Proof.Machine

/-! ### Folds over the slots of a list -/

/-- A change of one document after another, each where the slot still holds what it held. -/
theorem foldl_slots {P : Body → Prop} {Q : Document → Prop} {step : Body → Nat → Body}
    (hstep : ∀ b n d, P b → b.doc n = some d → Q d → P (step b n))
    (hother : ∀ b n m, m ≠ n → (step b n).doc m = b.doc m) : ∀ (l : List Nat) (b : Body), l.Nodup →
    (∀ n ∈ l, ∃ d, b.doc n = some d ∧ Q d) → P b → P (l.foldl step b)
  | [], _, _, _, hb => hb
  | n :: l, b, hn, hl, hb => by
    obtain ⟨hnl, hn⟩ := List.nodup_cons.mp hn
    obtain ⟨d, hd, hq⟩ := hl n List.mem_cons_self
    refine foldl_slots hstep hother l (step b n) hn (fun m hm => ?_) (hstep b n d hb hd hq)
    obtain ⟨e, he, hqe⟩ := hl m (List.mem_cons_of_mem _ hm)
    exact ⟨e, (hother b n m fun hmn => hnl (hmn ▸ hm)).trans he, hqe⟩

theorem Body.documents_keys {b : Body} (hw : Table.wf Slot.free b.catalog) :
    (b.documents.map (fun e => e.1)).Pairwise (· < ·) := by
  unfold Body.documents
  rw [List.pairwise_map, List.pairwise_filterMap]
  refine hw.1.imp fun {x y} hxy e he f hf => ?_
  obtain ⟨_, _, rfl⟩ := Option.map_eq_some_iff.mp he
  obtain ⟨_, _, rfl⟩ := Option.map_eq_some_iff.mp hf
  exact hxy

theorem Body.slotsWhere_nodup {b : Body} (hw : Table.wf Slot.free b.catalog) (p : Document → Bool) :
    (b.slotsWhere p).Nodup :=
  ((Body.documents_keys hw).sublist (List.filter_sublist.map _)).imp fun h => h.ne

theorem Body.mem_slotsWhere {b : Body} (hw : Table.wf Slot.free b.catalog) {p : Document → Bool} {n : Nat} :
    n ∈ b.slotsWhere p ↔ ∃ d, b.doc n = some d ∧ p d = true := by
  unfold Body.slotsWhere
  rw [List.mem_map]
  constructor
  · rintro ⟨⟨m, d⟩, he, rfl⟩
    obtain ⟨he, hp⟩ := List.mem_filter.mp he
    exact ⟨d, (Body.mem_documents_iff hw).mp he, hp⟩
  · rintro ⟨d, hd, hp⟩
    exact ⟨(n, d), List.mem_filter.mpr ⟨Body.documents_of_doc hd, hp⟩, rfl⟩

/-! ### Truncation -/

section
variable {b c : Body}

theorem Body.safeSlot_eq (b : Body) : b.safeSlot = b.keeps := by
  funext v
  cases v <;> rfl

theorem Page.truncate_slots (b : Body) (p : Page) : (p.truncate b).slots = p.slots.takeWhile b.keeps := by
  unfold Page.truncate
  dsimp only
  rw [Body.safeSlot_eq]
  split_ifs with h
  · exact ((List.takeWhile_prefix _).eq_of_length h).symm
  · rfl

theorem takeWhile_map_eq {α β : Type} (p : β → Bool) (f : α → β) (l : List α) :
    (l.map f).takeWhile p = (l.take ((l.map f).takeWhile p).length).map f := by
  rw [List.map_take]
  exact (List.prefix_iff_eq_take.mp (List.takeWhile_prefix p))

/-- The pages a truncation keeps, and their slots (R165). -/
theorem truncatePages_eq (b : Body) (pages : List Page) :
    truncatePages b pages = (pages.take (truncatePages b pages).length).map (Page.truncate b) :=
  takeWhile_map_eq ..

theorem truncatePages_slots (b : Body) (pages : List Page) : (truncatePages b pages).map (fun p => p.slots) =
    (pages.map (fun p => p.slots.takeWhile b.keeps)).takeWhile (fun slots => !slots.isEmpty) := by
  have hmap : pages.map (fun p => p.slots.takeWhile b.keeps) = (pages.map (Page.truncate b)).map (fun p => p.slots) := by
    rw [List.map_map]
    exact List.map_congr_left fun p _ => (p.truncate_slots b).symm
  rw [hmap, List.takeWhile_map]
  rfl

theorem slotsOf_eq (pages : List Page) : slotsOf pages = (pages.map (fun p => p.slots)).flatten :=
  (List.flatMap_def ..)

theorem truncatePages_keptSlots (b : Body) (d : Document) :
    (truncatePages b d.pages).map (fun p => p.slots) = b.keptSlots d := truncatePages_slots b d.pages

theorem truncatePages_length (b : Body) (d : Document) : (truncatePages b d.pages).length = (b.keptSlots d).length := by
  rw [← truncatePages_keptSlots, List.length_map]

/-- What is kept and what is removed are together what was there. -/
theorem countP_truncated (b : Body) (pages : List Page) (q : LeafSlot → Bool) :
    (slotsOf (truncatePages b pages)).countP q + (removedSlots b pages).countP q = (slotsOf pages).countP q := by
  have hsplit : ∀ l : List Page, (slotsOf (l.map (Page.truncate b))).countP q +
      (l.flatMap (fun p => p.slots.dropWhile b.safeSlot)).countP q = (slotsOf l).countP q := by
    intro l
    induction l with
    | nil => rfl
    | cons p l ih =>
      have hp := congrArg (List.countP q) (List.takeWhile_append_dropWhile (p := b.keeps) (l := p.slots))
      rw [List.countP_append] at hp
      unfold slotsOf at ih ⊢
      rw [List.map_cons, List.flatMap_cons, List.flatMap_cons, List.flatMap_cons, List.countP_append, List.countP_append,
        List.countP_append, Page.truncate_slots, Body.safeSlot_eq]
      rw [Body.safeSlot_eq] at ih
      omega
  have hall : slotsOf pages = slotsOf (pages.take (truncatePages b pages).length) ++
      slotsOf (pages.drop (truncatePages b pages).length) := by
    unfold slotsOf
    rw [← List.flatMap_append, List.take_append_drop]
  unfold removedSlots
  dsimp only
  rw [hall, List.countP_append, List.countP_append, ← hsplit (pages.take (truncatePages b pages).length),
    ← truncatePages_eq]
  omega

theorem Document.leafCount_slotsOf (d : Document) : d.leafCount = (slotsOf d.pages).length := by
  unfold Document.leafCount slotsOf
  rw [List.length_flatMap]

theorem Document.unreleased_slotsOf (d : Document) : d.unreleased = (slotsOf d.pages).countP (fun v => v != .released) := by
  unfold Document.unreleased slotsOf
  rw [countP_flatMap]

theorem mem_slotsOf {pages : List Page} {v : LeafSlot} : v ∈ slotsOf pages ↔ ∃ p ∈ pages, v ∈ p.slots := by
  unfold slotsOf
  exact List.mem_flatMap

/-- A kept slot was there. -/
theorem slotsOf_truncate_subset (b : Body) (pages : List Page) {v : LeafSlot} (h : v ∈ slotsOf (truncatePages b pages)) :
    v ∈ slotsOf pages := by
  have hcount := countP_truncated b pages (fun w => decide (w = v))
  have hpos : 0 < (slotsOf (truncatePages b pages)).countP (fun w => decide (w = v)) :=
    List.countP_pos_iff.mpr ⟨v, h, by simp⟩
  obtain ⟨w, hw, he⟩ := List.countP_pos_iff.mp (show 0 < (slotsOf pages).countP (fun w => decide (w = v)) by omega)
  rw [decide_eq_true_eq] at he
  exact he ▸ hw

end

/-! ### The loss -/

theorem deductCharges_owing_departments (lost : Nat) (os : List Obligation) :
    (deductCharges lost os).map (fun o => o.department) = os.map (fun o => o.department) := by
  induction os generalizing lost with
  | nil => rfl
  | cons o os ih => exact congrArg (o.department :: ·) (ih _)

theorem deductCharges_length (lost : Nat) (os : List Obligation) : (deductCharges lost os).length = os.length := by
  have := congrArg List.length (deductCharges_owing_departments lost os)
  rwa [List.length_map, List.length_map] at this

/-- Each obligation loses what the ones before it have not (R120). -/
theorem deductCharges_getElem? (lost : Nat) (os : List Obligation) (j : Nat) :
    (deductCharges lost os)[j]? = os[j]?.map (fun o => { o with
      charge := o.charge - (lost - ((os.take j).map (fun q => q.charge)).sum) }) := by
  induction os generalizing lost j with
  | nil => rfl
  | cons o os ih =>
    cases j with
    | zero => rfl
    | succ j =>
      rw [show deductCharges lost (o :: os) = { o with charge := o.charge - lost } :: deductCharges (lost - o.charge) os
        from rfl, List.getElem?_cons_succ, List.getElem?_cons_succ, ih, List.take_succ_cons, List.map_cons, List.sum_cons,
        Nat.sub_add_eq]

theorem deductRest_eq (lost : Nat) (os : List Obligation) : deductRest lost os = lost - (os.map (fun q => q.charge)).sum := by
  induction os generalizing lost with
  | nil => rfl
  | cons o os ih => rw [List.map_cons, List.sum_cons, Nat.sub_add_eq]; exact ih _

theorem deductCharges_sum (lost : Nat) (os : List Obligation) :
    ((deductCharges lost os).map (fun q => q.charge)).sum = (os.map (fun q => q.charge)).sum - lost := by
  induction os generalizing lost with
  | nil => exact (Nat.zero_sub _).symm
  | cons o os ih =>
    have := ih (lost - o.charge)
    rw [show deductCharges lost (o :: os) = { o with charge := o.charge - lost } :: deductCharges (lost - o.charge) os
      from rfl, List.map_cons, List.sum_cons, List.map_cons, List.sum_cons]
    dsimp only
    omega

theorem deductCharges_zero {os : List Obligation} (h : ∀ o ∈ os, o.charge = 0) (lost : Nat) :
    ∀ o ∈ deductCharges lost os, o.charge = 0 := by
  induction os generalizing lost with
  | nil => exact fun _ ho => by cases ho
  | cons p os ih =>
    intro o ho
    rcases List.mem_cons.mp ho with rfl | ho
    · rw [h p List.mem_cons_self]; exact Nat.zero_sub _
    · exact ih (fun q hq => h q (List.mem_cons_of_mem _ hq)) _ o ho

theorem deductCharges_nil_iff (lost : Nat) (os : List Obligation) : deductCharges lost os = [] ↔ os = [] := by
  rw [← List.length_eq_zero_iff, deductCharges_length, List.length_eq_zero_iff]

/-! ### A document truncated -/

section
variable {d : Document}

theorem Document.reconcile_purging (b : Body) (h : d.state = .purging) : d.reconcile b = { d with
    pages := truncatePages b d.pages,
    retained := d.retained - (removedSlots b d.pages).countP (fun s => s != .released) } := by
  unfold Document.reconcile
  dsimp only
  rw [if_pos h]

theorem Document.reconcile_owing (b : Body) (h : d.state ≠ .purging) : d.reconcile b = { d with
    pages := truncatePages b d.pages,
    obligations := deductCharges ((removedSlots b d.pages).countP (fun s => s != .released)) d.obligations,
    retained := d.retained - ((removedSlots b d.pages).countP (fun s => s != .released) -
      (d.obligations.map (fun q => q.charge)).sum) } := by
  unfold Document.reconcile
  dsimp only
  rw [if_neg h, deductRest_eq]

theorem Document.reconcile_state (b : Body) (d : Document) : (d.reconcile b).state = d.state := by
  unfold Document.reconcile; dsimp only; split_ifs <;> rfl

theorem Document.reconcile_pages (b : Body) (d : Document) : (d.reconcile b).pages = truncatePages b d.pages := by
  unfold Document.reconcile; dsimp only; split_ifs <;> rfl

theorem Document.reconcile_departments (b : Body) (d : Document) :
    (d.reconcile b).obligations.map (fun o => o.department) = d.obligations.map (fun o => o.department) := by
  unfold Document.reconcile
  dsimp only
  split_ifs
  · rfl
  · exact deductCharges_owing_departments _ _

/-- A document truncated with its loss deducted is lawful (R165, R166). -/
theorem Document.chargesLawful.reconcile (h : d.chargesLawful) (b : Body) : (d.reconcile b).chargesLawful := by
  have hlive := countP_truncated b d.pages (fun v => v != .released)
  have hall := countP_truncated b d.pages (fun _ => true)
  simp only [List.countP_true] at hall
  have hleaf : (d.reconcile b).leafCount = (slotsOf (truncatePages b d.pages)).length := by
    rw [Document.leafCount_slotsOf, Document.reconcile_pages]
  have hunrel : (d.reconcile b).unreleased = (slotsOf (truncatePages b d.pages)).countP (fun v => v != .released) := by
    rw [Document.unreleased_slotsOf, Document.reconcile_pages]
  have hstate := Document.reconcile_state b d
  refine ⟨by rw [Document.reconcile_departments]; exact h.distinct, fun hs => ?_, fun hs => ?_, fun hs => ?_, fun hs => ?_,
    fun hs => ?_⟩
  · have hp : d.state ≠ .purging := fun he => hs (hstate.trans he)
    obtain ⟨hsum, hnone⟩ := h.whole hp
    have hslots : ∀ v ∈ slotsOf d.pages, v ≠ .released := fun v hv hr => by
      obtain ⟨p, hpp, hvp⟩ := mem_slotsOf.mp hv
      exact hnone p hpp (hr ▸ hvp)
    refine ⟨?_, fun p hpp hr => ?_⟩
    · have hd := d.leafCount_slotsOf
      have hk : (slotsOf (truncatePages b d.pages)).countP (fun v => v != .released) =
          (slotsOf (truncatePages b d.pages)).length := List.countP_eq_length.mpr fun v hv =>
        bne_iff_ne.mpr (hslots v (slotsOf_truncate_subset b d.pages hv))
      have hw : (slotsOf d.pages).countP (fun v => v != .released) = (slotsOf d.pages).length :=
        List.countP_eq_length.mpr fun v hv => bne_iff_ne.mpr (hslots v hv)
      rw [hleaf, Document.reconcile_owing b hp]
      dsimp only
      rw [deductCharges_sum]
      omega
    · rw [Document.reconcile_pages] at hpp
      exact hslots _ (slotsOf_truncate_subset b d.pages (mem_slotsOf.mpr ⟨p, hpp, hr⟩)) rfl
  · have hd := hstate.symm.trans hs
    have hp : d.state ≠ .purging := by rw [hd]; nofun
    obtain ⟨h1, h2, h3⟩ := h.receiving hd
    rw [Document.reconcile_owing b hp]
    refine ⟨?_, fun hn => h2 ((deductCharges_nil_iff _ _).mp hn), ?_⟩
    · dsimp only; omega
    · obtain ⟨o, os, ho⟩ := List.exists_cons_of_ne_nil h2
      rw [ho] at h3 ⊢
      exact deductCharges_zero h3 _
  · have hd := hstate.symm.trans hs
    rw [Document.reconcile_owing b (by rw [hd]; nofun)]
    exact fun hn => h.distributing hd ((deductCharges_nil_iff _ _).mp hn)
  · have hd := hstate.symm.trans hs
    rw [Document.reconcile_owing b (by rw [hd]; nofun)]
    exact (deductCharges_nil_iff _ _).mpr (h.retained hd)
  · have hd := hstate.symm.trans hs
    obtain ⟨hnil, hret⟩ := h.purging hd
    have hret' : d.retained = d.unreleased := hret
    have hu := d.unreleased_slotsOf
    refine ⟨?_, ?_⟩
    · rw [Document.reconcile_purging b hd]; exact hnil
    · change (d.reconcile b).retained = (d.reconcile b).unreleased
      rw [hunrel, Document.reconcile_purging b hd]
      dsimp only
      omega

end

end Sys2Proof.Machine
end

section
/-! A warm start's reconciliation keeps charges and accounts (R164 to R166, R120). -/

namespace Sys2Proof.Machine

/-! ### What a reconciliation leaves unchanged -/

section
variable {b : Body}

/-- Steps that set leaves and banks alone do so together. -/
theorem foldl_leavesBanks {step : Body → Nat → Body}
    (h : ∀ b l, step b l = { b with leaves := (step b l).leaves, banks := (step b l).banks }) (l : List Nat) (b : Body) :
    l.foldl step b = { b with leaves := (l.foldl step b).leaves, banks := (l.foldl step b).banks } := by
  induction l generalizing b with
  | nil => rfl
  | cons n l ih => rw [List.foldl_cons, ih, h b n]

theorem Body.reconcileLeaves_frame (b : Body) :
    b.reconcileLeaves = { b with leaves := b.reconcileLeaves.leaves, banks := b.reconcileLeaves.banks } := by
  unfold Body.reconcileLeaves
  dsimp only
  rw [foldl_leavesBanks (step := Body.voidFront) (fun _ _ => rfl), foldl_leavesBanks (step := Body.voidLeaf) (fun _ _ => rfl),
    foldl_leavesBanks (step := Body.voidLeaf) (fun _ _ => rfl), foldl_leavesBanks (step := Body.blankLeaf) (fun _ _ => rfl)]

theorem Body.warmLeaves_frame (b : Body) : b.warmLeaves = { b with
    buffers := [], ready := [], windows := [], sessions := [], leaves := b.warmLeaves.leaves,
    banks := b.warmLeaves.banks } := by
  unfold Body.warmLeaves
  rw [Body.reconcileLeaves_frame, Body.loseVolatile_eq]

theorem Body.reconcileDocument_eq {n : Nat} {d : Document} (hd : b.doc n = some d) : b.reconcileDocument n =
    (b.setDoc n (d.reconcile b)).moveAccounts d.obligations (d.reconcile b).obligations := by
  unfold Body.reconcileDocument
  rw [hd]

theorem Body.reconcileDocument_none {n : Nat} (hd : b.doc n = none) : b.reconcileDocument n = b := by
  unfold Body.reconcileDocument
  rw [hd]

theorem Body.moveAccounts_frame (b : Body) (old new : List Obligation) :
    b.moveAccounts old new = { b with accounts := (b.moveAccounts old new).accounts } := by
  unfold Body.moveAccounts
  generalize old.zip new = l
  induction l generalizing b with
  | nil => rfl
  | cons p l ih => rw [List.foldl_cons, ih]; rfl

theorem Body.reconcileDocument_frame (b : Body) (n : Nat) : b.reconcileDocument n = { b with
    catalog := (b.reconcileDocument n).catalog, accounts := (b.reconcileDocument n).accounts } := by
  cases hd : b.doc n with
  | none => rw [Body.reconcileDocument_none hd]
  | some d => rw [Body.reconcileDocument_eq hd, Body.moveAccounts_frame]; rfl

theorem Body.reconcileDocument_doc (b : Body) (n m : Nat) : (b.reconcileDocument n).doc m =
    if m = n then (b.doc n).map (Document.reconcile b) else b.doc m := by
  cases hd : b.doc n with
  | none =>
    rw [Body.reconcileDocument_none hd]
    split_ifs with hm
    · rw [hm, hd]; rfl
    · rfl
  | some d =>
    rw [Body.reconcileDocument_eq hd, Body.doc_congr (Body.moveAccounts_catalog ..), Body.setDoc_doc]
    rfl

/-- The documents reconciled one after another, each by the leaf table, which they leave. -/
def Body.reconcileDocuments (b : Body) : Body := (b.documents.map (fun e => e.1)).foldl Body.reconcileDocument b

theorem foldl_reconcileDocument_frame (l : List Nat) (b : Body) : l.foldl Body.reconcileDocument b = { b with
    catalog := (l.foldl Body.reconcileDocument b).catalog, accounts := (l.foldl Body.reconcileDocument b).accounts } := by
  induction l generalizing b with
  | nil => rfl
  | cons n l ih => rw [List.foldl_cons, ih, Body.reconcileDocument_frame b n]

theorem Body.truncate_eq (b : Body) : b.truncate = b.droppedLeaves.foldl Body.voidLeaf b.reconcileDocuments := rfl

theorem Body.truncate_frame (b : Body) : b.truncate = { b with
    leaves := b.truncate.leaves, banks := b.truncate.banks, catalog := b.reconcileDocuments.catalog,
    accounts := b.reconcileDocuments.accounts } := by
  rw [Body.truncate_eq, foldl_leavesBanks (step := Body.voidLeaf) (fun _ _ => rfl)]
  unfold Body.reconcileDocuments
  rw [foldl_reconcileDocument_frame]

end

/-! ### The law of charges -/

section
variable {b : Body} {n : Nat} {d : Document}

theorem Body.chargesLawful.reconcileDocument (h : b.chargesLawful) (n : Nat) : (b.reconcileDocument n).chargesLawful := by
  cases hd : b.doc n with
  | none => rw [Body.reconcileDocument_none hd]; exact h
  | some d =>
    have hlaw := h.documents n d hd
    rw [Body.reconcileDocument_eq hd]
    refine h.replace hd (hlaw.reconcile b) (fun hs => (Document.reconcile_state b d).trans hs)
      (Body.moveAccounts_catalog ..) (fun x => ?_) (Body.moveAccounts_purges ..)
    have hle := h.charge_le hd x
    have hacc := (b.setDoc n (d.reconcile b)).moveAccounts_account (Document.reconcile_departments b d) hlaw.distinct x
    have hset : (b.setDoc n (d.reconcile b)).account x = b.account x := rfl
    omega

theorem Body.chargesLawful.reconcileDocuments (h : b.chargesLawful) : b.reconcileDocuments.chargesLawful := by
  unfold Body.reconcileDocuments
  generalize b.documents.map (fun e => e.1) = l
  induction l generalizing b with
  | nil => exact h
  | cons n l ih => exact ih (h.reconcileDocument n)

theorem Body.chargesLawful.truncate (h : b.chargesLawful) : b.truncate.chargesLawful := by
  have hframe := b.truncate_frame
  exact h.reconcileDocuments.congr (by rw [hframe]) (by rw [hframe]) (by
    rw [hframe]
    unfold Body.reconcileDocuments
    rw [foldl_reconcileDocument_frame])

theorem Body.chargesLawful.warmLeaves (h : b.chargesLawful) : b.warmLeaves.chargesLawful := by
  have hframe := b.warmLeaves_frame
  exact h.congr (by rw [hframe]) (by rw [hframe]) (by rw [hframe])

/-- A document without a leaf slot bears no charge. -/
theorem Document.chargesLawful.empty (h : d.chargesLawful) (hz : d.leafCount = 0) (x : Nat) : chargeOf d.obligations x = 0 := by
  by_cases hp : d.state = .purging
  · exact h.uncharged hp x
  · obtain ⟨hsum, _⟩ := h.whole hp
    refine chargeOf_eq_zero (fun o ho => ?_) x
    have := List.le_sum_of_mem (List.mem_map_of_mem (f := fun o : Obligation => o.charge) ho)
    omega

theorem Body.closeDocument_doc_of_ne (t : Tables) (tb : Timebase) (ending : Ending) {m : Nat} (h : m ≠ n) :
    (b.closeDocument t tb n ending).doc m = b.doc m := by
  unfold Body.doc
  rw [Body.closeDocument_otherSlots h]

theorem Body.freeSlot_doc_of_ne {m : Nat} (h : m ≠ n) : (b.freeSlot n).doc m = b.doc m := by
  rw [Body.freeSlot_doc, if_neg h]

/-- The documents that meet a condition are closed (R166 step 1). -/
def Body.closeReceiving (t : Tables) (tb : Timebase) (b : Body) : Body :=
  (b.slotsWhere (fun d => d.state == .receiving)).foldl (fun acc n => acc.closeDocument t tb n .powerLoss) b

/-- The documents that meet a condition leave their slots (R166 steps 2 and 3). -/
def Body.freeWhere (b : Body) (p : Document → Bool) : Body := (b.slotsWhere p).foldl Body.freeSlot b

theorem Body.closeReconciled_eq (t : Tables) (tb : Timebase) (b : Body) : b.closeReconciled t tb =
    ((b.closeReceiving t tb).freeWhere (fun d => d.leafCount == 0)).freeWhere
      (fun d => d.state == .purging && d.cursor.isNone) := rfl

theorem Body.chargesLawful.closeReceiving (h : b.chargesLawful) (t : Tables) (tb : Timebase) :
    (b.closeReceiving t tb).chargesLawful := by
  refine foldl_slots (P := Body.chargesLawful) (Q := fun d => d.state = .receiving)
    (fun c n d hc hd hs => hc.closeDocument hd hs t tb .powerLoss) (fun _ _ _ hm => Body.closeDocument_doc_of_ne t tb _ hm)
    _ b (Body.slotsWhere_nodup h.canonical _) (fun n hn => ?_) h
  obtain ⟨d, hd, hs⟩ := (Body.mem_slotsWhere h.canonical).mp hn
  exact ⟨d, hd, eq_of_beq hs⟩

theorem Body.chargesLawful.freeWhere (h : b.chargesLawful) {p : Document → Bool}
    (hp : ∀ d : Document, d.chargesLawful → p d = true → ∀ x, chargeOf d.obligations x = 0) :
    (b.freeWhere p).chargesLawful := by
  refine foldl_slots (P := Body.chargesLawful) (Q := fun d => p d = true)
    (fun c n d hc hd hs => hc.free hd (hp d (hc.documents n d hd) hs)) (fun _ _ _ hm => Body.freeSlot_doc_of_ne hm)
    _ b (Body.slotsWhere_nodup h.canonical _) (fun n hn => (Body.mem_slotsWhere h.canonical).mp hn) h

theorem Body.chargesLawful.closeReconciled (h : b.chargesLawful) (t : Tables) (tb : Timebase) :
    (b.closeReconciled t tb).chargesLawful := by
  rw [Body.closeReconciled_eq]
  refine ((h.closeReceiving t tb).freeWhere fun d hd hz => hd.empty (eq_of_beq hz)).freeWhere fun d hd hs => ?_
  rw [Bool.and_eq_true] at hs
  exact hd.uncharged (eq_of_beq hs.1)

theorem Body.closeReconciled_sessions (t : Tables) (tb : Timebase) (b : Body) :
    (b.closeReconciled t tb).sessions = b.sessions := by
  have hclose : (b.closeReceiving t tb).sessions = b.sessions :=
    foldl_keeps (fun c : Body => c.sessions) (fun c n => c.closeDocument t tb n .powerLoss) (fun _ _ => by simp) _ b
  have hfree : ∀ (c : Body) (p : Document → Bool), (c.freeWhere p).sessions = c.sessions := fun c p =>
    foldl_keeps (fun c : Body => c.sessions) Body.freeSlot (fun _ _ => rfl) _ c
  rw [Body.closeReconciled_eq, hfree, hfree, hclose]

end

section
variable {s : State}

theorem State.reconcile_body (s : State) :
    s.reconcile.body = s.body.warmLeaves.truncate.closeReconciled s.tables s.time := by
  unfold State.reconcile
  dsimp only

theorem State.reconcile_session (s : State) (k : Nat) : s.reconcile.body.session k = ⟨.idle, none, none, []⟩ := by
  have hsessions : s.reconcile.body.sessions = [] := by
    rw [State.reconcile_body, Body.closeReconciled_sessions, Body.truncate_frame, Body.warmLeaves_frame]
  unfold Body.session
  rw [hsessions]
  rfl

theorem Recovery.afterStart_works (r : Recovery) : r.afterStart.works = true := by
  unfold Recovery.afterStart
  split_ifs <;> rfl

/-- A body of idle sessions stands where no APPEND is in flight. -/
theorem Body.chargesLawful.idle {t : State} (hb : t.body.chargesLawful) (hs : ∀ k, (t.body.session k).state = .idle)
    (ha : ∀ a, t.txn ≠ .appending a) (hr : t.recovery.part = .rebuilding → ∀ n, t.body.doc n = none) : t.chargesLawful :=
  ⟨hb, fun k hk => absurd (hs k) hk, fun a h => absurd h (ha a), hr⟩

theorem State.chargesLawful.noAppend (h : s.chargesLawful) (hp : s.recovery.part.works = false) (a : AppendInFlight) :
    s.txn ≠ .appending a := fun ha => by
  rcases (h.append a ha).1 with hr | hr <;> rw [hr] at hp <;> cases hp

theorem State.reconcile_part (s : State) : s.reconcile.recovery.part = s.recovery.afterStart := rfl

theorem State.reconcile_txn (s : State) : s.reconcile.txn = s.txn := by
  unfold State.reconcile
  dsimp only

theorem State.chargesLawful.reconcile (h : s.chargesLawful) (hp : s.recovery.part = .starting) : s.reconcile.chargesLawful := by
  refine Body.chargesLawful.idle ?_ (fun k => by rw [State.reconcile_session]) (fun a => ?_) fun hr => ?_
  · rw [State.reconcile_body]
    exact h.charges.warmLeaves.truncate.closeReconciled s.tables s.time
  · rw [State.reconcile_txn]
    exact h.noAppend (by rw [hp]; rfl) a
  · rw [State.reconcile_part] at hr
    exact absurd hr (PartState.not_rebuilding s.recovery.afterStart_works)

end

end Sys2Proof.Machine
end

section
/-! Charges and accounts, and the sessions' documents, are kept by every change that the part's commands are made of. -/

namespace Sys2Proof.Machine

section
variable {s t : State} {b c : Body}

theorem State.chargesLawful.held (h : s.chargesLawful) : ChargesHeld s.txn s.body := ⟨h.charges, h.calls⟩

/-- The law sees the body, the transaction and the part's state alone. -/
theorem State.chargesLawful.frame (h : s.chargesLawful) (hb : t.body = s.body)
    (hp : t.recovery.part = s.recovery.part ∨ s.recovery.part.works = true ∧ t.recovery.part.works = true)
    (ht : t.txn = s.txn ∨ ∀ a, t.txn ≠ .appending a) : t.chargesLawful where
  charges := hb ▸ h.charges
  sessions := hb ▸ h.sessions
  append a ha := by
    rcases ht with ht | ht
    · obtain ⟨hw, hin⟩ := h.append a (ht ▸ ha)
      refine ⟨?_, hb ▸ hin⟩
      rcases hp with hp | ⟨_, hp⟩
      · rw [hp]; exact hw
      · exact PartState.works_iff.mp hp
    · exact absurd ha (ht a)
  rebuilding hr n := by
    rcases hp with hp | ⟨_, hp⟩
    · rw [hb]; exact h.rebuilding (hp ▸ hr) n
    · exact absurd hr (PartState.not_rebuilding hp)

/-- While the part works a body under the law is one of a state under the law. -/
theorem ChargesHeld.works (h : ChargesHeld t.txn t.body) (hw : t.recovery.part.works = true) : t.chargesLawful :=
  ⟨h.charges, h.calls.sessions, fun a ha => ⟨PartState.works_iff.mp hw, h.calls.append a ha⟩,
    fun hr => absurd hr (PartState.not_rebuilding hw)⟩

/-- A body in which no document appears is one of a state under the law. -/
theorem State.chargesLawful.keeps (h : s.chargesLawful) (hc : ChargesHeld s.txn c) (hk : Kept s.body c) :
    ({ s with body := c } : State).chargesLawful := by
  refine h.ofBody hc.charges hc.calls fun hr n => ?_
  cases he : c.doc n with
  | none => rfl
  | some e =>
    obtain ⟨d, hd, _⟩ := hk.doc n e he
    rw [h.rebuilding hr n] at hd
    cases hd

theorem Recharged.held {n : Nat} {d f : Document} {txn : Transaction} (h : Recharged b c n d f) (hb : ChargesHeld txn b) :
    ChargesHeld txn c := by
  have hcat : c.catalog = (b.setDoc n f).catalog := by rw [h.others]
  refine ⟨hb.charges.replace h.doc h.lawful h.purging hcat h.accounts (by rw [h.others]),
    hb.calls.replace h.doc hcat (SessionsKept.of_eq (by rw [h.others])) fun hs => ⟨f, rfl, h.receiving.mpr hs, h.session, ?_⟩⟩
  unfold Document.mask
  rw [h.pages]

/-- A session stops taking pages (R51). -/
theorem ChargesHeld.stop {txn : Transaction} {k : Nat} (h : ChargesHeld txn b) (hst : (b.session k).state = .admitted) :
    ChargesHeld txn (b.setSession k { b.session k with state := .stopped }) :=
  h.leavePage (h.calls.clear_of_idle (by rw [hst]; nofun)) (by rw [hst]; nofun) nofun

theorem SessionsKept.foldl {step : Body → Nat → Body} (h : ∀ b i, SessionsKept b (step b i)) (l : List Nat) (b : Body) :
    SessionsKept b (l.foldl step b) := by
  induction l generalizing b with
  | nil => exact .of_eq rfl
  | cons i l ih => exact (h b i).trans (ih _)

theorem SessionsKept.resetWindow (b : Body) (i : Nat) : SessionsKept b (b.resetWindow i) := fun k => by
  rw [Body.resetWindow_session]; exact ⟨rfl, rfl⟩

theorem ChargesHeld.resetWindows {txn : Transaction} (h : ChargesHeld txn b) (l : List Nat) :
    ChargesHeld txn (l.foldl Body.resetWindow b) := by
  have hframe := b.resetWindows_frame l
  have heq : l.foldl Body.resetWindow b = b.resetWindows l := rfl
  rw [heq]
  refine h.still (by rw [hframe]) (by rw [hframe]) (by rw [hframe]) ?_
  rw [← heq]
  exact SessionsKept.foldl SessionsKept.resetWindow l b

theorem ChargesHeld.fetchDone {txn : Transaction} (h : ChargesHeld txn b) (f : Flash) (k i : Nat) :
    ChargesHeld txn (b.fetchDone f k i) := by
  have hop : ChargesHeld txn (b.setOp k .none) := h.still rfl rfl rfl (.of_eq rfl)
  unfold Body.fetchDone
  dsimp only
  split_ifs
  · exact hop.releaseBuffer i
  · exact hop.still rfl rfl rfl (.of_eq rfl)

/-- The leaf scanned next changes the leaf table and one bank alone (R101). -/
theorem Body.scanLeaf_frame (f : Flash) (b : Body) (l : Nat) :
    b.scanLeaf f l = { b with leaves := (b.scanLeaf f l).leaves, banks := (b.scanLeaf f l).banks } := by
  unfold Body.scanLeaf
  split <;> rfl

theorem Body.coldStart_catalog (b : Body) : b.coldStart.catalog = [] := rfl

theorem Body.coldStart_accounts (b : Body) : b.coldStart.accounts = [] := rfl

theorem Body.coldStart_purges (b : Body) : b.coldStart.purges = [] := rfl

theorem Body.coldStart_sessions (b : Body) : b.coldStart.sessions = [] := rfl

theorem Body.session_of_nil (h : b.sessions = []) (k : Nat) : b.session k = ⟨.idle, none, none, []⟩ := by
  unfold Body.session
  rw [h]
  rfl

theorem Body.coldStart_chargesLawful (b : Body) : b.coldStart.chargesLawful where
  canonical := by
    rw [Body.coldStart_catalog]
    exact ⟨List.Pairwise.nil, fun _ h => by cases h⟩
  documents n d hd := by rw [Body.coldStart_doc] at hd; cases hd
  accounts x := by
    unfold Body.account Body.documents
    rw [Body.coldStart_catalog, Body.coldStart_accounts]
    rfl
  purges n hn := by rw [Body.coldStart_purges] at hn; cases hn

/-- With the sessions gone a part that does not work stays under the law. -/
theorem State.chargesLawful.coldStart (h : s.chargesLawful) (hb : t.body = s.body.coldStart) (ht : t.txn = s.txn)
    (hp : s.recovery.part.works = false) : t.chargesLawful := by
  refine Body.chargesLawful.idle ?_ (fun k => ?_) (fun a => ?_) fun _ n => ?_
  · rw [hb]; exact s.body.coldStart_chargesLawful
  · rw [hb, Body.session_of_nil s.body.coldStart_sessions]
  · rw [ht]; exact h.noAppend hp a
  · rw [hb, Body.coldStart_doc]

/-- A body whose sessions are lost while main power is away stays under the law. -/
theorem State.chargesLawful.warmBegin (h : s.chargesLawful) (hp : s.recovery.part = .off) (hub node : Nat) :
    (s.warmBegin hub node).chargesLawful := by
  refine Body.chargesLawful.idle (h.charges.congr rfl rfl rfl) (fun k => ?_) (h.noAppend (by rw [hp]; rfl)) nofun
  rw [Body.session_of_nil rfl]

theorem ChargesHeld.programDone {txn : Transaction} (h : ChargesHeld txn b) (k i l : Nat) :
    ChargesHeld txn (b.programDone k i l) := by
  have hset : ∀ v, ChargesHeld txn ((b.setOp k .none).setLeaf l v) := fun _ => h.still rfl rfl rfl (.of_eq rfl)
  unfold Body.programDone
  exact (hset _).releaseBuffer i

theorem State.chargesLawful.scanned (h : s.chargesLawful) (l : Nat) :
    ({ s with body := s.body.scanLeaf s.flash l } : State).chargesLawful := by
  have hframe := s.body.scanLeaf_frame s.flash l
  exact h.still (by rw [hframe]) (by rw [hframe]) (by rw [hframe]) (SessionsKept.of_eq (by rw [hframe]))

end

/-- The law of charges is kept by each change. -/
theorem chargesWorkLaw : WorkLaw State.chargesLawful where
  charges h := h
  frame h hb _ hp _ _ ht := h.frame hb hp ht
  calm h hc := h.still (by rw [hc.others]) (by rw [hc.others]) (by rw [hc.others]) fun k =>
    ⟨(hc.sessions k).1, (hc.sessions k).2.1⟩
  recharge h hw hr := (hr.held h.held).works hw
  admitted deadline h hw hidle hd hn := ChargesHeld.works (h.held.admitCall hd hidle hn deadline) hw
  stop h hw hst := ChargesHeld.works (h.held.stop hst) hw
  beginPage h hw _ hst hdoc hd _ hp := ChargesHeld.works (h.held.beginPage hd hst hdoc hp) hw
  await {s a} h hw hst hr := ⟨h.charges, h.sessions, fun a' ha => by
    cases ha
    exact ⟨PartState.works_iff.mp hw, hst, fun hrolled => by rw [hr] at hrolled; cases hrolled⟩, h.rebuilding⟩
  rollOver h hw hst hdoc hd _ := ChargesHeld.works (h.held.rollOver hd hst hdoc _ _) hw
  settle {s a} bytes h ht := by
    have hheld : ChargesHeld (.appending a) s.body := ht ▸ h.held
    exact ChargesHeld.works (hheld.settleAppend bytes) (PartState.works_iff.mpr (h.append a ht).1)
  cutPage h hw hc hst hn := ChargesHeld.works
    (h.held.cutPage hc (by rw [hst]; nofun) (by rcases hn with rfl | rfl <;> nofun)) hw
  endPage x y h hw hc hst _ := ChargesHeld.works (h.held.endPage hc (by rw [hst]; nofun) _ x y) hw
  close t tb k e h hw hc := ChargesHeld.works (h.held.closeSession hc t tb e) hw
  touch h _ _ := h.still rfl rfl rfl (SessionsKept.of_eq rfl)
  fetch h _ _ _ _ _ := h.still rfl rfl rfl (SessionsKept.of_eq rfl)
  purge h hw hd hs := ChargesHeld.works (h.held.startPurge hd hs) hw
  start {s floor k w} h _ _ hw := h.keeps (h.held.startWork hw) (.startWork _ k w)
  resetWindows h hw := ChargesHeld.works (h.held.resetWindows _) hw
  programDone {s k i l header f} h _ _ _ := (h.keeps (h.held.programDone k i l) (.programDone _ k i l)).anyFlash f
  programLost {s k i l header f} h _ _ _ := (h.keeps (h.held.programLost k i l) (.programLost _ k i l)).anyFlash f
  fetchDone {s k i} f h _ _ := h.keeps (h.held.fetchDone f k i) (.fetchDone _ f k i)
  voidDone {s k l f} h _ _ _ := (h.still (b := (s.body.setOp k .none).voidLeaf l) rfl rfl rfl (SessionsKept.of_eq rfl)).anyFlash f
  eraseDone {s k l f} h _ _ _ := (h.still (b := s.body.eraseDone k l) rfl rfl rfl (SessionsKept.of_eq rfl)).anyFlash f
  eraseLost {s k l f} h _ _ _ := (h.still (b := s.body.eraseLost k l) rfl rfl rfl (SessionsKept.of_eq rfl)).anyFlash f
  warm hub node h hp _ := h.warmBegin hp hub node
  cold hub node h hp := h.coldStart rfl rfl (by rw [hp]; rfl)
  failure h hp _ _ _ := h.coldStart rfl rfl (by rw [hp]; rfl)
  scan h _ _ := (h.scanned _).frame rfl (.inl rfl) (.inl rfl)
  reconcile h hp := h.reconcile hp

end Sys2Proof.Machine
end

section
/-! The loss of main power and the rebuild keep charges and accounts: a rebuilt document is owed whole to intake, whose
account is the sum of the leaf counts (R163, R168, R169). -/

namespace Sys2Proof.Machine

/-! ### Rebuilt documents -/

section
variable {b : Body} {f : Flash}

theorem rebuiltPage_length (l : List Found) : (rebuiltPage l).slots.length = l.length := List.length_map _

/-- A rebuilt document's charge is its leaf count. -/
theorem rebuiltDocument_leafCount (g : Group) : (rebuiltDocument g).leafCount = (g.2.map List.length).sum := by
  unfold Document.leafCount
  change ((g.2.map rebuiltPage).map (fun p => p.slots.length)).sum = _
  rw [List.map_map]
  exact congrArg List.sum (List.map_congr_left fun l _ => rebuiltPage_length l)

theorem rebuiltDocument_obligations (g : Group) :
    (rebuiltDocument g).obligations = [⟨0, .rebuilt, .pending, 0, none, false, (rebuiltDocument g).leafCount⟩] := by
  rw [rebuiltDocument_leafCount]
  rfl

theorem rebuiltDocument_chargeOf (g : Group) (x : Nat) :
    chargeOf (rebuiltDocument g).obligations x = if x = 0 then (rebuiltDocument g).leafCount else 0 := by
  rw [rebuiltDocument_obligations, chargeOf_cons, chargeOf_nil, Nat.add_zero]
  simp only [eq_comm]

theorem rebuiltDocument_chargesLawful (g : Group) : (rebuiltDocument g).chargesLawful where
  distinct := by rw [rebuiltDocument_obligations]; exact List.nodup_singleton _
  whole _ := by
    refine ⟨?_, fun p hp hr => ?_⟩
    · rw [rebuiltDocument_obligations]
      rfl
    · obtain ⟨l, _, rfl⟩ := List.mem_map.mp hp
      obtain ⟨e, _, he⟩ := List.mem_map.mp hr
      cases he
  receiving hs := by cases hs
  distributing _ := by rw [rebuiltDocument_obligations]; nofun
  retained hs := by cases hs
  purging hs := by cases hs

/-- The leaves kept are as many as the rebuilt documents have slots. -/
theorem keptLeaves_length (groups : List Group) :
    (keptLeaves groups).length = (groups.map (fun g => (rebuiltDocument g).leafCount)).sum := by
  unfold keptLeaves
  rw [List.length_flatMap]
  refine congrArg List.sum (List.map_congr_left fun g _ => ?_)
  rw [rebuiltDocument_leafCount, List.length_flatMap]
  exact congrArg List.sum (List.map_congr_left fun l _ => List.length_map _)

/-! ### The catalog they enter -/

theorem Body.enterRebuilt_catalog (b : Body) (g : Group) (n : Nat) :
    (b.enterRebuilt (g, n)).catalog = (b.setSlot n ⟨0, some (rebuiltDocument g)⟩).catalog := by
  rw [Body.enterRebuilt_eq]
  rfl

/-- Each document that enters a catalog free from slot `first` on adds its measure. -/
theorem Body.entered_total (m : Document → Nat) (groups : List Group) (first : Nat) (hw : Table.wf Slot.free b.catalog)
    (hb : ∀ n, first ≤ n → b.doc n = none) : (b.entered groups first).total m =
      b.total m + (groups.map (fun g => m (rebuiltDocument g))).sum ∧ Table.wf Slot.free (b.entered groups first).catalog := by
  induction groups generalizing b first with
  | nil => exact ⟨rfl, hw⟩
  | cons g groups ih =>
    have hcat := b.enterRebuilt_catalog g first
    have hwf : Table.wf Slot.free (b.enterRebuilt (g, first)).catalog := by
      rw [hcat]; exact Table.wf_write first ⟨0, some (rebuiltDocument g)⟩ hw
    have hdoc : ∀ n, first + 1 ≤ n → (b.enterRebuilt (g, first)).doc n = none := fun n hn => by
      unfold Body.doc
      rw [Body.enterRebuilt_slot, if_neg (by omega)]
      exact hb n (by omega)
    obtain ⟨htotal, hwf'⟩ := ih (first + 1) hwf hdoc
    have hone := b.setSlot_total m hw first ⟨0, some (rebuiltDocument g)⟩
    rw [hb first le_rfl] at hone
    have hcongr : (b.enterRebuilt (g, first)).total m = _ := Body.total_congr m hcat
    rw [Body.entered_cons]
    refine ⟨?_, hwf'⟩
    rw [htotal, hcongr, List.map_cons, List.sum_cons]
    simp only [Option.map_none, Option.getD_none, Option.map_some, Option.getD_some] at hone
    omega

theorem Body.entered_accounts (b : Body) (groups : List Group) (first : Nat) :
    (b.entered groups first).accounts = b.accounts :=
  foldl_keeps (fun c : Body => c.accounts) Body.enterRebuilt (fun c e => by rw [Body.enterRebuilt_eq c e.1 e.2]) _ b

theorem Body.rebuiltFrom_account (b : Body) (groups : List Group) (dropped : List Nat) (x : Nat) :
    (b.rebuiltFrom groups dropped).account x = if x = 0 then (keptLeaves groups).length else b.account x := by
  have hvoid : (dropped.foldl Body.voidLeaf (b.entered groups 0)).accounts = b.accounts :=
    (foldl_keeps (fun c : Body => c.accounts) Body.voidLeaf (fun _ _ => rfl) dropped _).trans (b.entered_accounts groups 0)
  have hset : ((dropped.foldl Body.voidLeaf (b.entered groups 0)).setAccount 0 (keptLeaves groups).length).account x =
      if x = 0 then (keptLeaves groups).length else b.account x := by
    rw [Body.setAccount_account]
    unfold Body.account
    rw [hvoid]
  rw [← hset]
  unfold Body.rebuiltFrom
  dsimp only
  split_ifs <;> rfl

/-- A body without documents bears no charge. -/
theorem Body.documents_of_none (hw : Table.wf Slot.free b.catalog) (hb : ∀ n, b.doc n = none) : b.documents = [] := by
  refine List.eq_nil_iff_forall_not_mem.mpr fun e he => ?_
  have := (Body.mem_documents_iff hw).mp he
  rw [hb] at this
  cases this

theorem sum_map_ite {α : Type} (c : Prop) [Decidable c] (m : α → Nat) (l : List α) :
    (l.map (fun a => if c then m a else 0)).sum = if c then (l.map m).sum else 0 := by
  split_ifs with hc
  · rfl
  · exact List.sum_eq_zero fun v hv => by obtain ⟨_, _, rfl⟩ := List.mem_map.mp hv; rfl

theorem Body.chargesLawful.rebuiltFrom (h : b.chargesLawful) (hb : ∀ n, b.doc n = none) (groups : List Group)
    (dropped : List Nat) : (b.rebuiltFrom groups dropped).chargesLawful := by
  have hcat := b.rebuiltFrom_catalog groups dropped
  have hdocs := Body.documents_of_none h.canonical hb
  obtain ⟨_, hwf⟩ := b.entered_total Document.leafCount groups 0 h.canonical fun n _ => hb n
  refine ⟨hcat ▸ hwf, fun n d hd => ?_, fun x => ?_, fun n hn => ?_⟩
  · rw [Body.doc_congr hcat] at hd
    unfold Body.doc at hd
    rw [Body.entered_slot, if_pos (Nat.zero_le n), Nat.sub_zero] at hd
    cases hg : groups[n]? with
    | none =>
      rw [hg] at hd
      have := hb n
      unfold Body.doc at this
      rw [show (none.map (fun g => (⟨0, some (rebuiltDocument g)⟩ : Slot))).getD (b.slot n) = b.slot n from rfl, this] at hd
      cases hd
    | some g => rw [hg] at hd; cases hd; exact rebuiltDocument_chargesLawful g
  · obtain ⟨htotal, _⟩ := b.entered_total (fun d => chargeOf d.obligations x) groups 0 h.canonical fun n _ => hb n
    have hsum := Body.total_congr (fun d => chargeOf d.obligations x) hcat
    have hzero : b.total (fun d => chargeOf d.obligations x) = 0 := by
      unfold Body.total
      rw [hdocs]
      rfl
    have hacc : b.account x = 0 := (h.account x).trans hzero
    change _ = (b.rebuiltFrom groups dropped).total (fun d => chargeOf d.obligations x)
    rw [hsum, htotal, hzero, Nat.zero_add, Body.rebuiltFrom_account, hacc]
    simp only [rebuiltDocument_chargeOf]
    rw [sum_map_ite, keptLeaves_length]
  · have hpurges : (b.rebuiltFrom groups dropped).purges = b.purges := by
      have hvoid : (dropped.foldl Body.voidLeaf (b.entered groups 0)).purges = b.purges :=
        (foldl_keeps (fun c : Body => c.purges) Body.voidLeaf (fun _ _ => rfl) dropped _).trans
          (foldl_keeps (fun c : Body => c.purges) Body.enterRebuilt (fun c e => by rw [Body.enterRebuilt_eq c e.1 e.2]) _ b)
      rw [← hvoid]
      unfold Body.rebuiltFrom
      dsimp only
      split_ifs <;> rfl
    obtain ⟨d, hd, _⟩ := h.purges n (hpurges ▸ hn)
    rw [hb n] at hd
    cases hd

theorem foldl_scanLeaf_frame (f : Flash) (l : List Nat) (b : Body) : l.foldl (Body.scanLeaf f) b = { b with
    leaves := (l.foldl (Body.scanLeaf f) b).leaves, banks := (l.foldl (Body.scanLeaf f) b).banks } :=
  foldl_leavesBanks (step := Body.scanLeaf f) (fun c l => c.scanLeaf_frame f l) l b

end

/-! ### Every step -/

section
variable {s t : State}

theorem State.rebuild_txn (s : State) : s.rebuild.txn = s.txn := by
  have hkeep : ∀ (b : Body) (r : Recovery), ({ s with body := b, recovery := r } : State).txn = s.txn := fun _ _ => rfl
  unfold State.rebuild
  exact hkeep _ _

theorem State.rebuild_part (s : State) : s.rebuild.recovery.part = s.recovery.afterStart := by
  unfold State.rebuild
  dsimp only

theorem State.chargesLawful.rebuild (h : s.chargesLawful) (hp : s.recovery.part = .rebuilding) : s.rebuild.chargesLawful := by
  have hscan := foldl_scanLeaf_frame s.flash (unscanned s.recovery.scanned) s.body
  have hlaw : ((unscanned s.recovery.scanned).foldl (Body.scanLeaf s.flash) s.body).chargesLawful :=
    h.charges.congr (by rw [hscan]) (by rw [hscan]) (by rw [hscan])
  have hnone := (Kept.scanRest s.flash (unscanned s.recovery.scanned) s.body).none (h.rebuilding hp)
  have hsessions : ∀ (c : Body) groups dropped, (c.rebuiltFrom groups dropped).sessions = c.sessions := by
    intro c groups dropped
    have hvoid : (dropped.foldl Body.voidLeaf (c.entered groups 0)).sessions = c.sessions :=
      (foldl_keeps (fun c : Body => c.sessions) Body.voidLeaf (fun _ _ => rfl) dropped _).trans
        (foldl_keeps (fun c : Body => c.sessions) Body.enterRebuilt (fun c e => by rw [Body.enterRebuilt_eq c e.1 e.2]) _ c)
    rw [← hvoid]
    unfold Body.rebuiltFrom
    dsimp only
    split_ifs <;> rfl
  refine Body.chargesLawful.idle ?_ (fun k => ?_) (fun a => ?_) fun hr => ?_
  · rw [State.rebuild_body, Body.rebuild_eq]
    exact hlaw.rebuiltFrom hnone _ _
  · have hidle : (s.body.session k).state = .idle := by
      by_contra hne
      obtain ⟨n, d, _, hd, _⟩ := h.sessions k hne
      rw [h.rebuilding hp n] at hd
      cases hd
    have hses : s.rebuild.body.sessions = s.body.sessions := by
      rw [State.rebuild_body, Body.rebuild_eq, hsessions, hscan]
    rw [Body.session_congr hses]
    exact hidle
  · rw [State.rebuild_txn]
    exact h.noAppend (by rw [hp]; rfl) a
  · rw [State.rebuild_part] at hr
    exact absurd hr (PartState.not_rebuilding s.recovery.afterStart_works)

theorem SessionsKept.loseVolatile (b : Body) : SessionsKept b b.loseVolatile := fun k => by
  rw [Body.loseVolatile_session]
  split_ifs <;> exact ⟨rfl, rfl⟩

theorem State.chargesLawful.mainPowerLoss (h : s.chargesLawful) {x : Bool} (hr : execMainPowerLoss x s = .next t) :
    t.chargesLawful := by
  rcases execMainPowerLoss_next hr with ⟨_, rfl⟩ | ⟨_, ht⟩
  · exact h.frame rfl (.inl rfl) (.inl rfl)
  · have hlost : ({ s with body := s.body.loseVolatile } : State).chargesLawful :=
      h.still (by rw [Body.loseVolatile_eq]) (by rw [Body.loseVolatile_eq]) (by rw [Body.loseVolatile_eq])
        (SessionsKept.loseVolatile s.body)
    rw [ht]
    exact ⟨hlost.charges, hlost.sessions, fun a ha => (by rw [State.endTransaction_txn] at ha; cases ha), nofun⟩

/-- Settles O12: each change that a command is made of keeps charges and accounts, and so do the loss of main power and the
two starts. -/
theorem everyStepKeepsChargesAndAccountsAgreeing : Obligations.EveryStepKeepsChargesAndAccountsAgreeing := by
  intro s t
  refine step_preserves (P := State.chargesLawful) (fun _ _ h => h.frame rfl (.inl rfl) (.inl rfl)) (fun c s t hs hr => ?_)
  by_cases hl : ∃ x, c = .mainPowerLoss x
  · obtain ⟨x, rfl⟩ := hl
    exact hs.mainPowerLoss hr
  by_cases hc : c = .rebuildComplete
  · subst hc
    obtain ⟨hp, ht⟩ := execRebuildComplete_next hr
    have hq : s.quiet.chargesLawful := hs.frame rfl (.inl rfl) (.inl rfl)
    rw [ht]
    refine chargesWorkLaw.resume (hq.rebuild hp) ?_
    rw [State.rebuild_part]
    exact Recovery.afterStart_works _
  · exact chargesWorkLaw.exec (fun x hx => hl ⟨x, hx⟩) hc hs hr

end

end Sys2Proof.Machine
end

section
/-! A warm start's leaf states, and the leaves that truncation drops (R100, R164, R165). -/

namespace Sys2Proof.Machine

/-! ### Leaves set one after another -/

section
variable {b : Body} {k l m : Nat} {v : Leaf} {step : Body → Nat → Body} {ls : List Nat}

/-- Each leaf of a list is set alike. -/
theorem foldl_setsLeaf (h : ∀ b l m, (step b l).leaf m = if m = l then v else b.leaf m) (ls : List Nat) (b : Body) (m : Nat) :
    (ls.foldl step b).leaf m = if m ∈ ls then v else b.leaf m := by
  induction ls generalizing b with
  | nil => simp
  | cons l ls ih =>
    rw [List.foldl_cons, ih, h]
    by_cases hm : m ∈ ls
    · rw [if_pos hm, if_pos (List.mem_cons_of_mem _ hm)]
    · rw [if_neg hm]
      simp only [List.mem_cons, hm, or_false]

theorem filter_cons_bank (k l : Nat) (ls : List Nat) :
    (l :: ls).filter (fun m => m % 4 = k) = (if k = l % 4 then [l] else []) ++ ls.filter (fun m => m % 4 = k) := by
  by_cases hk : l % 4 = k
  · rw [List.filter_cons_of_pos (by simpa using hk), if_pos hk.symm]; rfl
  · rw [List.filter_cons_of_neg (by simpa using hk), if_neg (Ne.symm hk)]; rfl

/-- A bank after leaves have gone BLANK one after another. -/
theorem foldl_blankLeaf_bank (ls : List Nat) (b : Body) (k : Nat) : (ls.foldl Body.blankLeaf b).bank k =
    { b.bank k with blank := (b.bank k).blank ++ ls.filter (fun m => m % 4 = k) } := by
  induction ls generalizing b with
  | nil => simp
  | cons l ls ih =>
    rw [List.foldl_cons, ih, Body.blankLeaf_bank, filter_cons_bank]
    simp only [List.append_assoc]

/-- A bank after leaves have gone VOID one after another. -/
theorem foldl_voidLeaf_bank (ls : List Nat) (b : Body) (k : Nat) : (ls.foldl Body.voidLeaf b).bank k =
    { b.bank k with eraseQueue := (b.bank k).eraseQueue ++ ls.filter (fun m => m % 4 = k) } := by
  induction ls generalizing b with
  | nil => simp
  | cons l ls ih =>
    rw [List.foldl_cons, ih, Body.voidLeaf_bank, filter_cons_bank]
    simp only [List.append_assoc]

theorem Body.voidFront_leaf (b : Body) (l m : Nat) :
    (b.voidFront l).leaf m = if m = l then ⟨.void, none, none⟩ else b.leaf m :=
  Body.setLeaf_leaf b l ⟨.void, none, none⟩ m

theorem Body.voidFront_bank (b : Body) (l k : Nat) : (b.voidFront l).bank k =
    { b.bank k with eraseQueue := (if k = l % 4 then [l] else []) ++ (b.bank k).eraseQueue } := by
  have hset : (b.voidFront l).bank k = if k = l % 4 then
      { b.bank (l % 4) with eraseQueue := l :: (b.bank (l % 4)).eraseQueue } else b.bank k := Table.read_write ..
  rw [hset]
  split_ifs with hk
  · rw [hk]; rfl
  · rfl

/-- A bank after leaves, taken from the last to the first, have gone to the front of their erase queues. -/
theorem foldl_voidFront_bank (ls : List Nat) (b : Body) (k : Nat) : (ls.reverse.foldl Body.voidFront b).bank k =
    { b.bank k with eraseQueue := ls.filter (fun m => m % 4 = k) ++ (b.bank k).eraseQueue } := by
  induction ls generalizing b with
  | nil => simp
  | cons l ls ih =>
    rw [List.reverse_cons, List.foldl_append, List.foldl_cons, List.foldl_nil, Body.voidFront_bank, ih, filter_cons_bank]
    simp only [List.append_assoc]

/-! ### The leaf states of a warm start -/

theorem Body.leaf_congr {b c : Body} (h : c.leaves = b.leaves) (l : Nat) : c.leaf l = b.leaf l := by
  unfold Body.leaf; rw [h]

/-- The leaves listed in a state that is not BLANK. -/
theorem Body.mem_leavesWhere (hw : Table.wf Leaf.blank b.leaves) {p : LeafState → Bool} (hp : p .blank = false) :
    l ∈ b.leavesWhere p ↔ p (b.leaf l).state = true := by
  unfold Body.leavesWhere
  rw [List.mem_map]
  constructor
  · rintro ⟨⟨m, v⟩, he, rfl⟩
    obtain ⟨he, hs⟩ := List.mem_filter.mp he
    have hread : b.leaf m = v := ((Table.mem_iff_read hw m v).mp he).2
    rw [hread]; exact hs
  · intro hs
    refine ⟨(l, b.leaf l), List.mem_filter.mpr ⟨(Table.mem_iff_read hw l _).mpr ⟨fun hb => ?_, rfl⟩, hs⟩, rfl⟩
    rw [hb] at hs
    exact Bool.false_ne_true (hp.symm.trans hs)

theorem Body.leavesWhere_pairwise (hw : Table.wf Leaf.blank b.leaves) (p : LeafState → Bool) :
    (b.leavesWhere p).Pairwise (· < ·) := by
  have hkeys : (b.leaves.map (fun e => e.1)).Pairwise (· < ·) := by
    rw [List.pairwise_map]
    exact hw.1
  exact hkeys.sublist (List.filter_sublist.map _)

/-- The body whose leaf states a warm start reconciles. -/
def Body.pooled (b : Body) : Body := { b.loseVolatile with sessions := [] }

theorem Body.pooled_leaves (b : Body) : b.pooled.leaves = b.leaves := by
  unfold Body.pooled
  rw [Body.loseVolatile_eq]

theorem Body.pooled_banks (b : Body) : b.pooled.banks = b.loseVolatile.banks := by
  unfold Body.pooled
  generalize b.loseVolatile = c
  rfl

theorem Body.pooled_bank (hk : k < 4) : b.pooled.bank k = { b.bank k with fetchQueue := [], op := .none } := by
  rw [Body.bank_congr b.pooled_banks, Body.loseVolatile_bank, if_pos hk]

theorem Body.leavesWhere_congr {b c : Body} (h : c.leaves = b.leaves) (p : LeafState → Bool) :
    c.leavesWhere p = b.leavesWhere p := by
  unfold Body.leavesWhere; rw [h]

theorem Body.warmLeaves_eq (b : Body) : b.warmLeaves = (b.leavesWhere (fun st => st == .erasing)).reverse.foldl
    Body.voidFront ((b.leavesWhere (fun st => st == .voiding)).foldl Body.voidLeaf
      ((b.leavesWhere (fun st => st == .programming)).foldl Body.voidLeaf
        ((b.leavesWhere (fun st => st == .filling || st == .ready)).foldl Body.blankLeaf b.pooled))) := by
  have hread := fun p => Body.leavesWhere_congr b.pooled_leaves p
  change b.pooled.reconcileLeaves = _
  unfold Body.reconcileLeaves
  simp only [hread]

/-- The leaf that a warm start makes of one: one never written BLANK, an interrupted one VOID. -/
def Leaf.settled (v : Leaf) : Leaf :=
  match v.state with
  | .filling | .ready => Leaf.blank
  | .programming | .voiding | .erasing => ⟨.void, none, none⟩
  | .blank | .void | .programmed | .retired => v

theorem Leaf.settled_unwritten {v : Leaf} (h : v.state = .filling ∨ v.state = .ready) : v.settled = ⟨.blank, none, none⟩ := by
  unfold Leaf.settled
  rcases h with h | h <;> rw [h] <;> rfl

theorem Leaf.settled_interrupted {v : Leaf} (h : v.state = .programming ∨ v.state = .voiding ∨ v.state = .erasing) :
    v.settled = ⟨.void, none, none⟩ := by
  unfold Leaf.settled
  rcases h with h | h | h <;> rw [h]

theorem Leaf.settled_stays {v : Leaf}
    (h : v.state = .programmed ∨ v.state = .blank ∨ v.state = .void ∨ v.state = .retired) : v.settled = v := by
  unfold Leaf.settled
  rcases h with h | h | h | h <;> rw [h]

theorem Body.warmLeaves_leaf (hw : Table.wf Leaf.blank b.leaves) (l : Nat) :
    b.warmLeaves.leaf l = (b.leaf l).settled := by
  rw [Body.warmLeaves_eq, foldl_setsLeaf (Body.voidFront_leaf), foldl_setsLeaf (fun _ _ => Body.voidLeaf_leaf),
    foldl_setsLeaf (fun _ _ => Body.voidLeaf_leaf), foldl_setsLeaf (fun _ _ => Body.blankLeaf_leaf),
    Body.leaf_congr b.pooled_leaves]
  simp only [List.mem_reverse, Body.mem_leavesWhere hw (p := fun st => st == .erasing) rfl,
    Body.mem_leavesWhere hw (p := fun st => st == .voiding) rfl, Body.mem_leavesWhere hw (p := fun st => st == .programming) rfl,
    Body.mem_leavesWhere hw (p := fun st => st == .filling || st == .ready) rfl]
  unfold Leaf.settled
  cases hs : (b.leaf l).state <;> simp

theorem Body.warmLeaves_bank (hk : k < 4) : b.warmLeaves.bank k =
    ⟨(b.bank k).blank ++ b.listed k (fun st => st == .filling || st == .ready),
      b.listed k (fun st => st == .erasing) ++ (b.bank k).eraseQueue ++ b.listed k (fun st => st == .programming) ++
        b.listed k (fun st => st == .voiding), [], .none⟩ := by
  have hlisted : ∀ p, b.listed k p = (b.leavesWhere p).filter (fun m => m % 4 = k) := fun _ => rfl
  rw [Body.warmLeaves_eq, foldl_voidFront_bank, foldl_voidLeaf_bank, foldl_voidLeaf_bank, foldl_blankLeaf_bank,
    Body.pooled_bank hk]
  simp only [hlisted, List.append_assoc]

theorem Leaf.settled_programmed (v : Leaf) : v.settled.state = .programmed ↔ v.state = .programmed := by
  unfold Leaf.settled
  cases hs : v.state <;> simp [Leaf.blank, hs]

/-- Which slots are safe is the same before and after the leaf states are reconciled. -/
theorem Body.warmLeaves_keeps (hw : Table.wf Leaf.blank b.leaves) : b.warmLeaves.keeps = b.keeps := by
  funext v
  cases v with
  | placed l =>
    have h := (b.leaf l).settled_programmed
    rw [← Body.warmLeaves_leaf hw] at h
    exact Bool.eq_iff_iff.mpr (by simpa [Body.keeps] using h)
  | unplaced => rfl
  | released => rfl

end

/-! ### What truncation removes -/

section
variable {b c : Body} {k l n : Nat} {d : Document}

theorem Body.keptSlots_congr (h : c.keeps = b.keeps) (d : Document) : c.keptSlots d = b.keptSlots d := by
  unfold Body.keptSlots; rw [h]

theorem Body.lostSlots_congr (h : c.keeps = b.keeps) (d : Document) : c.lostSlots d = b.lostSlots d := by
  unfold Body.lostSlots; rw [Body.keptSlots_congr h]

theorem Body.keptPages_congr (h : c.keeps = b.keeps) (d : Document) : c.keptPages d = b.keptPages d := by
  unfold Body.keptPages; rw [Body.keptSlots_congr h, h]

theorem dropWhile_eq_drop {α : Type} (p : α → Bool) (l : List α) : l.dropWhile p = l.drop (l.takeWhile p).length := by
  conv_rhs => rw [← List.takeWhile_append_dropWhile (p := p) (l := l)]
  rw [List.takeWhile_append_dropWhile]
  induction l with
  | nil => rfl
  | cons a l ih =>
    by_cases ha : p a = true
    · rw [List.dropWhile_cons_of_pos ha, List.takeWhile_cons_of_pos ha, List.length_cons, List.drop_succ_cons, ih]
    · rw [List.dropWhile_cons_of_neg ha, List.takeWhile_cons_of_neg ha]; rfl

/-- The slots that pages keep, page by page. -/
def keptOf (keeps : LeafSlot → Bool) (pages : List Page) : List (List LeafSlot) :=
  (pages.map (fun p => p.slots.takeWhile keeps)).takeWhile (fun slots => !slots.isEmpty)

theorem keptOf_cons_of_kept {keeps : LeafSlot → Bool} {p : Page} (hp : p.slots.takeWhile keeps ≠ []) (ps : List Page) :
    keptOf keeps (p :: ps) = p.slots.takeWhile keeps :: keptOf keeps ps := by
  unfold keptOf
  rw [List.map_cons, List.takeWhile_cons_of_pos (by simpa using hp)]

theorem keptOf_cons_of_none {keeps : LeafSlot → Bool} {p : Page} (hp : p.slots.takeWhile keeps = []) (ps : List Page) :
    keptOf keeps (p :: ps) = [] := by
  unfold keptOf
  rw [List.map_cons, List.takeWhile_cons_of_neg (by rw [hp]; simp)]

theorem flatMap_zipIdx_slots (ps : List Page) (k : Nat) : (ps.zipIdx k).flatMap (fun e => e.1.slots) = slotsOf ps := by
  unfold slotsOf
  conv_rhs => rw [← List.zipIdx_map_fst k ps, List.flatMap_map]

/-- What pages lose: the slots from the first unsafe one on, and every slot of the pages that go. -/
theorem lost_eq (keeps : LeafSlot → Bool) (pages : List Page) :
    pages.zipIdx.flatMap (fun e => e.1.slots.drop ((keptOf keeps pages).getD e.2 []).length) =
      (pages.take (keptOf keeps pages).length).flatMap (fun p => p.slots.dropWhile keeps) ++
        slotsOf (pages.drop (keptOf keeps pages).length) := by
  induction pages with
  | nil => rfl
  | cons p ps ih =>
    by_cases hp : p.slots.takeWhile keeps = []
    · rw [keptOf_cons_of_none hp]
      simpa using flatMap_zipIdx_slots (p :: ps) 0
    · rw [keptOf_cons_of_kept hp, List.zipIdx_cons, Nat.zero_add, List.zipIdx_succ, List.flatMap_cons, List.flatMap_map,
        List.length_cons, List.take_succ_cons, List.drop_succ_cons, List.flatMap_cons, List.append_assoc, ← ih,
        dropWhile_eq_drop]
      rfl

/-- The removed slots are those that the document loses. -/
theorem Body.lostSlots_eq (b : Body) (d : Document) : b.lostSlots d = removedSlots b d.pages := by
  have hlost := lost_eq b.keeps d.pages
  unfold removedSlots
  dsimp only
  rw [truncatePages_length, Body.safeSlot_eq]
  exact hlost

theorem Page.truncate_eq (b : Body) (p : Page) : p.truncate b = if p.slots.all b.keeps then p
    else { p with state := .cut, counts := none, byteLength := 4096 * (p.slots.takeWhile b.keeps).length,
                  slots := p.slots.takeWhile b.keeps } := by
  have hall : (p.slots.takeWhile b.keeps).length = p.slots.length ↔ p.slots.all b.keeps = true := by
    rw [List.all_eq_true, ← List.takeWhile_eq_self_iff]
    exact ⟨fun h => (List.takeWhile_prefix _).eq_of_length h, fun h => by rw [h]⟩
  unfold Page.truncate
  dsimp only
  rw [Body.safeSlot_eq]
  simp only [hall]
  rfl

/-- The pages that stay. -/
theorem truncatePages_keptPages (b : Body) (d : Document) : truncatePages b d.pages = b.keptPages d := by
  rw [truncatePages_eq, truncatePages_length]
  exact List.map_congr_left fun p _ => p.truncate_eq b

theorem Body.mem_droppedLeaves (hw : Table.wf Slot.free b.catalog) : l ∈ b.droppedLeaves ↔
    (b.leaf l).state = .programmed ∧ ∃ n d, b.doc n = some d ∧ .placed l ∈ b.lostSlots d := by
  unfold Body.droppedLeaves
  rw [mem_foldl_insertRising, List.mem_flatMap]
  simp only [List.not_mem_nil, false_or, List.mem_filterMap]
  have hdrop : ∀ v, b.droppedLeaf v = some l ↔ (b.leaf l).state = .programmed ∧ v = .placed l := by
    intro v
    cases v with
    | placed m =>
      unfold Body.droppedLeaf
      by_cases hml : m = l
      · subst hml; simp
      · simp [hml]
    | unplaced => simp [Body.droppedLeaf]
    | released => simp [Body.droppedLeaf]
  constructor
  · rintro ⟨⟨n, d⟩, he, v, hv, hl⟩
    obtain ⟨hs, rfl⟩ := (hdrop v).mp hl
    exact ⟨hs, n, d, (Body.mem_documents_iff hw).mp he, by rw [Body.lostSlots_eq]; exact hv⟩
  · rintro ⟨hs, n, d, hd, hv⟩
    rw [Body.lostSlots_eq] at hv
    exact ⟨(n, d), Body.documents_of_doc hd, _, hv, (hdrop _).mpr ⟨hs, rfl⟩⟩

theorem Body.droppedLeaves_pairwise (b : Body) : b.droppedLeaves.Pairwise (· < ·) :=
  foldl_insertRising_pairwise _ List.Pairwise.nil

theorem Body.reconcileDocuments_leaves (b : Body) : b.reconcileDocuments.leaves = b.leaves := by
  unfold Body.reconcileDocuments
  rw [foldl_reconcileDocument_frame]

theorem Body.reconcileDocuments_banks (b : Body) : b.reconcileDocuments.banks = b.banks := by
  unfold Body.reconcileDocuments
  rw [foldl_reconcileDocument_frame]

theorem Body.truncate_leaf (b : Body) (l : Nat) :
    b.truncate.leaf l = if l ∈ b.droppedLeaves then ⟨.void, none, none⟩ else b.leaf l := by
  rw [Body.truncate_eq, foldl_setsLeaf (fun _ _ => Body.voidLeaf_leaf), Body.leaf_congr b.reconcileDocuments_leaves]

theorem Body.truncate_bank (b : Body) (k : Nat) : b.truncate.bank k =
    { b.bank k with eraseQueue := (b.bank k).eraseQueue ++ b.droppedLeaves.filter (fun l => l % 4 = k) } := by
  rw [Body.truncate_eq, foldl_voidLeaf_bank, Body.bank_congr b.reconcileDocuments_banks]

end

end Sys2Proof.Machine
end

section
/-! The catalog of a warm start: every document truncated, RECEIVING ones closed, and those that keep nothing gone from
their slots and from the purge list (R165, R166). -/

namespace Sys2Proof.Machine

/-! ### Slots changed one after another -/

section
variable {b c : Body} {n : Nat} {d : Document}

theorem foldl_slotwise {P : Body → Prop} {step : Body → Nat → Body} {g : Slot → Slot}
    (hP : ∀ b n, P b → P (step b n))
    (h : ∀ b n m, P b → (step b n).slot m = if m = n then g (b.slot n) else b.slot m) :
    ∀ (l : List Nat) (b : Body), l.Nodup → P b → ∀ m, (l.foldl step b).slot m = if m ∈ l then g (b.slot m) else b.slot m
  | [], _, _, _, m => by simp
  | n :: l, b, hn, hb, m => by
    obtain ⟨hnl, hn⟩ := List.nodup_cons.mp hn
    rw [List.foldl_cons, foldl_slotwise hP h l (step b n) hn (hP b n hb) m, h b n m hb]
    by_cases hmn : m = n
    · subst hmn
      rw [if_neg hnl, if_pos rfl, if_pos List.mem_cons_self]
    · simp only [List.mem_cons, hmn, false_or, if_false]

theorem filter_bne_filter (l : List Nat) (n : Nat) (p q : Nat → Bool) (hp : ∀ m, m ≠ n → p m = q m) (hq : q n = false) :
    (l.filter (fun m => m ≠ n)).filter p = l.filter q := by
  rw [List.filter_filter]
  refine List.filter_congr fun m _ => ?_
  by_cases hm : m = n
  · subst hm; simp [hq]
  · simp [hm, hp m hm]

/-- The purge list loses the slots that are freed. -/
theorem foldl_purges {P : Body → Prop} {step : Body → Nat → Body} {frees : Slot → Bool} (hP : ∀ b n, P b → P (step b n))
    (hs : ∀ b n m, P b → m ≠ n → (step b n).slot m = b.slot m)
    (h : ∀ b n, P b → (step b n).purges = if frees (b.slot n) then b.purges.filter (fun m => m ≠ n) else b.purges) :
    ∀ (l : List Nat) (b : Body), l.Nodup → P b →
      (l.foldl step b).purges = b.purges.filter (fun m => !(decide (m ∈ l) && frees (b.slot m)))
  | [], b, _, _ => by simp
  | n :: l, b, hn, hb => by
    obtain ⟨hnl, hn⟩ := List.nodup_cons.mp hn
    rw [List.foldl_cons, foldl_purges hP hs h l (step b n) hn (hP b n hb), h b n hb]
    have hother : ∀ m, m ≠ n → (!(decide (m ∈ l) && frees ((step b n).slot m))) =
        !(decide (m ∈ n :: l) && frees (b.slot m)) := fun m hm => by
      rw [hs b n m hb hm]; simp [hm]
    split_ifs with hf
    · exact filter_bne_filter _ n _ _ hother (by simp [hf])
    · refine List.filter_congr fun m _ => ?_
      by_cases hm : m = n
      · subst hm; simp [hnl, hf]
      · exact hother m hm

/-! ### Truncation -/

theorem Document.reconcile_congr (h : c.leaves = b.leaves) (d : Document) : d.reconcile c = d.reconcile b := by
  have hsafe : c.safeSlot = b.safeSlot := by
    funext v
    cases v with
    | placed l => exact congrArg (fun v : Leaf => v.state == .programmed) (Body.leaf_congr h l)
    | unplaced => rfl
    | released => rfl
  have htrunc : ∀ p : Page, p.truncate c = p.truncate b := fun p => by unfold Page.truncate; rw [hsafe]
  have hpages : ∀ pages, truncatePages c pages = truncatePages b pages := fun pages => by
    unfold truncatePages; rw [List.map_congr_left fun p _ => htrunc p]
  unfold Document.reconcile removedSlots
  simp only [hpages, hsafe]

theorem Body.slot_eq (b : Body) (n : Nat) : b.slot n = ⟨(b.slot n).generation, b.doc n⟩ := rfl

theorem Body.reconcileDocument_slot (b : Body) (n m : Nat) : (b.reconcileDocument n).slot m =
    if m = n then ⟨(b.slot n).generation, (b.slot n).doc.map (Document.reconcile b)⟩ else b.slot m := by
  have hdoc : (b.slot n).doc = b.doc n := rfl
  rw [hdoc]
  cases hd : b.doc n with
  | none =>
    rw [Body.reconcileDocument_none hd]
    split_ifs with hm
    · rw [hm, b.slot_eq n, hd]; rfl
    · rfl
  | some d =>
    rw [Body.reconcileDocument_eq hd, Body.slot_congr (Body.moveAccounts_catalog ..), Body.setDoc_slot]
    rfl

theorem Body.reconcileDocument_leaves (b : Body) (n : Nat) : (b.reconcileDocument n).leaves = b.leaves := by
  rw [Body.reconcileDocument_frame]

theorem Body.mem_documents_keys (hw : Table.wf Slot.free b.catalog) :
    n ∈ b.documents.map (fun e => e.1) ↔ ∃ d, b.doc n = some d := by
  rw [List.mem_map]
  constructor
  · rintro ⟨⟨m, d⟩, he, rfl⟩
    exact ⟨d, (Body.mem_documents_iff hw).mp he⟩
  · rintro ⟨d, hd⟩
    exact ⟨(n, d), Body.documents_of_doc hd, rfl⟩

theorem Body.reconcileDocuments_slot (hw : Table.wf Slot.free b.catalog) (n : Nat) :
    b.reconcileDocuments.slot n = ⟨(b.slot n).generation, (b.doc n).map (Document.reconcile b)⟩ := by
  unfold Body.reconcileDocuments
  rw [foldl_slotwise (P := fun c => c.leaves = b.leaves)
    (g := fun v => ⟨v.generation, v.doc.map (Document.reconcile b)⟩)
    (fun c m hc => (c.reconcileDocument_leaves m).trans hc)
    (fun c n m hc => by
      rw [Body.reconcileDocument_slot]
      have heq : Document.reconcile c = Document.reconcile b := funext fun d => d.reconcile_congr hc
      rw [heq])
    _ b ((Body.documents_keys hw).imp fun h => h.ne) rfl]
  split_ifs with hn
  · rfl
  · cases hd : b.doc n with
    | none => rw [b.slot_eq n, hd]; rfl
    | some d => exact absurd ((Body.mem_documents_keys hw).mpr ⟨d, hd⟩) hn

theorem Body.truncate_catalog (b : Body) : b.truncate.catalog = b.reconcileDocuments.catalog := by
  rw [Body.truncate_frame]

theorem Body.truncate_slot (hw : Table.wf Slot.free b.catalog) (n : Nat) :
    b.truncate.slot n = ⟨(b.slot n).generation, (b.doc n).map (Document.reconcile b)⟩ :=
  (slot_congr b.truncate_catalog n).trans (Body.reconcileDocuments_slot hw n)

theorem Body.truncate_doc (hw : Table.wf Slot.free b.catalog) (n : Nat) :
    b.truncate.doc n = (b.doc n).map (Document.reconcile b) := congrArg Slot.doc (Body.truncate_slot hw n)

theorem Body.setDoc_wf (hw : Table.wf Slot.free b.catalog) (n : Nat) (d : Document) :
    Table.wf Slot.free (b.setDoc n d).catalog := Table.wf_write _ _ hw

theorem Body.freeSlot_wf (hw : Table.wf Slot.free b.catalog) (n : Nat) : Table.wf Slot.free (b.freeSlot n).catalog :=
  Table.wf_write _ _ hw

theorem Body.reconcileDocument_wf (hw : Table.wf Slot.free b.catalog) (n : Nat) :
    Table.wf Slot.free (b.reconcileDocument n).catalog := by
  cases hd : b.doc n with
  | none => rw [Body.reconcileDocument_none hd]; exact hw
  | some d => rw [Body.reconcileDocument_eq hd, Body.moveAccounts_catalog]; exact Body.setDoc_wf hw n _

theorem foldl_wf {step : Body → Nat → Body}
    (h : ∀ b n, Table.wf Slot.free b.catalog → Table.wf Slot.free (step b n).catalog) (l : List Nat) (b : Body)
    (hw : Table.wf Slot.free b.catalog) : Table.wf Slot.free (l.foldl step b).catalog := by
  induction l generalizing b with
  | nil => exact hw
  | cons n l ih => exact ih _ (h b n hw)

theorem Body.truncate_wf (hw : Table.wf Slot.free b.catalog) : Table.wf Slot.free b.truncate.catalog := by
  rw [Body.truncate_catalog]
  exact foldl_wf (fun _ n h => Body.reconcileDocument_wf h n) _ b hw

/-- Two lists of documents in rising slots with the same members are the same. -/
theorem documents_ext {l k : List (Nat × Document)} (hl : (l.map (fun e => e.1)).Pairwise (· < ·))
    (hk : (k.map (fun e => e.1)).Pairwise (· < ·)) (h : ∀ e, e ∈ l ↔ e ∈ k) : l = k := by
  rw [List.pairwise_map] at hl hk
  refine List.Perm.eq_of_pairwise (le := fun x y : Nat × Document => x.1 < y.1) (fun x y _ _ hxy hyx => absurd hxy hyx.not_gt) hl hk
    ((List.perm_ext_iff_of_nodup (hl.imp ?_) (hk.imp ?_)).mpr h)
  · rintro x y hxy rfl; exact lt_irrefl _ hxy
  · rintro x y hxy rfl; exact lt_irrefl _ hxy

/-- The documents after truncation, in the order of their slots. -/
theorem Body.truncate_documents (hw : Table.wf Slot.free b.catalog) :
    b.truncate.documents = b.documents.map (fun e => (e.1, e.2.reconcile b)) := by
  refine documents_ext (Body.documents_keys (Body.truncate_wf hw)) ?_ fun ⟨n, f⟩ => ?_
  · rw [List.map_map]
    exact Body.documents_keys hw
  · rw [Body.mem_documents_iff (Body.truncate_wf hw), Body.truncate_doc hw, List.mem_map, Option.map_eq_some_iff]
    constructor
    · rintro ⟨d, hd, rfl⟩
      exact ⟨(n, d), Body.documents_of_doc hd, rfl⟩
    · rintro ⟨⟨m, d⟩, he, hf⟩
      cases hf
      exact ⟨d, (Body.mem_documents_iff hw).mp he, rfl⟩

/-! ### Closes and discards -/

/-- A slot freed, with its generation advanced. -/
def Slot.freed (v : Slot) : Slot := ⟨(v.generation + 1) % 256, none⟩

theorem Body.freeSlot_slot_freed (b : Body) (n m : Nat) :
    (b.freeSlot n).slot m = if m = n then (b.slot n).freed else b.slot m := Body.freeSlot_slot ..

theorem Body.freeWhere_slot (hw : Table.wf Slot.free b.catalog) (p : Document → Bool) (n : Nat) :
    (b.freeWhere p).slot n = if (b.doc n).any p then (b.slot n).freed else b.slot n := by
  unfold Body.freeWhere
  rw [foldl_slotwise (P := fun _ => True) (fun _ _ h => h) (fun c n m _ => c.freeSlot_slot_freed n m) _ b
    (Body.slotsWhere_nodup hw p) trivial]
  simp only [Body.mem_slotsWhere hw, Option.any_eq_true]

theorem Body.freeWhere_wf (hw : Table.wf Slot.free b.catalog) (p : Document → Bool) :
    Table.wf Slot.free (b.freeWhere p).catalog := foldl_wf (fun _ n h => Body.freeSlot_wf h n) _ b hw

theorem Body.freeWhere_purges (hw : Table.wf Slot.free b.catalog) (p : Document → Bool) :
    (b.freeWhere p).purges = b.purges.filter (fun n => !(b.doc n).any p) := by
  unfold Body.freeWhere
  rw [foldl_purges (P := fun _ => True) (frees := fun _ => true) (fun _ _ h => h)
    (fun c n m _ hm => by rw [Body.freeSlot_slot_freed, if_neg hm]) (fun _ _ _ => rfl) _ b (Body.slotsWhere_nodup hw p) trivial]
  refine List.filter_congr fun n _ => congrArg not (Bool.eq_iff_iff.mpr ?_)
  simp only [Body.mem_slotsWhere hw, Option.any_eq_true, Bool.and_true, decide_eq_true_eq]

/-- What a close with ending POWER_LOSS makes of a slot that holds a document. -/
def Slot.closed (t : Tables) (tb : Timebase) (v : Slot) : Slot :=
  match v.doc with
  | some d => if d.leafCount = 0 then v.freed else { v with doc := some (d.kept t tb .powerLoss) }
  | none => v

theorem Body.closeDocument_slot_closed (t : Tables) (tb : Timebase) (b : Body) (n m : Nat) :
    (b.closeDocument t tb n .powerLoss).slot m = if m = n then (b.slot n).closed t tb else b.slot m := by
  unfold Slot.closed
  cases hd : b.doc n with
  | none =>
    have hdoc : (b.slot n).doc = none := hd
    rw [Body.closeDocument_none hd, hdoc]
    split_ifs with hm
    · rw [hm]
    · rfl
  | some d =>
    have hdoc : (b.slot n).doc = some d := hd
    rw [Body.closeDocument_slot hd, hdoc]
    rfl

/-- A slot whose document is discarded by its close. -/
def Slot.empty (v : Slot) : Bool := v.doc.any (fun d => d.leafCount == 0)

theorem Body.closeDocument_purges_empty (t : Tables) (tb : Timebase) (b : Body) (n : Nat) :
    (b.closeDocument t tb n .powerLoss).purges =
      if (b.slot n).empty then b.purges.filter (fun m => m ≠ n) else b.purges := by
  have hempty : (b.slot n).empty = (b.doc n).any (fun d => d.leafCount == 0) := rfl
  rw [hempty]
  cases hd : b.doc n with
  | none => rw [Body.closeDocument_none hd]; rfl
  | some d =>
    rw [Body.closeDocument_purges' hd]
    simp

theorem Body.closeDocument_wf (t : Tables) (tb : Timebase) (hw : Table.wf Slot.free b.catalog) (n : Nat) :
    Table.wf Slot.free (b.closeDocument t tb n .powerLoss).catalog := by
  cases hd : b.doc n with
  | none => rw [Body.closeDocument_none hd]; exact hw
  | some d =>
    by_cases hz : d.leafCount = 0
    · rw [Body.closeDocument_discards hd hz]; exact Body.freeSlot_wf hw n
    · rw [Body.closeDocument_keeps hd hz, Body.moveAccounts_catalog]; exact Body.setDoc_wf hw n _

theorem Body.closeReceiving_wf (t : Tables) (tb : Timebase) (hw : Table.wf Slot.free b.catalog) :
    Table.wf Slot.free (b.closeReceiving t tb).catalog := foldl_wf (fun _ n h => Body.closeDocument_wf t tb h n) _ b hw

theorem Body.closeReceiving_slot (t : Tables) (tb : Timebase) (hw : Table.wf Slot.free b.catalog) (n : Nat) :
    (b.closeReceiving t tb).slot n =
      if (b.doc n).any (fun d => d.state == .receiving) then (b.slot n).closed t tb else b.slot n := by
  unfold Body.closeReceiving
  rw [foldl_slotwise (P := fun _ => True) (fun _ _ h => h) (fun c n m _ => c.closeDocument_slot_closed t tb n m) _ b
    (Body.slotsWhere_nodup hw _) trivial]
  simp only [Body.mem_slotsWhere hw, Option.any_eq_true]

theorem Body.closeReceiving_purges (t : Tables) (tb : Timebase) (hw : Table.wf Slot.free b.catalog) :
    (b.closeReceiving t tb).purges =
      b.purges.filter (fun n => !(b.doc n).any (fun d => d.state == .receiving && d.leafCount == 0)) := by
  unfold Body.closeReceiving
  rw [foldl_purges (P := fun _ => True) (frees := Slot.empty) (fun _ _ h => h)
    (fun c n m _ hm => by rw [Body.closeDocument_slot_closed, if_neg hm])
    (fun c n _ => c.closeDocument_purges_empty t tb n) _ b (Body.slotsWhere_nodup hw _) trivial]
  refine List.filter_congr fun n _ => congrArg not (Bool.eq_iff_iff.mpr ?_)
  have hempty : (b.slot n).empty = (b.doc n).any (fun d => d.leafCount == 0) := rfl
  simp only [Body.mem_slotsWhere hw, hempty]
  cases b.doc n <;> simp

/-- A truncated document leaves its slot. -/
def Document.goes (d : Document) : Bool := d.leafCount == 0 || (d.state == .purging && d.cursor.isNone)

/-- What the steps of R166 make of a slot. -/
def Slot.reconciled (t : Tables) (tb : Timebase) (v : Slot) : Slot :=
  match v.doc with
  | some d => if d.goes then v.freed
    else if d.state = .receiving then { v with doc := some (d.kept t tb .powerLoss) } else v
  | none => v

theorem Document.kept_leafCount (t : Tables) (tb : Timebase) (d : Document) (e : Ending) :
    (d.kept t tb e).leafCount = d.leafCount := by
  have hpages : (d.kept t tb e).leafCount = (d.stampClose e ⟨tb.clock, tb.trusted⟩).leafCount := by
    unfold Document.kept Document.distribute Document.retainAtClose
    dsimp only
    split_ifs <;> rfl
  exact hpages.trans (d.stampClose_leafCount e ⟨tb.clock, tb.trusted⟩)

theorem Document.kept_state (t : Tables) (tb : Timebase) (d : Document) (e : Ending) :
    (d.kept t tb e).state = .distributing := by
  have h := (d.closedAs_kept t tb e).1
  rw [h]

/-- A slot is freed where its document meets a condition. -/
def Slot.freedWhere (p : Document → Bool) (v : Slot) : Slot := if v.doc.any p then v.freed else v

/-- A slot's document is closed where it is received. -/
def Slot.closedWhere (t : Tables) (tb : Timebase) (v : Slot) : Slot :=
  if v.doc.any (fun d => d.state == .receiving) then v.closed t tb else v

/-- The three steps of R166 one after another, at one slot. -/
theorem Slot.reconciled_eq (t : Tables) (tb : Timebase) (v : Slot) :
    ((v.closedWhere t tb).freedWhere (fun d => d.leafCount == 0)).freedWhere (fun d => d.state == .purging && d.cursor.isNone) =
      v.reconciled t tb := by
  obtain ⟨g, o⟩ := v
  cases o with
  | none => rfl
  | some d =>
    by_cases hz : d.leafCount = 0
    · by_cases hr : d.state = .receiving <;>
        simp [Slot.closedWhere, Slot.freedWhere, Slot.closed, Slot.reconciled, Document.goes, Slot.freed, hz, hr]
    · by_cases hr : d.state = .receiving
      · simp [Slot.closedWhere, Slot.freedWhere, Slot.closed, Slot.reconciled, Document.goes, hz, hr,
          Document.kept_leafCount, Document.kept_state]
      · simp [Slot.closedWhere, Slot.freedWhere, Slot.reconciled, Document.goes, hz, hr]

theorem Body.closeReconciled_slot (t : Tables) (tb : Timebase) (hw : Table.wf Slot.free b.catalog) (n : Nat) :
    (b.closeReconciled t tb).slot n = (b.slot n).reconciled t tb := by
  have hw1 := Body.closeReceiving_wf t tb hw
  rw [Body.closeReconciled_eq, ← Slot.reconciled_eq, Body.freeWhere_slot (Body.freeWhere_wf hw1 _)]
  change Slot.freedWhere _ (((b.closeReceiving t tb).freeWhere (fun d => d.leafCount == 0)).slot n) = _
  rw [Body.freeWhere_slot hw1]
  change Slot.freedWhere _ (Slot.freedWhere _ ((b.closeReceiving t tb).slot n)) = _
  rw [Body.closeReceiving_slot t tb hw]
  rfl

/-- The purge list loses the documents that go. -/
theorem Body.closeReconciled_purges (t : Tables) (tb : Timebase) (hw : Table.wf Slot.free b.catalog) :
    (b.closeReconciled t tb).purges = b.purges.filter (fun n => !(b.doc n).any Document.goes) := by
  have hw1 := Body.closeReceiving_wf t tb hw
  have hdoc1 : ∀ n, (b.closeReceiving t tb).doc n = ((b.slot n).closedWhere t tb).doc := fun n =>
    congrArg Slot.doc (Body.closeReceiving_slot t tb hw n)
  have hdoc2 : ∀ n, ((b.closeReceiving t tb).freeWhere (fun d => d.leafCount == 0)).doc n =
      (((b.slot n).closedWhere t tb).freedWhere (fun d => d.leafCount == 0)).doc := fun n =>
    (congrArg Slot.doc (Body.freeWhere_slot hw1 _ n)).trans (by rw [hdoc1, Body.closeReceiving_slot t tb hw]; rfl)
  rw [Body.closeReconciled_eq, Body.freeWhere_purges (Body.freeWhere_wf hw1 _), Body.freeWhere_purges hw1,
    Body.closeReceiving_purges t tb hw, List.filter_filter, List.filter_filter]
  refine List.filter_congr fun n _ => ?_
  rw [hdoc1, hdoc2, show b.doc n = (b.slot n).doc from rfl]
  generalize b.slot n = v
  obtain ⟨g, o⟩ := v
  cases o with
  | none => rfl
  | some d =>
    have hdist : (DocState.distributing == DocState.purging) = false := rfl
    have hrec : (DocState.receiving == DocState.purging) = false := rfl
    by_cases hz : d.leafCount = 0
    · by_cases hr : d.state = .receiving <;>
        simp [Slot.closedWhere, Slot.freedWhere, Slot.closed, Document.goes, Slot.freed, hz, hr]
    · have hzb : (d.leafCount == 0) = false := beq_false_of_ne hz
      by_cases hr : d.state = .receiving
      · simp [Slot.closedWhere, Slot.freedWhere, Slot.closed, Document.goes, hz, hzb, hr, hdist, hrec,
          Document.kept_leafCount, Document.kept_state]
      · simp [Slot.closedWhere, Slot.freedWhere, Document.goes, hzb, hr]

/-- Closes and discards touch the catalog, the accounts and the purge list alone. -/
theorem Body.closeReconciled_frame (t : Tables) (tb : Timebase) (b : Body) : b.closeReconciled t tb = { b with
    catalog := (b.closeReconciled t tb).catalog, accounts := (b.closeReconciled t tb).accounts,
    purges := (b.closeReconciled t tb).purges } := by
  have hfold : ∀ {step : Body → Nat → Body}, (∀ c n, step c n = { c with
      catalog := (step c n).catalog, accounts := (step c n).accounts, purges := (step c n).purges }) →
      ∀ (l : List Nat) (c : Body), l.foldl step c = { c with
        catalog := (l.foldl step c).catalog, accounts := (l.foldl step c).accounts, purges := (l.foldl step c).purges } := by
    intro step h l
    induction l with
    | nil => exact fun _ => rfl
    | cons n l ih => intro c; rw [List.foldl_cons, ih, h c n]
  have hclose := hfold (step := fun c n => c.closeDocument t tb n .powerLoss) (fun c n => c.closeDocument_eq t tb n .powerLoss)
  have hfree := hfold (step := Body.freeSlot) (fun _ _ => rfl)
  have h1 : ∀ c : Body, c.closeReceiving t tb = { c with
      catalog := (c.closeReceiving t tb).catalog, accounts := (c.closeReceiving t tb).accounts,
      purges := (c.closeReceiving t tb).purges } := fun c => hclose _ c
  have h2 : ∀ (c : Body) p, c.freeWhere p = { c with
      catalog := (c.freeWhere p).catalog, accounts := (c.freeWhere p).accounts,
      purges := (c.freeWhere p).purges } := fun c p => hfree _ c
  rw [Body.closeReconciled_eq, h2, h2 (b.closeReceiving t tb), h1 b]

end

end Sys2Proof.Machine
end

section
/-! What a warm start leaves (R164 to R166, R100, R120, R170). -/

namespace Sys2Proof.Machine

section
variable {b : Body} {n : Nat} {d : Document}

/-! ### What a document keeps and loses -/

/-- The leaf slots of the loss: those removed that are not released. -/
def Body.lost (b : Body) (d : Document) : Nat := (b.lostSlots d).countP (fun v => v != .released)

theorem Document.reconcile_leafCount (b : Body) (d : Document) : (d.reconcile b).leafCount = (b.keptSlots d).flatten.length := by
  rw [Document.leafCount_slotsOf, Document.reconcile_pages, slotsOf_eq, truncatePages_keptSlots]

theorem Document.reconcile_unreleased (b : Body) (d : Document) :
    (d.reconcile b).unreleased = (b.keptSlots d).flatten.countP (fun v => v != .released) := by
  rw [Document.unreleased_slotsOf, Document.reconcile_pages, slotsOf_eq, truncatePages_keptSlots]

theorem Body.keptSlots_ne_nil {slots : List LeafSlot} (h : slots ∈ b.keptSlots d) : slots ≠ [] := by
  have := List.mem_takeWhile_imp h
  simpa using this

theorem Document.reconcile_empty (b : Body) (d : Document) :
    ((d.reconcile b).leafCount == 0) = (b.keptSlots d).isEmpty := by
  rw [Document.reconcile_leafCount]
  cases hk : b.keptSlots d with
  | nil => rfl
  | cons slots rest =>
    have hne : slots ≠ [] := Body.keptSlots_ne_nil (b := b) (d := d) (hk ▸ List.mem_cons_self)
    rw [List.flatten_cons, List.length_append]
    have hpos := List.length_pos_of_ne_nil hne
    exact beq_false_of_ne (by omega)

theorem Document.cursor_isNone_unreleased (d : Document) : d.cursor.isNone = (d.unreleased == 0) := by
  rw [Document.unreleased_leafSlots]
  unfold Document.cursor
  refine Bool.eq_iff_iff.mpr ?_
  rw [Option.isNone_iff_eq_none, List.find?_eq_none, beq_iff_eq, List.countP_eq_zero]

/-- A truncated document leaves its slot exactly where it does not stay. -/
theorem Document.reconcile_goes (b : Body) (d : Document) : (d.reconcile b).goes = !b.stays d := by
  have hcursor : (d.reconcile b).cursor.isNone = !(b.keptSlots d).flatten.any (fun v => v != .released) := by
    rw [Document.cursor_isNone_unreleased, Document.reconcile_unreleased]
    refine Bool.eq_iff_iff.mpr ?_
    rw [beq_iff_eq, List.countP_eq_zero, Bool.not_eq_true', List.any_eq_false]
  unfold Document.goes Body.stays
  rw [Document.reconcile_empty, Document.reconcile_state, hcursor]
  cases (b.keptSlots d).isEmpty <;> cases hs : (d.state == DocState.purging) <;> simp [bne, hs]

/-- Shares at a close do not see the charges before it. -/
theorem apportion_deductCharges (share extra lost : Nat) (os : List Obligation) :
    apportion share extra (deductCharges lost os) = apportion share extra os := by
  induction os generalizing extra lost with
  | nil => rfl
  | cons o os ih =>
    cases extra with
    | zero => exact congrArg ({ o with charge := share } :: ·) (ih _ _)
    | succ e => exact congrArg ({ o with charge := share + 1 } :: ·) (ih _ _)

end

/-! ### The document that stays -/

section
variable {b : Body} {n : Nat} {d : Document} (hl : Table.wf Leaf.blank b.leaves)
include hl

theorem Body.warmLeaves_lost (d : Document) :
    (removedSlots b.warmLeaves d.pages).countP (fun v => v != .released) = b.lost d := by
  rw [← Body.lostSlots_eq, Body.lostSlots_congr (Body.warmLeaves_keeps hl)]
  rfl

theorem Document.warm_pages (d : Document) : truncatePages b.warmLeaves d.pages = b.keptPages d := by
  rw [truncatePages_keptPages, Body.keptPages_congr (Body.warmLeaves_keeps hl)]

theorem Document.warm_purging (hs : d.state = .purging) : d.reconcile b.warmLeaves =
    { d with pages := b.keptPages d, retained := d.retained - b.lost d } := by
  rw [Document.reconcile_purging _ hs, Document.warm_pages hl, Body.warmLeaves_lost hl]

theorem Document.warm_owing (hs : d.state ≠ .purging) : d.reconcile b.warmLeaves = { d with
    pages := b.keptPages d, obligations := deductCharges (b.lost d) d.obligations,
    retained := d.retained - (b.lost d - (d.obligations.map (fun q => q.charge)).sum) } := by
  rw [Document.reconcile_owing _ hs, Document.warm_pages hl, Body.warmLeaves_lost hl]

theorem Document.warm_stays (d : Document) : (d.reconcile b.warmLeaves).goes = !b.stays d := by
  rw [Document.reconcile_goes]
  unfold Body.stays
  rw [Body.keptSlots_congr (Body.warmLeaves_keeps hl)]

theorem Document.warm_apportioned (hs : d.state ≠ .purging) :
    (d.reconcile b.warmLeaves).apportioned = ({ d with pages := b.keptPages d } : Document).apportioned := by
  have hlen : (d.reconcile b.warmLeaves).leafCount = ({ d with pages := b.keptPages d } : Document).leafCount := by
    unfold Document.leafCount
    rw [Document.reconcile_pages, Document.warm_pages hl]
  unfold Document.apportioned
  rw [hlen, Document.warm_owing hl hs]
  dsimp only
  rw [apportion_deductCharges, deductCharges_length]

end

/-! ### The catalog and the leaves after the start -/

section
variable {b : Body} {n : Nat} {d : Document} (t : Tables) (tb : Timebase)

/-- The body a warm start leaves before what waits for it. -/
def Body.warmed (t : Tables) (tb : Timebase) (b : Body) : Body := b.warmLeaves.truncate.closeReconciled t tb

theorem Body.warmLeaves_catalog (b : Body) : b.warmLeaves.catalog = b.catalog := by rw [Body.warmLeaves_frame]

theorem Body.warmLeaves_purges (b : Body) : b.warmLeaves.purges = b.purges := by rw [Body.warmLeaves_frame]

theorem Body.truncate_purges (b : Body) : b.truncate.purges = b.purges := by rw [Body.truncate_frame]

theorem Body.warmed_frame (b : Body) : b.warmed t tb = { b with
    sessions := [], buffers := [], ready := [], windows := [], leaves := (b.warmed t tb).leaves,
    banks := (b.warmed t tb).banks, purges := (b.warmed t tb).purges, catalog := (b.warmed t tb).catalog,
    accounts := (b.warmed t tb).accounts } := by
  unfold Body.warmed
  rw [Body.closeReconciled_frame, Body.truncate_frame, Body.warmLeaves_frame]

theorem Body.warmed_sessions (b : Body) : (b.warmed t tb).sessions = [] := by rw [Body.warmed_frame]

theorem Body.warmed_buffers (b : Body) : (b.warmed t tb).buffers = [] := by rw [Body.warmed_frame]

theorem Body.warmed_ready (b : Body) : (b.warmed t tb).ready = [] := by rw [Body.warmed_frame]

theorem Body.warmed_windows (b : Body) : (b.warmed t tb).windows = [] := by rw [Body.warmed_frame]

theorem Body.warmed_leaf (hl : Table.wf Leaf.blank b.leaves) (l : Nat) : (b.warmed t tb).leaf l =
    if l ∈ b.warmLeaves.droppedLeaves then ⟨.void, none, none⟩ else (b.leaf l).settled := by
  have hleaves : (b.warmed t tb).leaves = b.warmLeaves.truncate.leaves := by
    unfold Body.warmed
    rw [Body.closeReconciled_frame]
  rw [Body.leaf_congr hleaves, Body.truncate_leaf, Body.warmLeaves_leaf hl]

theorem Body.warmed_bank {k : Nat} (hk : k < 4) : (b.warmed t tb).bank k =
    ⟨(b.bank k).blank ++ b.listed k (fun st => st == .filling || st == .ready),
      b.listed k (fun st => st == .erasing) ++ (b.bank k).eraseQueue ++ b.listed k (fun st => st == .programming) ++
        b.listed k (fun st => st == .voiding) ++ b.warmLeaves.droppedLeaves.filter (fun l => l % 4 = k), [], .none⟩ := by
  have hbanks : (b.warmed t tb).banks = b.warmLeaves.truncate.banks := by
    unfold Body.warmed
    rw [Body.closeReconciled_frame]
  rw [Body.bank_congr hbanks, Body.truncate_bank, Body.warmLeaves_bank hk]

theorem Body.warm_wf (hw : Table.wf Slot.free b.catalog) : Table.wf Slot.free b.warmLeaves.catalog := by
  rw [Body.warmLeaves_catalog]; exact hw

theorem Body.mem_warmDropped (hl : Table.wf Leaf.blank b.leaves) (hw : Table.wf Slot.free b.catalog) {l : Nat} :
    l ∈ b.warmLeaves.droppedLeaves ↔
      (b.leaf l).state = .programmed ∧ ∃ n d, b.doc n = some d ∧ .placed l ∈ b.lostSlots d := by
  rw [Body.mem_droppedLeaves (Body.warm_wf hw), Body.warmLeaves_leaf hl, Leaf.settled_programmed]
  simp only [Body.lostSlots_congr (Body.warmLeaves_keeps hl), Body.doc_congr b.warmLeaves_catalog]

theorem Body.warmed_slot (hw : Table.wf Slot.free b.catalog) (n : Nat) : (b.warmed t tb).slot n =
    (⟨(b.slot n).generation, (b.doc n).map (Document.reconcile b.warmLeaves)⟩ : Slot).reconciled t tb := by
  unfold Body.warmed
  rw [Body.closeReconciled_slot t tb (Body.truncate_wf (Body.warm_wf hw)), Body.truncate_slot (Body.warm_wf hw),
    slot_congr b.warmLeaves_catalog, Body.doc_congr b.warmLeaves_catalog]

theorem Body.warmed_slot_none (hw : Table.wf Slot.free b.catalog) (hd : b.doc n = none) :
    (b.warmed t tb).slot n = b.slot n := by
  rw [Body.warmed_slot t tb hw, hd, b.slot_eq n, hd]
  rfl

theorem Body.warmed_slot_gone (hl : Table.wf Leaf.blank b.leaves) (hw : Table.wf Slot.free b.catalog) (hd : b.doc n = some d)
    (hs : b.stays d = false) : (b.warmed t tb).slot n = ⟨((b.slot n).generation + 1) % 256, none⟩ := by
  have hgoes : (d.reconcile b.warmLeaves).goes = true := by rw [Document.warm_stays hl, hs]; rfl
  rw [Body.warmed_slot t tb hw, hd]
  exact if_pos hgoes

/-- The document that a warm start leaves of one that stays. -/
def Document.warmed (t : Tables) (tb : Timebase) (b : Body) (d : Document) : Document :=
  if d.state = .receiving then (d.reconcile b.warmLeaves).kept t tb .powerLoss else d.reconcile b.warmLeaves

theorem Body.warmed_slot_stays (hl : Table.wf Leaf.blank b.leaves) (hw : Table.wf Slot.free b.catalog) (hd : b.doc n = some d)
    (hs : b.stays d = true) : (b.warmed t tb).slot n = ⟨(b.slot n).generation, some (d.warmed t tb b)⟩ := by
  have hgoes : (d.reconcile b.warmLeaves).goes = false := by rw [Document.warm_stays hl, hs]; rfl
  have hstate := Document.reconcile_state b.warmLeaves d
  rw [Body.warmed_slot t tb hw, hd]
  unfold Slot.reconciled Document.warmed
  dsimp only [Option.map_some]
  rw [hgoes, hstate, if_neg Bool.false_ne_true]
  split_ifs <;> rfl

theorem Body.warmed_purges (hl : Table.wf Leaf.blank b.leaves) (hw : Table.wf Slot.free b.catalog) :
    (b.warmed t tb).purges = b.purges.filter (fun n => ((b.doc n).map b.stays).getD true) := by
  unfold Body.warmed
  rw [Body.closeReconciled_purges t tb (Body.truncate_wf (Body.warm_wf hw)), Body.truncate_purges, Body.warmLeaves_purges]
  refine List.filter_congr fun n _ => ?_
  rw [Body.truncate_doc (Body.warm_wf hw), Body.doc_congr b.warmLeaves_catalog]
  cases b.doc n with
  | none => rfl
  | some d =>
    change (!(d.reconcile b.warmLeaves).goes) = b.stays d
    rw [Document.warm_stays hl, Bool.not_not]

/-! ### The counts -/

theorem Body.slotsWhere_truncate_length (hw : Table.wf Slot.free b.catalog) (p : Document → Bool) :
    (b.truncate.slotsWhere p).length = b.documents.countP (fun e => p (e.2.reconcile b)) := by
  unfold Body.slotsWhere
  rw [List.length_map, ← List.countP_eq_length_filter, Body.truncate_documents hw, List.countP_map]
  rfl

theorem Body.warm_documents (b : Body) : b.warmLeaves.documents = b.documents := documents_congr b.warmLeaves_catalog

theorem Body.warm_closedCount (hw : Table.wf Slot.free b.catalog) :
    (b.warmLeaves.truncate.slotsWhere (fun d => d.state == .receiving)).length =
      b.documents.countP (fun e => e.2.state == .receiving) := by
  rw [Body.slotsWhere_truncate_length (Body.warm_wf hw), Body.warm_documents]
  simp only [Document.reconcile_state]

theorem Body.warm_discardedCount (hl : Table.wf Leaf.blank b.leaves) (hw : Table.wf Slot.free b.catalog) :
    (b.warmLeaves.truncate.slotsWhere (fun d => d.leafCount == 0)).length =
      b.documents.countP (fun e => (b.keptSlots e.2).isEmpty) := by
  rw [Body.slotsWhere_truncate_length (Body.warm_wf hw), Body.warm_documents]
  simp only [Document.reconcile_empty, Body.keptSlots_congr (Body.warmLeaves_keeps hl)]

theorem Body.warm_removedCount (hl : Table.wf Leaf.blank b.leaves) :
    b.warmLeaves.removedCount = (b.documents.map (fun e => (b.lostSlots e.2).length)).sum := by
  unfold Body.removedCount
  rw [Body.warm_documents]
  simp only [← Body.lostSlots_eq, Body.lostSlots_congr (Body.warmLeaves_keeps hl)]

end

end Sys2Proof.Machine
end

section
/-! A warm start keeps what reached flash: the statement (R164 to R166, R170). -/

namespace Sys2Proof.Machine

section
variable {b : Body} {n : Nat} {d : Document}

/-- The document that stays, by what it was (R165, R166, R120, R8, R9). -/
theorem Document.warmed_facts (t : Tables) (tb : Timebase) (hl : Table.wf Leaf.blank b.leaves) (d : Document) :
    let cut := { d with pages := b.keptPages d }
    let f := d.warmed t tb b
    (d.state = .purging → f = { cut with retained := d.retained - b.lost d }) ∧
    (d.state = .distributing ∨ d.state = .retained →
      f = { cut with obligations := f.obligations, retained := f.retained } ∧
      f.obligations.length = d.obligations.length ∧
      ∀ (j : Nat) (o : Obligation), d.obligations[j]? = some o → f.obligations[j]? = some { o with
        charge := o.charge - (b.lost d - ((d.obligations.take j).map (fun q => q.charge)).sum) }) ∧
    (d.state ≠ .purging → f.retained = d.retained - (b.lost d - (d.obligations.map (fun q => q.charge)).sum)) ∧
    (d.state = .receiving →
      f = { d with state := .distributing, ending := some .powerLoss, session := none,
                   receipt := some ⟨tb.clock, tb.trusted⟩, pages := f.pages, obligations := f.obligations,
                   retained := f.retained, base := f.base, departments := f.departments,
                   retainUntil := f.retainUntil } ∧
      f.pages = cut.pages.dropLast ++ (cut.pages.getLast?.map Page.cut).toList ∧
      f.obligations = cut.apportioned.map
        (fun o => { o with deadline := t.deadline o.department o.kind tb.run }) ∧
      (∀ x, x ∈ f.departments ↔ ∃ o ∈ d.obligations, o.department = x) ∧
      (tb.trusted = true → f.base = .known tb.clock ∧ f.retainUntil = .known
        (min (tb.clock + t.longestRetention f.departments * 5529600) 281474976710655)) ∧
      (tb.trusted = false → f.base = .pending ∧ f.retainUntil = .pending)) := by
  dsimp only
  have hplain : d.state ≠ .receiving → d.warmed t tb b = d.reconcile b.warmLeaves := fun h => if_neg h
  have hclosed : d.state = .receiving → d.warmed t tb b = (d.reconcile b.warmLeaves).kept t tb .powerLoss := fun h => if_pos h
  refine ⟨fun hs => ?_, fun hs => ?_, fun hs => ?_, fun hs => ?_⟩
  · rw [hplain (by rw [hs]; nofun), Document.warm_purging hl hs]
  · rw [hplain (by rcases hs with hs | hs <;> rw [hs] <;> nofun),
      Document.warm_owing hl (by rcases hs with hs | hs <;> rw [hs] <;> nofun)]
    refine ⟨rfl, deductCharges_length _ _, fun j o hj => ?_⟩
    dsimp only
    rw [deductCharges_getElem?, hj]
    rfl
  · by_cases hr : d.state = .receiving
    · have hkept := (Document.closedAs_kept t tb (d.reconcile b.warmLeaves) .powerLoss).1
      rw [hclosed hr, hkept, Document.warm_owing hl hs]
    · rw [hplain hr, Document.warm_owing hl hs]
  · have hp : d.state ≠ .purging := by rw [hs]; nofun
    obtain ⟨hf, hpages, hobl, hdept, htrue, hfalse⟩ := Document.closedAs_kept t tb (d.reconcile b.warmLeaves) .powerLoss
    have hcut := Document.warm_owing hl hp
    have howes : ∀ x, (∃ o ∈ (d.reconcile b.warmLeaves).obligations, o.department = x) ↔
        ∃ o ∈ d.obligations, o.department = x := fun x => by
      have h := Document.reconcile_departments b.warmLeaves d
      rw [← List.mem_map, ← List.mem_map, h]
    rw [hclosed hs]
    refine ⟨?_, ?_, ?_, fun x => (hdept x).trans (howes x), htrue, hfalse⟩
    · conv_lhs => rw [hf, hcut]
      rw [hf, hcut]
    · rw [hpages, hcut]
    · rw [hobl, Document.warm_apportioned hl hp]

end

section
variable {s : State}

theorem State.reconcile_recovery (s : State) : s.reconcile.recovery = { s.recovery with
    part := s.recovery.afterStart, mark := true,
    warmClosed := (s.body.warmLeaves.truncate.slotsWhere (fun d => d.state == .receiving)).length,
    warmDiscarded := (s.body.warmLeaves.truncate.slotsWhere (fun d => d.leafCount == 0)).length,
    warmRemoved := s.body.warmLeaves.removedCount } := by
  unfold State.reconcile
  dsimp only

theorem State.reconcile_others (s : State) :
    s.reconcile = { s with body := s.reconcile.body, recovery := s.reconcile.recovery } := by
  unfold State.reconcile
  dsimp only

/-- Settles O58: the leaf states, the truncation with its loss, the closes and discards, and what waits for the part, one
after another. -/
theorem warmStartKeepsWhatReachedFlash : Obligations.WarmStartKeepsWhatReachedFlash := by
  intro s hp hl hw
  have hbody : s.quiet.reconcile.body = s.body.warmed s.tables s.time := State.reconcile_body s.quiet
  have hrecovery := State.reconcile_recovery s.quiet
  have hothers := State.reconcile_others s.quiet
  have hexec : exec .warmStartComplete s = .next s.quiet.reconcile.resume := if_pos hp
  have hworks : s.quiet.reconcile.recovery.part.works = true := by
    rw [State.reconcile_part]
    exact Recovery.afterStart_works _
  have hlaw : s.body.chargesLawful → (s.body.warmed s.tables s.time).chargesLawful := fun h =>
    h.warmLeaves.truncate.closeReconciled s.tables s.time
  have hframe := Body.warmed_frame s.tables s.time s.body
  have hsessions := Body.warmed_sessions s.tables s.time s.body
  have hbuffers := Body.warmed_buffers s.tables s.time s.body
  have hdropped := fun l => Body.mem_warmDropped (l := l) hl hw
  have hleaf := Body.warmed_leaf s.tables s.time hl
  dsimp only
  refine ⟨s.quiet.reconcile, s.quiet.reconcile.resume, hexec, State.resume_resumed hworks, hothers, ?recovery, ?sessions, ?buffers,
    ?ready, ?windows, ?frame, ?purges, ?leaves, ?banks, ?absent, ?gone, ?stays, ?accounts⟩
  all_goals generalize s.quiet.reconcile = v at *
  case recovery =>
    rw [hrecovery, ← Body.warm_closedCount hw, ← Body.warm_discardedCount hl hw, ← Body.warm_removedCount hl]
    rfl
  all_goals rw [hbody]
  case sessions => exact Body.session_of_nil hsessions
  case buffers =>
    intro i
    unfold Body.buffer
    rw [hbuffers]
    rfl
  case ready => exact Body.warmed_ready s.tables s.time s.body
  case windows => exact Body.warmed_windows s.tables s.time s.body
  case frame => rw [hsessions, hbuffers]; exact hframe
  case purges => exact Body.warmed_purges s.tables s.time hl hw
  case leaves =>
    intro l
    rw [hleaf l]
    refine ⟨fun h => ?_, fun h => ?_, fun h => ?_⟩
    · rw [if_neg fun hm => ?_, Leaf.settled_unwritten h]
      rcases h with h | h <;> exact absurd (h.symm.trans ((hdropped l).mp hm).1) nofun
    · by_cases hm : l ∈ s.body.warmLeaves.droppedLeaves
      · rw [if_pos hm]
      · rw [if_neg hm]
        rcases h with h | h | h | h
        · exact Leaf.settled_interrupted (.inl h)
        · exact Leaf.settled_interrupted (.inr (.inl h))
        · exact Leaf.settled_interrupted (.inr (.inr h))
        · exact absurd ((hdropped l).mpr h) hm
    · rw [if_neg fun hm => ?_, Leaf.settled_stays]
      · rcases h with ⟨h, _⟩ | h
        · exact .inl h
        · exact .inr h
      · have hdrop := (hdropped l).mp hm
        rcases h with ⟨_, h⟩ | h | h | h
        · exact h hdrop
        all_goals exact absurd (h.symm.trans hdrop.1) nofun
  case banks =>
    intro k hk
    refine ⟨s.body.warmLeaves.droppedLeaves.filter (fun l => l % 4 = k), (Body.droppedLeaves_pairwise _).filter _, fun l => ?_,
      Body.warmed_bank s.tables s.time hk⟩
    rw [List.mem_filter, hdropped, decide_eq_true_eq]
    exact and_comm
  case absent => exact fun n hn => Body.warmed_slot_none s.tables s.time hw hn
  case gone => exact fun n d hd hs => Body.warmed_slot_gone s.tables s.time hl hw hd hs
  case stays =>
    exact fun n d hd hs => ⟨d.warmed s.tables s.time s.body, Body.warmed_slot_stays s.tables s.time hl hw hd hs,
      d.warmed_facts s.tables s.time hl⟩
  case accounts => exact fun h x => (hlaw h).account x
end

end Sys2Proof.Machine
end

section
/-! Which valid leaves the rebuild keeps: the grouping of R168 in terms of what the spare areas read as. -/

namespace Sys2Proof.Machine

/-! ### Valid leaves -/

section
variable {f : Flash} {q page index l : Nat} {h : LeafHeader} {e : Found}

/-- In a canonical array the valid leaves are those whose spare area reads as valid. -/
theorem Flash.mem_valid_iff (hf : Table.wf Spare.erased f.spare) : (l, h) ∈ f.valid ↔ f.validAt l h := by
  rw [Flash.mem_valid]
  constructor
  · rintro ⟨v, hm, hv⟩
    have hread : f.spareOf l = v := ((Table.mem_iff_read hf l v).mp hm).2
    unfold Flash.validAt
    rw [hread]
    exact hv
  · intro hv
    refine ⟨f.spareOf l, (Table.mem_iff_read hf l _).mpr ⟨fun he => ?_, rfl⟩, hv⟩
    unfold Flash.validAt Spare.classOf at hv
    rw [if_pos he] at hv
    cases hv

theorem Flash.valid_pairwise (hf : Table.wf Spare.erased f.spare) : f.valid.Pairwise (fun e g => e.1 < g.1) := by
  unfold Flash.valid
  rw [List.pairwise_filterMap]
  refine hf.1.imp fun {x y} hxy e he g hg => ?_
  have hfst : ∀ (z : Nat × Spare) (w : Found), (match z.2.classOf with
      | .valid h => some (z.1, h)
      | .erased | .voidMarked | .unreadable => none) = some w → w.1 = z.1 := by
    intro z w hw
    split at hw
    · cases hw; rfl
    all_goals cases hw
  rw [hfst x e he, hfst y g hg]
  exact hxy

theorem Flash.validAt_inj {g : LeafHeader} (hh : f.validAt l h) (hg : f.validAt l g) : h = g := by
  unfold Flash.validAt at hh hg
  rw [hh] at hg
  exact LeafClass.valid.inj hg

/-- The ranges of a valid header's page and index (R184). -/
theorem readHeader_place {words : List Word} (hh : readHeader words = some h) :
    1 ≤ h.page ∧ h.page ≤ 999 ∧ h.index < 64 := by
  have hlt : ∀ bits : List Bool, numberOf (bits.take 6) < 64 := fun bits =>
    (numberOf_lt _).trans_le (Nat.pow_le_pow_right (by omega) (List.length_take_le 6 bits))
  unfold readHeader at hh
  dsimp only at hh
  simp only [readFields, headerWidths] at hh
  split_ifs at hh with _ _ hrange
  all_goals
    revert hh
    split <;> intro hh <;> cases hh <;> exact ⟨hrange.2.1, hrange.2.2.1, hlt _⟩

theorem Flash.validAt_place (hv : f.validAt l h) : 1 ≤ h.page ∧ h.page ≤ 999 ∧ h.index < 64 :=
  readHeader_place (Spare.classOf_valid hv)

/-! ### Lists in rising leaf order -/

theorem head_least {l : List Found} (hl : l.Pairwise (fun e g => e.1 < g.1)) {e : Found} (he : l.head? = some e) {g : Found}
    (hg : g ∈ l) : e.1 ≤ g.1 := by
  cases l with
  | nil => cases he
  | cons a l =>
    cases he
    rcases List.mem_cons.mp hg with rfl | hg
    · exact le_rfl
    · exact ((List.pairwise_cons.mp hl).1 g hg).le

/-- The first that meets a condition is the lowest that does. -/
theorem find_iff_least {l : List Found} (hl : l.Pairwise (fun e g => e.1 < g.1)) (p : Found → Bool) {e : Found} :
    l.find? p = some e ↔ e ∈ l ∧ p e = true ∧ ∀ g ∈ l, p g = true → e.1 ≤ g.1 := by
  rw [← List.head?_filter]
  have hsub : (l.filter p).Pairwise (fun e g => e.1 < g.1) := hl.filter p
  constructor
  · intro he
    obtain ⟨hm, hp⟩ := List.mem_filter.mp (List.mem_of_head? he)
    exact ⟨hm, hp, fun g hg hpg => head_least hsub he (List.mem_filter.mpr ⟨hg, hpg⟩)⟩
  · rintro ⟨hm, hp, hleast⟩
    have hmem := List.mem_filter.mpr ⟨hm, hp⟩
    cases hfl : l.filter p with
    | nil => rw [hfl] at hmem; cases hmem
    | cons a t =>
      have ha := List.mem_filter.mp (show a ∈ l.filter p by rw [hfl]; exact List.mem_cons_self)
      have hle := hleast a ha.1 ha.2
      rw [hfl] at hmem hsub
      rcases List.mem_cons.mp hmem with rfl | hmem
      · rfl
      · exact absurd ((List.pairwise_cons.mp hsub).1 e hmem) hle.not_gt

theorem foldl_max_le (l : List Nat) (a : Nat) : a ≤ l.foldl max a ∧ ∀ x ∈ l, x ≤ l.foldl max a := by
  induction l generalizing a with
  | nil => exact ⟨le_rfl, nofun⟩
  | cons y l ih =>
    obtain ⟨h1, h2⟩ := ih (max a y)
    rw [List.foldl_cons]
    refine ⟨(le_max_left a y).trans h1, fun x hx => ?_⟩
    rcases List.mem_cons.mp hx with rfl | hx
    · exact (le_max_right a x).trans h1
    · exact h2 x hx

theorem foldl_max_mem (l : List Nat) (a : Nat) : l.foldl max a = a ∨ l.foldl max a ∈ l := by
  induction l generalizing a with
  | nil => exact .inl rfl
  | cons y l ih =>
    rw [List.foldl_cons]
    rcases ih (max a y) with h | h
    · rw [h]
      rcases max_choice a y with hm | hm
      · exact .inl hm
      · exact .inr (by rw [hm]; exact List.mem_cons_self)
    · exact .inr (List.mem_cons_of_mem _ h)

/-! ### One call per serial (R168 step 1) -/

/-- The valid leaves of the call that a serial stands for. -/
def Flash.call (f : Flash) (q : Nat) : List Found := oneCall (f.valid.filter (fun e => e.2.serial == q))

theorem mem_oneCall {group : List Found} (hg : group.Pairwise (fun e g => e.1 < g.1)) {e : Found} : e ∈ oneCall group ↔
    e ∈ group ∧ (∀ g ∈ group, g.2.openTime ≤ e.2.openTime) ∧
      ∀ g ∈ group, g.2.openTime = e.2.openTime → (∀ i ∈ group, i.2.openTime = e.2.openTime → g.1 ≤ i.1) →
        e.2.slot = g.2.slot ∧ e.2.generation = g.2.generation := by
  unfold oneCall
  dsimp only
  set latest := (group.map (fun e => e.2.openTime)).foldl max 0 with hlatest
  have hle : ∀ g ∈ group, g.2.openTime ≤ latest := fun g hgm =>
    (foldl_max_le _ 0).2 _ (List.mem_map_of_mem (f := fun e : Found => e.2.openTime) hgm)
  have hattained : ∀ g ∈ group, (∀ i ∈ group, i.2.openTime ≤ g.2.openTime) → g.2.openTime = latest := fun g hgm hmax => by
    refine le_antisymm (hle g hgm) ?_
    rcases foldl_max_mem (group.map (fun e => e.2.openTime)) 0 with h0 | hm
    · rw [hlatest, h0]; exact Nat.zero_le _
    · obtain ⟨i, hi, hit⟩ := List.mem_map.mp hm
      rw [hlatest, ← hit]
      exact hmax i hi
  have htimed : ∀ g, g ∈ group.filter (fun e => e.2.openTime == latest) ↔ g ∈ group ∧ g.2.openTime = latest := fun g => by
    rw [List.mem_filter, beq_iff_eq]
  have hsub := hg.filter (fun e : Found => e.2.openTime == latest)
  split
  · rename_i hnil
    constructor
    · exact fun h => by cases h
    · rintro ⟨hm, hmax, _⟩
      have := (htimed e).mpr ⟨hm, hattained e hm hmax⟩
      rw [hnil] at this
      cases this
  · rename_i a t hcons
    have hhead : (group.filter (fun e => e.2.openTime == latest)).head? = some a := by rw [hcons]; rfl
    obtain ⟨ha, hat⟩ := (htimed a).mp (List.mem_of_head? hhead)
    rw [List.mem_filter, htimed, Bool.and_eq_true, beq_iff_eq, beq_iff_eq]
    constructor
    · rintro ⟨⟨hm, ht⟩, hs⟩
      refine ⟨hm, fun g hgm => ht ▸ hle g hgm, fun g hgm hgt hleast => ?_⟩
      have h1 := head_least hsub hhead ((htimed g).mpr ⟨hgm, hgt.trans ht⟩)
      have h2 := hleast a ha (hat.trans ht.symm)
      have hag : g = a := by
        by_contra hne
        have hlt : g.1 ≠ a.1 := fun heq => by
          rcases (List.pairwise_iff_getElem.mp hg) with hpw
          obtain ⟨i, hi, rfl⟩ := List.getElem_of_mem hgm
          obtain ⟨j, hj, rfl⟩ := List.getElem_of_mem ha
          rcases lt_trichotomy i j with hij | hij | hij
          · exact (hpw i j hi hj hij).ne heq
          · subst hij; exact hne rfl
          · exact (hpw j i hj hi hij).ne' heq
        omega
      rw [hag]
      exact hs
    · rintro ⟨hm, hmax, hlow⟩
      have ht := hattained e hm hmax
      refine ⟨⟨hm, ht⟩, hlow a ha (hat.trans ht.symm) fun i hi hit => ?_⟩
      exact head_least hsub hhead ((htimed i).mpr ⟨hi, hit.trans ht⟩)

theorem Flash.call_pairwise (hf : Table.wf Spare.erased f.spare) (q : Nat) :
    (f.call q).Pairwise (fun e g => e.1 < g.1) := by
  have hsub : ∀ group : List Found, (oneCall group).Sublist group := fun group => by
    unfold oneCall
    dsimp only
    split
    · exact List.nil_sublist _
    · exact List.filter_sublist.trans List.filter_sublist
  exact ((Flash.valid_pairwise hf).filter _).sublist (hsub _)

theorem Flash.mem_call (hf : Table.wf Spare.erased f.spare) : (l, h) ∈ f.call q ↔ f.ofCall q l h := by
  have hmem : ∀ m g, (m, g) ∈ f.valid.filter (fun e => e.2.serial == q) ↔ f.validAt m g ∧ g.serial = q := fun m g => by
    rw [List.mem_filter, Flash.mem_valid_iff hf, beq_iff_eq]
  unfold Flash.call Flash.ofCall
  rw [mem_oneCall ((Flash.valid_pairwise hf).filter _), hmem, and_assoc]
  refine and_congr_right fun _ => and_congr_right fun _ => and_congr ?_ ?_
  · exact ⟨fun hmax m g hv hs => hmax (m, g) ((hmem m g).mpr ⟨hv, hs⟩), fun hmax g hg => by
      obtain ⟨hv, hs⟩ := (hmem g.1 g.2).mp hg
      exact hmax g.1 g.2 hv hs⟩
  · constructor
    · intro hlow m g hv hs ht hleast
      refine hlow (m, g) ((hmem m g).mpr ⟨hv, hs⟩) ht fun i hi hit => ?_
      obtain ⟨hiv, his⟩ := (hmem i.1 i.2).mp hi
      exact hleast i.1 i.2 hiv his hit
    · intro hlow g hg ht hleast
      obtain ⟨hv, hs⟩ := (hmem g.1 g.2).mp hg
      exact hlow g.1 g.2 hv hs ht fun j i hiv his hit => hleast (j, i) ((hmem j i).mpr ⟨hiv, his⟩) hit

/-! ### The leaf of a place, and the pages (R168 steps 2 to 4) -/

theorem Flash.leafAt_iff (hf : Table.wf Spare.erased f.spare) :
    leafAt (f.call q) page index = some (l, h) ↔ f.foundAt q page index l h := by
  unfold leafAt Flash.foundAt
  rw [find_iff_least (Flash.call_pairwise hf q), Flash.mem_call hf, Bool.and_eq_true, beq_iff_eq, beq_iff_eq, and_assoc]
  refine and_congr_right fun _ => and_congr_right fun _ => and_congr_right fun _ => ?_
  constructor
  · intro hleast m g hc hp hi
    exact hleast (m, g) ((Flash.mem_call hf).mpr hc) (by rw [Bool.and_eq_true, beq_iff_eq, beq_iff_eq]; exact ⟨hp, hi⟩)
  · intro hleast g hg hpi
    rw [Bool.and_eq_true, beq_iff_eq, beq_iff_eq] at hpi
    exact hleast g.1 g.2 ((Flash.mem_call hf).mp hg) hpi.1 hpi.2

/-- A page's leaves: those found one after another, up to a missing index or a final-leaf mark. -/
theorem pageLeaves_getElem? (group : List Found) (page fuel index x : Nat) :
    (pageLeaves group page fuel index)[x]? = some e ↔ x < fuel ∧ leafAt group page (index + x) = some e ∧
      ∀ y, y < x → ∃ g, leafAt group page (index + y) = some g ∧ g.2.final = 0 := by
  induction fuel generalizing index x with
  | zero => simp [pageLeaves]
  | succ fuel ih =>
    unfold pageLeaves
    cases ha : leafAt group page index with
    | none =>
      dsimp only
      constructor
      · intro he; cases he
      · rintro ⟨_, he, hbefore⟩
        cases x with
        | zero => rw [Nat.add_zero, ha] at he; cases he
        | succ x =>
          obtain ⟨g, hg, _⟩ := hbefore 0 (Nat.succ_pos x)
          rw [Nat.add_zero, ha] at hg
          cases hg
    | some a =>
      dsimp only
      cases x with
      | zero =>
        have hzero : (if a.2.final = 0 then a :: pageLeaves group page fuel (index + 1) else [a])[0]? = some a := by
          split_ifs <;> rfl
        rw [hzero, Nat.add_zero index, ha]
        exact ⟨fun he => ⟨Nat.succ_pos _, he, fun y hy => absurd hy (Nat.not_lt_zero y)⟩, fun he => he.2.1⟩
      | succ x =>
        by_cases hfin : a.2.final = 0
        · rw [if_pos hfin, List.getElem?_cons_succ, ih, Nat.add_assoc, Nat.add_comm 1 x]
          refine and_congr Nat.succ_lt_succ_iff.symm (and_congr_right fun _ => ?_)
          constructor
          · intro hbefore y hy
            cases y with
            | zero => exact ⟨a, ha, hfin⟩
            | succ y =>
              obtain ⟨g, hg, hg0⟩ := hbefore y (by omega)
              exact ⟨g, by rw [← hg, Nat.add_assoc, Nat.add_comm 1 y], hg0⟩
          · intro hbefore y hy
            obtain ⟨g, hg, hg0⟩ := hbefore (y + 1) (by omega)
            exact ⟨g, by rw [← hg, Nat.add_assoc, Nat.add_comm 1 y], hg0⟩
        · rw [if_neg hfin]
          constructor
          · intro he; cases he
          · rintro ⟨_, _, hbefore⟩
            obtain ⟨g, hg, hg0⟩ := hbefore 0 (Nat.succ_pos x)
            rw [Nat.add_zero, ha] at hg
            cases hg
            exact absurd hg0 hfin

theorem pageLeaves_eq_nil (group : List Found) (page fuel : Nat) (hfuel : 0 < fuel) :
    pageLeaves group page fuel 0 = [] ↔ leafAt group page 0 = none := by
  obtain ⟨fuel, rfl⟩ := Nat.exists_eq_succ_of_ne_zero hfuel.ne'
  unfold pageLeaves
  cases leafAt group page 0 with
  | none => simp
  | some a => dsimp only; split_ifs <;> simp

/-- A document's pages: those that keep a leaf, up to the first that keeps none. -/
theorem groupPages_getElem? (group : List Found) (fuel page j : Nat) (leaves : List Found) :
    (groupPages group fuel page)[j]? = some leaves ↔ j < fuel ∧ pageLeaves group (page + j) Config.pageSlots 0 = leaves ∧
      ∀ i, i ≤ j → pageLeaves group (page + i) Config.pageSlots 0 ≠ [] := by
  induction fuel generalizing page j with
  | zero => simp [groupPages]
  | succ fuel ih =>
    unfold groupPages
    cases ha : pageLeaves group page Config.pageSlots 0 with
    | nil =>
      dsimp only
      constructor
      · intro he; cases he
      · rintro ⟨_, _, hbefore⟩
        exact absurd ha (hbefore 0 (Nat.zero_le j))
    | cons a t =>
      dsimp only
      cases j with
      | zero =>
        rw [List.getElem?_cons_zero, Nat.add_zero page, ha, Option.some_inj]
        refine ⟨fun he => ⟨Nat.succ_pos _, he, fun i hi => ?_⟩, fun he => he.2.1⟩
        rw [Nat.le_zero.mp hi, Nat.add_zero, ha]
        exact List.cons_ne_nil a t
      | succ j =>
        rw [List.getElem?_cons_succ, ih, Nat.add_assoc, Nat.add_comm 1 j]
        refine and_congr Nat.succ_lt_succ_iff.symm (and_congr_right fun _ => ?_)
        constructor
        · intro hbefore i hi
          cases i with
          | zero => rw [Nat.add_zero, ha]; exact List.cons_ne_nil a t
          | succ i =>
            have := hbefore i (by omega)
            rwa [Nat.add_assoc, Nat.add_comm 1 i] at this
        · intro hbefore i hi
          have := hbefore (i + 1) (by omega)
          rwa [Nat.add_assoc, Nat.add_comm 1 i]

/-- What the rebuild keeps of one serial, place by place. -/
theorem Flash.rebuildGroup_getElem? (hf : Table.wf Spare.erased f.spare) (j x : Nat) :
    (∃ leaves, (rebuildGroup f.valid q)[j]? = some leaves ∧ leaves[x]? = some (l, h)) ↔
      f.foundAt q (j + 1) x l h ∧ (∀ y, y < x → ∃ m g, f.foundAt q (j + 1) y m g ∧ g.final = 0) ∧
        ∀ p, 1 ≤ p → p < j + 1 → ∃ m g, f.foundAt q p 0 m g := by
  have hpage : ∀ p, pageLeaves (f.call q) p Config.pageSlots 0 ≠ [] ↔ ∃ m g, f.foundAt q p 0 m g := fun p => by
    rw [Ne, pageLeaves_eq_nil _ _ _ (by decide), ← Ne, Option.ne_none_iff_exists']
    exact ⟨fun ⟨e, he⟩ => ⟨e.1, e.2, (Flash.leafAt_iff hf).mp he⟩, fun ⟨m, g, hg⟩ => ⟨(m, g), (Flash.leafAt_iff hf).mpr hg⟩⟩
  have hgroup : rebuildGroup f.valid q = groupPages (f.call q) Config.pageLimit 1 := rfl
  have hslots : Config.pageSlots = 64 := rfl
  have hlimit : Config.pageLimit = 999 := rfl
  simp only [hgroup, groupPages_getElem?, hpage]
  constructor
  · rintro ⟨leaves, ⟨_, rfl, hpages⟩, hx⟩
    rw [pageLeaves_getElem?] at hx
    obtain ⟨_, hat, hbefore⟩ := hx
    rw [Nat.zero_add, Nat.add_comm 1 j, Flash.leafAt_iff hf] at hat
    refine ⟨hat, fun y hy => ?_, fun p h1 hp => ?_⟩
    · obtain ⟨g, hg, hg0⟩ := hbefore y hy
      rw [Nat.zero_add, Nat.add_comm 1 j] at hg
      exact ⟨g.1, g.2, (Flash.leafAt_iff hf).mp hg, hg0⟩
    · have := hpages (p - 1) (by omega)
      rwa [show 1 + (p - 1) = p by omega] at this
  · rintro ⟨hat, hbefore, hpages⟩
    have hplace := Flash.validAt_place hat.1.1
    have hpageEq := hat.2.1
    have hindexEq := hat.2.2.1
    refine ⟨_, ⟨by omega, rfl, fun i hi => ?_⟩, (pageLeaves_getElem? _ _ _ _ _).mpr ⟨by omega, ?_, fun y hy => ?_⟩⟩
    · rcases Nat.lt_or_eq_of_le hi with hi | rfl
      · exact hpages (1 + i) (by omega) (by omega)
      · cases x with
        | zero => exact ⟨l, h, by rw [Nat.add_comm 1 i]; exact hat⟩
        | succ x =>
          obtain ⟨m, g, hg, _⟩ := hbefore 0 (Nat.succ_pos x)
          exact ⟨m, g, by rw [Nat.add_comm 1 i]; exact hg⟩
    · rw [Nat.zero_add, Nat.add_comm 1 j, Flash.leafAt_iff hf]; exact hat
    · obtain ⟨m, g, hg, hg0⟩ := hbefore y hy
      exact ⟨(m, g), by rw [Nat.zero_add, Nat.add_comm 1 j, Flash.leafAt_iff hf]; exact hg, hg0⟩

end

end Sys2Proof.Machine
end

section
/-! The groups that the rebuild keeps, the places it gives their leaves, and the scan of the rest (R101, R168, R169). -/

namespace Sys2Proof.Machine

/-! ### The kept groups -/

/-- The groups of a rebuild: in rising serial order, each of pages with leaves, place by place those of R168, and every serial
that fits. -/
structure KeptGroups (f : Flash) (groups : List Group) : Prop where
  rising : groups.Pairwise (fun g k => g.1 < k.1)
  limit : groups.length ≤ 4096
  pages : ∀ g ∈ groups, g.2 ≠ []
  leaves : ∀ g ∈ groups, ∀ p ∈ g.2, p ≠ []
  places : ∀ g ∈ groups, ∀ j x l h, (∃ p, g.2[j]? = some p ∧ p[x]? = some (l, h)) ↔
    f.foundAt g.1 (j + 1) x l h ∧ (∀ y, y < x → ∃ m i, f.foundAt g.1 (j + 1) y m i ∧ i.final = 0) ∧
      ∀ p, 1 ≤ p → p < j + 1 → ∃ m i, f.foundAt g.1 p 0 m i
  fits : ∀ q l, f.keptAt q 1 0 l →
    (∀ higher : List Nat, higher.Nodup → (∀ r ∈ higher, q < r ∧ ∃ m, f.keptAt r 1 0 m) → higher.length < 4096) →
    ∃ g ∈ groups, g.1 = q

section
variable {f : Flash} {q l : Nat}

theorem mem_rebuildGroup_ne_nil (found : List Found) (q : Nat) : ∀ p ∈ rebuildGroup found q, p ≠ [] := by
  intro p hp
  obtain ⟨j, hj⟩ := List.mem_iff_getElem?.mp hp
  unfold rebuildGroup at hj
  obtain ⟨_, rfl, hpages⟩ := (groupPages_getElem? _ _ _ _ _).mp hj
  exact hpages j le_rfl

theorem Flash.keptAt_first : f.keptAt q 1 0 l ↔ ∃ h, f.foundAt q 1 0 l h := by
  unfold Flash.keptAt
  exact ⟨fun ⟨h, _⟩ => h, fun h => ⟨h, fun x hx => absurd hx (Nat.not_lt_zero x), fun p h1 hp => absurd hp (by omega)⟩⟩

/-- A serial keeps a page exactly where its call has a leaf for page 1 index 0. -/
theorem Flash.rebuildGroup_ne_nil (hf : Table.wf Spare.erased f.spare) :
    rebuildGroup f.valid q ≠ [] ↔ ∃ l, f.keptAt q 1 0 l := by
  have hplace := fun l h => Flash.rebuildGroup_getElem? (q := q) (l := l) (h := h) hf 0 0
  constructor
  · intro hne
    obtain ⟨p, ps, hg⟩ := List.exists_cons_of_ne_nil hne
    have hp := mem_rebuildGroup_ne_nil f.valid q p (hg ▸ List.mem_cons_self)
    obtain ⟨e, es, rfl⟩ := List.exists_cons_of_ne_nil hp
    have hat := ((hplace e.1 e.2).mp ⟨e :: es, by rw [hg]; rfl, rfl⟩).1
    exact ⟨e.1, Flash.keptAt_first.mpr ⟨e.2, hat⟩⟩
  · rintro ⟨l, hl⟩ hnil
    obtain ⟨h, hh⟩ := Flash.keptAt_first.mp hl
    obtain ⟨p, hp, _⟩ := (hplace l h).mpr
      ⟨hh, fun y hy => absurd hy (Nat.not_lt_zero y), fun p h1 hp => absurd hp (by omega)⟩
    rw [hnil] at hp
    cases hp

theorem mem_allGroups (hf : Table.wf Spare.erased f.spare) {l : Nat} (hl : f.keptAt q 1 0 l) :
    (q, rebuildGroup f.valid q) ∈
      ((serialsOf f.valid).map (fun n => (n, rebuildGroup f.valid n))).filter (fun g => !g.2.isEmpty) := by
  have hne := (Flash.rebuildGroup_ne_nil hf).mpr ⟨l, hl⟩
  obtain ⟨h, hh⟩ := Flash.keptAt_first.mp hl
  have hserial : q ∈ serialsOf f.valid :=
    mem_serialsOf.mpr ⟨(l, h), (Flash.mem_valid_iff hf).mpr hh.1.1, hh.1.2.1⟩
  exact List.mem_filter.mpr ⟨List.mem_map_of_mem (f := fun n => (n, rebuildGroup f.valid n)) hserial, by simpa using hne⟩

/-- Of a rising list cut to its last `n`, an entry stays that fewer than `n` follow. -/
theorem mem_drop_of_few {α : Type} {all : List α} {n : Nat} {a : α} (ha : a ∈ all)
    (hfew : ∀ i, all[i]? = some a → (all.drop (i + 1)).length < n) : a ∈ all.drop (all.length - n) := by
  obtain ⟨i, hi⟩ := List.mem_iff_getElem?.mp ha
  have hlt := (List.getElem?_eq_some_iff.mp hi).1
  have := hfew i hi
  rw [List.length_drop] at this
  rw [List.mem_iff_getElem?]
  exact ⟨i - (all.length - n), by rw [List.getElem?_drop, ← hi]; congr 1; omega⟩

theorem Flash.groupsOf_kept (hf : Table.wf Spare.erased f.spare) : KeptGroups f (groupsOf f.valid) where
  rising := groupsOf_pairwise f.valid
  limit := by
    unfold groupsOf
    dsimp only
    rw [List.length_drop]
    have : Config.slots = 4096 := rfl
    omega
  pages g hg := (mem_groupsOf hg).2.2
  leaves g hg := by
    rw [(mem_groupsOf hg).2.1]
    exact mem_rebuildGroup_ne_nil f.valid g.1
  places g hg j x l h := by
    rw [(mem_groupsOf hg).2.1]
    exact Flash.rebuildGroup_getElem? hf j x
  fits q l hl hfew := by
    have hmem := mem_allGroups hf hl
    have hpw : (((serialsOf f.valid).map (fun n => (n, rebuildGroup f.valid n))).filter (fun g => !g.2.isEmpty)).Pairwise
        (fun g k => g.1 < k.1) :=
      List.Pairwise.filter _ (List.pairwise_map.mpr (foldl_insertRising_pairwise _ List.Pairwise.nil))
    have hall : ∀ k ∈ ((serialsOf f.valid).map (fun n => (n, rebuildGroup f.valid n))).filter (fun g => !g.2.isEmpty),
        ∃ m, f.keptAt k.1 1 0 m := fun k hk => by
      obtain ⟨hk, hne⟩ := List.mem_filter.mp hk
      obtain ⟨n, _, rfl⟩ := List.mem_map.mp hk
      exact (Flash.rebuildGroup_ne_nil hf).mp (by simpa using hne)
    refine ⟨(q, rebuildGroup f.valid q), ?_, rfl⟩
    unfold groupsOf
    dsimp only
    generalize (((serialsOf f.valid).map (fun n => (n, rebuildGroup f.valid n))).filter (fun g => !g.2.isEmpty)) = all at *
    refine mem_drop_of_few hmem fun i hi => ?_
    have hlater : ∀ k ∈ all.drop (i + 1), q < k.1 := fun k hk => by
      obtain ⟨j, hj⟩ := List.mem_iff_getElem?.mp hk
      rw [List.getElem?_drop] at hj
      exact pairwise_getElem? hpw hi hj (by omega)
    have hnodup : ((all.drop (i + 1)).map (fun k : Group => k.1)).Nodup :=
      List.pairwise_map.mpr ((hpw.sublist (List.drop_sublist _ _)).imp fun h => h.ne)
    have hlen := hfew _ hnodup fun r hr => by
        obtain ⟨k, hk, rfl⟩ := List.mem_map.mp hr
        exact ⟨hlater k hk, hall k (List.mem_of_mem_drop hk)⟩
    rwa [List.length_map] at hlen

end

section
variable {f : Flash} {groups : List Group} (K : KeptGroups f groups)
include K

/-- A kept leaf's place is the one its header names. -/
theorem KeptGroups.header {g : Group} (hg : g ∈ groups) {j x : Nat} {p : List Found} {e : Found} (hp : g.2[j]? = some p)
    (he : p[x]? = some e) : f.validAt e.1 e.2 ∧ e.2.serial = g.1 ∧ e.2.page = j + 1 ∧ e.2.index = x := by
  obtain ⟨hfound, _, _⟩ := (K.places g hg j x e.1 e.2).mp ⟨p, hp, he⟩
  obtain ⟨⟨hv, hs, _⟩, hpage, hindex, _⟩ := hfound
  exact ⟨hv, hs, hpage, hindex⟩

/-- All leaves of a group are of one open time. -/
theorem KeptGroups.openTime {g : Group} (hg : g ∈ groups) {j x i y : Nat} {p r : List Found} {e a : Found}
    (hp : g.2[j]? = some p) (he : p[x]? = some e) (hr : g.2[i]? = some r) (ha : r[y]? = some a) :
    e.2.openTime = a.2.openTime := by
  obtain ⟨⟨⟨hv, hs, hmax, _⟩, _⟩, _⟩ := (K.places g hg j x e.1 e.2).mp ⟨p, hp, he⟩
  obtain ⟨⟨⟨hw, ht, hmax', _⟩, _⟩, _⟩ := (K.places g hg i y a.1 a.2).mp ⟨r, hr, ha⟩
  exact le_antisymm (hmax' e.1 e.2 hv hs) (hmax a.1 a.2 hw ht)

/-- A leaf before the last of its page carries no final-leaf mark. -/
theorem KeptGroups.final {g : Group} (hg : g ∈ groups) {j x : Nat} {p : List Found} {e : Found}
    (hp : g.2[j]? = some p) (he : p[x]? = some e) (hx : x + 1 < p.length) : e.2.final = 0 := by
  obtain ⟨_, hbefore, _⟩ := (K.places g hg j (x + 1) p[x + 1].1 p[x + 1].2).mp ⟨p, hp, List.getElem?_eq_getElem hx⟩
  obtain ⟨m, i, hi, hz⟩ := hbefore x (Nat.lt_succ_self x)
  obtain ⟨hfound, _, _⟩ := (K.places g hg j x e.1 e.2).mp ⟨p, hp, he⟩
  have hle := hi.2.2.2 e.1 e.2 hfound.1 hfound.2.1 hfound.2.2.1
  have hge := hfound.2.2.2 m i hi.1 hi.2.1 hi.2.2.1
  have hm : m = e.1 := by omega
  subst hm
  rw [Flash.validAt_inj hfound.1.1 hi.1.1]
  exact hz

theorem KeptGroups.keptAt {g : Group} (hg : g ∈ groups) (j x l : Nat) :
    (∃ p, g.2[j]? = some p ∧ ∃ h, p[x]? = some (l, h)) ↔ f.keptAt g.1 (j + 1) x l := by
  unfold Flash.keptAt
  constructor
  · rintro ⟨p, hp, h, he⟩
    obtain ⟨hat, hbefore, hpages⟩ := (K.places g hg j x l h).mp ⟨p, hp, he⟩
    exact ⟨⟨h, hat⟩, hbefore, hpages⟩
  · rintro ⟨⟨h, hat⟩, hbefore, hpages⟩
    obtain ⟨p, hp, he⟩ := (K.places g hg j x l h).mpr ⟨hat, hbefore, hpages⟩
    exact ⟨p, hp, h, he⟩

end

/-! ### Places -/

/-- The leaves of a group with the places that they take in slot `n`. -/
def placementsOf (g : Group) (n : Nat) : List (Nat × Place) :=
  g.2.zipIdx.flatMap (fun p => p.1.zipIdx.map (fun l => (l.1.1, Place.mk n (p.2 + 1) l.2)))

/-- The leaves of groups entered from a slot on, with their places. -/
def placements (groups : List Group) (first : Nat) : List (Nat × Place) :=
  (groups.zipIdx first).flatMap (fun e => placementsOf e.1 e.2)

section
variable {b : Body} {l n : Nat} {p : Place} {g : Group} {groups : List Group}

theorem mem_placementsOf {e : Nat × Place} : e ∈ placementsOf g n ↔
    ∃ j r x a, g.2[j]? = some r ∧ r[x]? = some a ∧ e = (a.1, ⟨n, j + 1, x⟩) := by
  unfold placementsOf
  rw [List.mem_flatMap]
  constructor
  · rintro ⟨⟨r, j⟩, hr, he⟩
    obtain ⟨⟨a, x⟩, ha, rfl⟩ := List.mem_map.mp he
    exact ⟨j, r, x, a, List.mem_zipIdx_iff_getElem?.mp hr, List.mem_zipIdx_iff_getElem?.mp ha, rfl⟩
  · rintro ⟨j, r, x, a, hr, ha, rfl⟩
    exact ⟨(r, j), List.mem_zipIdx_iff_getElem?.mpr hr, List.mem_map.mpr ⟨(a, x), List.mem_zipIdx_iff_getElem?.mpr ha, rfl⟩⟩

theorem mem_placements {e : Nat × Place} : e ∈ placements groups 0 ↔
    ∃ n g j r x a, groups[n]? = some g ∧ g.2[j]? = some r ∧ r[x]? = some a ∧ e = (a.1, ⟨n, j + 1, x⟩) := by
  unfold placements
  rw [List.mem_flatMap]
  constructor
  · rintro ⟨⟨g, n⟩, hg, he⟩
    obtain ⟨j, r, x, a, hr, ha, rfl⟩ := mem_placementsOf.mp he
    exact ⟨n, g, j, r, x, a, List.mem_zipIdx_iff_getElem?.mp hg, hr, ha, rfl⟩
  · rintro ⟨n, g, j, r, x, a, hg, hr, ha, rfl⟩
    exact ⟨(g, n), List.mem_zipIdx_iff_getElem?.mpr hg, mem_placementsOf.mpr ⟨j, r, x, a, hr, ha, rfl⟩⟩

/-- Leaves take their places; where all entries of a leaf agree it takes that one. -/
theorem foldl_place (ps : List (Nat × Place)) (b : Body) (h : ∀ e ∈ ps, e.1 = l → e.2 = p) :
    (ps.foldl (fun acc e => acc.setLeaf e.1 ⟨.programmed, some e.2, none⟩) b).leaf l =
      if l ∈ ps.map (fun e => e.1) then ⟨.programmed, some p, none⟩ else b.leaf l := by
  induction ps generalizing b with
  | nil => rfl
  | cons e ps ih =>
    rw [List.foldl_cons, ih _ fun a ha => h a (List.mem_cons_of_mem _ ha), List.map_cons, Body.setLeaf_leaf]
    by_cases hm : l ∈ ps.map (fun e => e.1)
    · rw [if_pos hm, if_pos (List.mem_cons_of_mem _ hm)]
    · rw [if_neg hm]
      by_cases he : l = e.1
      · rw [if_pos he, if_pos (by rw [he]; exact List.mem_cons_self), h e List.mem_cons_self he.symm]
      · rw [if_neg he, if_neg (by simp only [List.mem_cons, he, hm, or_false, not_false_eq_true])]

theorem Body.enterRebuilt_leaf (b : Body) (h : ∀ e ∈ placementsOf g n, e.1 = l → e.2 = p) :
    (b.enterRebuilt (g, n)).leaf l =
      if l ∈ (placementsOf g n).map (fun e => e.1) then ⟨.programmed, some p, none⟩ else b.leaf l :=
  foldl_place (placementsOf g n) (b.setSlot n ⟨0, some (rebuiltDocument g)⟩) h

theorem Body.entered_leaf (groups : List Group) (first : Nat) (b : Body)
    (h : ∀ e ∈ placements groups first, e.1 = l → e.2 = p) : (b.entered groups first).leaf l =
      if l ∈ (placements groups first).map (fun e => e.1) then ⟨.programmed, some p, none⟩ else b.leaf l := by
  induction groups generalizing b first with
  | nil => rfl
  | cons g groups ih =>
    have hcons : placements (g :: groups) first = placementsOf g first ++ placements groups (first + 1) := rfl
    rw [hcons] at h ⊢
    rw [Body.entered_cons, ih (first + 1) _ fun e he => h e (List.mem_append_right _ he),
      Body.enterRebuilt_leaf b fun e he => h e (List.mem_append_left _ he)]
    simp only [List.map_append, List.mem_append]
    by_cases h1 : l ∈ (placements groups (first + 1)).map (fun e => e.1)
    · rw [if_pos h1, if_pos (.inr h1)]
    · simp only [h1, if_false, or_false]

theorem mem_keptLeaves : l ∈ keptLeaves groups ↔ ∃ g ∈ groups, ∃ r ∈ g.2, ∃ a ∈ r, a.1 = l := by
  unfold keptLeaves
  simp only [List.mem_flatMap, List.mem_map]

theorem mem_placements_leaf : l ∈ (placements groups 0).map (fun e => e.1) ↔ l ∈ keptLeaves groups := by
  rw [List.mem_map, mem_keptLeaves]
  constructor
  · rintro ⟨e, he, rfl⟩
    obtain ⟨n, g, j, r, x, a, hg, hr, ha, rfl⟩ := mem_placements.mp he
    exact ⟨g, List.mem_of_getElem? hg, r, List.mem_of_getElem? hr, a, List.mem_of_getElem? ha, rfl⟩
  · rintro ⟨g, hg, r, hr, a, ha, rfl⟩
    obtain ⟨n, hg⟩ := List.mem_iff_getElem?.mp hg
    obtain ⟨j, hr⟩ := List.mem_iff_getElem?.mp hr
    obtain ⟨x, ha⟩ := List.mem_iff_getElem?.mp ha
    exact ⟨_, mem_placements.mpr ⟨n, g, j, r, x, a, hg, hr, ha, rfl⟩, rfl⟩

end

section
variable {f : Flash} {groups : List Group} {l : Nat} (K : KeptGroups f groups)
include K

/-- A leaf is kept at one place alone. -/
theorem KeptGroups.one_place {e a : Nat × Place} (he : e ∈ placements groups 0) (ha : a ∈ placements groups 0)
    (h : e.1 = a.1) : e.2 = a.2 := by
  obtain ⟨n, g, j, r, x, c, hg, hr, hc, rfl⟩ := mem_placements.mp he
  obtain ⟨m, k, i, t, y, d, hk, ht, hd, rfl⟩ := mem_placements.mp ha
  obtain ⟨hv, hs, hp, hi⟩ := K.header (List.mem_of_getElem? hg) hr hc
  obtain ⟨hw, hs', hp', hi'⟩ := K.header (List.mem_of_getElem? hk) ht hd
  change c.1 = d.1 at h
  rw [h] at hv
  have hh := Flash.validAt_inj hv hw
  have hgk : g.1 = k.1 := by rw [← hs, ← hs', hh]
  have hnm : n = m := by
    rcases lt_trichotomy n m with hlt | heq | hlt
    · exact absurd hgk (pairwise_getElem? K.rising hg hk hlt).ne
    · exact heq
    · exact absurd hgk (pairwise_getElem? K.rising hk hg hlt).ne'
  have hji : j = i := by rw [hh] at hp; omega
  have hxy : x = y := by rw [← hi, ← hi', hh]
  rw [hnm, hji, hxy]

theorem KeptGroups.entered_leaf (b : Body) {p : Place} (h : (l, p) ∈ placements groups 0) :
    (b.entered groups 0).leaf l = ⟨.programmed, some p, none⟩ := by
  rw [Body.entered_leaf groups 0 b (p := p) fun e he hl => K.one_place he h hl,
    if_pos (List.mem_map_of_mem (f := fun e : Nat × Place => e.1) h)]

omit K in
theorem Body.entered_leaf_other (b : Body) (h : l ∉ keptLeaves groups) : (b.entered groups 0).leaf l = b.leaf l := by
  rw [← mem_placements_leaf] at h
  have := Body.entered_leaf (l := l) (p := ⟨0, 0, 0⟩) groups 0 b fun e he hl =>
    absurd (List.mem_map.mpr ⟨e, he, hl⟩) h
  rw [this, if_neg h]

/-- No leaf is kept twice. -/
theorem KeptGroups.keptLeaves_nodup : (keptLeaves groups).Nodup := by
  have hleaf : ∀ g ∈ groups, ∀ r ∈ g.2, ∀ a ∈ r, ∃ j x, g.2[j]? = some r ∧ r[x]? = some a ∧ f.validAt a.1 a.2 ∧
      a.2.serial = g.1 ∧ a.2.page = j + 1 ∧ a.2.index = x := fun g hg r hr a ha => by
    obtain ⟨j, hr⟩ := List.mem_iff_getElem?.mp hr
    obtain ⟨x, ha⟩ := List.mem_iff_getElem?.mp ha
    exact ⟨j, x, hr, ha, K.header hg hr ha⟩
  unfold keptLeaves
  refine List.nodup_flatMap.mpr ⟨fun g hg => List.nodup_flatMap.mpr ⟨fun r hr => ?_, ?_⟩, ?_⟩
  · obtain ⟨j, hj⟩ := List.mem_iff_getElem?.mp hr
    refine List.pairwise_map.mpr (List.pairwise_iff_getElem.mpr fun x y hx hy hxy he => ?_)
    obtain ⟨hv, _, _, hi⟩ := K.header hg hj (List.getElem?_eq_getElem hx)
    obtain ⟨hw, _, _, hi'⟩ := K.header hg hj (List.getElem?_eq_getElem hy)
    rw [he] at hv
    rw [Flash.validAt_inj hv hw] at hi
    omega
  · refine List.pairwise_iff_getElem.mpr fun i j hi hj hij => ?_
    intro m hm hm'
    obtain ⟨a, ha, rfl⟩ := List.mem_map.mp hm
    obtain ⟨c, hc, hca⟩ := List.mem_map.mp hm'
    obtain ⟨x, hx⟩ := List.mem_iff_getElem?.mp ha
    obtain ⟨y, hy⟩ := List.mem_iff_getElem?.mp hc
    obtain ⟨hv, _, hp, _⟩ := K.header hg (List.getElem?_eq_getElem hi) hx
    obtain ⟨hw, _, hp', _⟩ := K.header hg (List.getElem?_eq_getElem hj) hy
    rw [hca] at hw
    rw [Flash.validAt_inj hv hw] at hp
    omega
  · refine K.rising.imp_of_mem fun {g k} hg hk hlt m hm hm' => ?_
    obtain ⟨r, hr, hm⟩ := List.mem_flatMap.mp hm
    obtain ⟨a, ha, rfl⟩ := List.mem_map.mp hm
    obtain ⟨t, ht, hm'⟩ := List.mem_flatMap.mp hm'
    obtain ⟨c, hc, hca⟩ := List.mem_map.mp hm'
    obtain ⟨_, _, _, _, hv, hs, _⟩ := hleaf g hg r hr a ha
    obtain ⟨_, _, _, _, hw, hs', _⟩ := hleaf k hk t ht c hc
    rw [hca] at hw
    rw [Flash.validAt_inj hv hw] at hs
    omega

theorem KeptGroups.kept_valid (hf : Table.wf Spare.erased f.spare) (h : l ∈ keptLeaves groups) :
    l ∈ f.valid.map (fun e => e.1) := by
  obtain ⟨g, hg, r, hr, a, ha, rfl⟩ := mem_keptLeaves.mp h
  obtain ⟨j, hr⟩ := List.mem_iff_getElem?.mp hr
  obtain ⟨x, ha⟩ := List.mem_iff_getElem?.mp ha
  exact List.mem_map.mpr ⟨a, (Flash.mem_valid_iff hf).mpr (K.header hg hr ha).1, rfl⟩

/-- Every valid leaf is kept or dropped. -/
theorem KeptGroups.dropped_length (hf : Table.wf Spare.erased f.spare) :
    (droppedFound f.valid groups).length + (keptLeaves groups).length = f.valid.length := by
  have hnodup : (f.valid.map (fun e => e.1)).Nodup :=
    (List.pairwise_map.mpr (Flash.valid_pairwise hf)).imp fun h => h.ne
  have hperm : ((f.valid.map (fun e => e.1)).filter (fun l => (keptLeaves groups).contains l)).Perm (keptLeaves groups) :=
    (List.perm_ext_iff_of_nodup (hnodup.filter _) K.keptLeaves_nodup).mpr fun l => by
      rw [List.mem_filter, List.contains_iff_mem]
      exact ⟨fun h => h.2, fun h => ⟨K.kept_valid hf h, h⟩⟩
  have hsplit := List.length_eq_length_filter_add (l := f.valid.map (fun e => e.1)) (fun l => (keptLeaves groups).contains l)
  rw [List.length_map, hperm.length_eq] at hsplit
  unfold droppedFound
  omega

end

/-! ### The scan of the rest (R101) -/

section
variable {b : Body} {f : Flash} {l k m : Nat}

/-- The leaf that the header scan makes of one, by the class of its spare area. -/
def LeafClass.scanned (c : LeafClass) (v : Leaf) : Leaf :=
  match c with
  | .erased => Leaf.blank
  | .voidMarked => ⟨.void, none, none⟩
  | .unreadable => ⟨.retired, none, none⟩
  | .valid _ => v

theorem Body.scanLeaf_leaf (f : Flash) (b : Body) (l m : Nat) :
    (b.scanLeaf f l).leaf m = if m = l then (f.spareOf l).classOf.scanned (b.leaf m) else b.leaf m := by
  cases hc : (f.spareOf l).classOf with
  | erased => rw [Body.scanLeaf_erased hc, Body.blankLeaf_leaf]; rfl
  | voidMarked => rw [Body.scanLeaf_voidMarked hc, Body.voidLeaf_leaf]; rfl
  | unreadable => rw [Body.scanLeaf_unreadable hc, Body.setLeaf_leaf]; rfl
  | valid h => rw [Body.scanLeaf_valid hc]; exact (ite_self _).symm

theorem LeafClass.scanned_scanned (c : LeafClass) (v : Leaf) : c.scanned (c.scanned v) = c.scanned v := by cases c <;> rfl

theorem foldl_scanLeaf_leaf (f : Flash) (ls : List Nat) (b : Body) (m : Nat) :
    (ls.foldl (Body.scanLeaf f) b).leaf m = if m ∈ ls then (f.spareOf m).classOf.scanned (b.leaf m) else b.leaf m := by
  induction ls generalizing b with
  | nil => simp
  | cons l ls ih =>
    rw [List.foldl_cons, ih, Body.scanLeaf_leaf]
    by_cases hml : m = l
    · subst hml
      rw [if_pos rfl, if_pos List.mem_cons_self, LeafClass.scanned_scanned, ite_self]
    · rw [if_neg hml]
      simp only [List.mem_cons, hml, false_or]

theorem Body.scanLeaf_bank (f : Flash) (b : Body) (l k : Nat) : (b.scanLeaf f l).bank k = { b.bank k with
    blank := (b.bank k).blank ++ if k = l % 4 ∧ (f.spareOf l).classOf = .erased then [l] else [],
    eraseQueue := (b.bank k).eraseQueue ++ if k = l % 4 ∧ (f.spareOf l).classOf = .voidMarked then [l] else [] } := by
  cases hc : (f.spareOf l).classOf with
  | erased => rw [Body.scanLeaf_erased hc, Body.blankLeaf_bank]; simp
  | voidMarked => rw [Body.scanLeaf_voidMarked hc, Body.voidLeaf_bank]; simp
  | unreadable => rw [Body.scanLeaf_unreadable hc]; simp
  | valid h => rw [Body.scanLeaf_valid hc]; simp

theorem filter_cons_class (f : Flash) (k l : Nat) (c : LeafClass) (ls : List Nat) :
    (l :: ls).filter (fun m => decide (m % 4 = k) && (f.spareOf m).classOf == c) =
      (if k = l % 4 ∧ (f.spareOf l).classOf = c then [l] else []) ++
        ls.filter (fun m => decide (m % 4 = k) && (f.spareOf m).classOf == c) := by
  by_cases h : k = l % 4 ∧ (f.spareOf l).classOf = c
  · rw [List.filter_cons_of_pos (by rw [h.1, h.2]; simp), if_pos h]; rfl
  · rw [List.filter_cons_of_neg (by
      rw [Bool.and_eq_true, decide_eq_true_eq, beq_iff_eq]
      exact fun hn => h ⟨hn.1.symm, hn.2⟩), if_neg h]; rfl

theorem foldl_scanLeaf_bank (f : Flash) (ls : List Nat) (b : Body) (k : Nat) : (ls.foldl (Body.scanLeaf f) b).bank k =
    { b.bank k with
      blank := (b.bank k).blank ++ ls.filter (fun l => decide (l % 4 = k) && (f.spareOf l).classOf == .erased),
      eraseQueue := (b.bank k).eraseQueue ++
        ls.filter (fun l => decide (l % 4 = k) && (f.spareOf l).classOf == .voidMarked) } := by
  induction ls generalizing b with
  | nil => simp
  | cons l ls ih =>
    rw [List.foldl_cons, ih, Body.scanLeaf_bank, filter_cons_class f k l .erased, filter_cons_class f k l .voidMarked]
    simp only [List.append_assoc]

end

end Sys2Proof.Machine
end

section
/-! What the rebuild leaves: the catalog, the leaves, the banks and intake's account (R167 to R170, R122, R39). -/

namespace Sys2Proof.Machine

/-! ### The rebuilt body -/

section
variable {b : Body} {groups : List Group} {dropped : List Nat} {n l k : Nat}

theorem Body.entered_frame (b : Body) (groups : List Group) (first : Nat) : b.entered groups first = { b with
    leaves := (b.entered groups first).leaves, catalog := (b.entered groups first).catalog } := by
  induction groups generalizing b first with
  | nil => rfl
  | cons g groups ih => rw [Body.entered_cons, ih, Body.enterRebuilt_eq b g first]

theorem Body.rebuiltFrom_frame (b : Body) (groups : List Group) (dropped : List Nat) : b.rebuiltFrom groups dropped = { b with
    leaves := (b.rebuiltFrom groups dropped).leaves, banks := (b.rebuiltFrom groups dropped).banks,
    catalog := (b.rebuiltFrom groups dropped).catalog, accounts := (b.rebuiltFrom groups dropped).accounts,
    attention := (b.rebuiltFrom groups dropped).attention, nextSerial := (b.rebuiltFrom groups dropped).nextSerial } := by
  have hvoid : dropped.foldl Body.voidLeaf (b.entered groups 0) = { b with
      leaves := (dropped.foldl Body.voidLeaf (b.entered groups 0)).leaves,
      banks := (dropped.foldl Body.voidLeaf (b.entered groups 0)).banks,
      catalog := (dropped.foldl Body.voidLeaf (b.entered groups 0)).catalog } := by
    rw [foldl_leavesBanks (step := Body.voidLeaf) (fun _ _ => rfl), Body.entered_frame]
  unfold Body.rebuiltFrom
  rw [hvoid]
  dsimp only
  split_ifs <;> rfl

theorem Body.rebuiltFrom_leaves (b : Body) (groups : List Group) (dropped : List Nat) :
    (b.rebuiltFrom groups dropped).leaves = (dropped.foldl Body.voidLeaf (b.entered groups 0)).leaves := by
  unfold Body.rebuiltFrom
  dsimp only
  split_ifs <;> rfl

theorem Body.rebuiltFrom_banks (b : Body) (groups : List Group) (dropped : List Nat) :
    (b.rebuiltFrom groups dropped).banks = (dropped.foldl Body.voidLeaf (b.entered groups 0)).banks := by
  unfold Body.rebuiltFrom
  dsimp only
  split_ifs <;> rfl

theorem Body.rebuiltFrom_leaf (b : Body) (groups : List Group) (dropped : List Nat) (l : Nat) :
    (b.rebuiltFrom groups dropped).leaf l =
      if l ∈ dropped then ⟨.void, none, none⟩ else (b.entered groups 0).leaf l := by
  rw [Body.leaf_congr (b.rebuiltFrom_leaves groups dropped), foldl_setsLeaf (fun _ _ => Body.voidLeaf_leaf)]

theorem Body.rebuiltFrom_bank (b : Body) (groups : List Group) (dropped : List Nat) (k : Nat) :
    (b.rebuiltFrom groups dropped).bank k =
      { b.bank k with eraseQueue := (b.bank k).eraseQueue ++ dropped.filter (fun l => l % 4 = k) } := by
  have hbanks : (b.entered groups 0).banks = b.banks := by rw [Body.entered_frame]
  rw [Body.bank_congr (b.rebuiltFrom_banks groups dropped), foldl_voidLeaf_bank, Body.bank_congr hbanks]

theorem Body.rebuiltFrom_attends (b : Body) (groups : List Group) (dropped : List Nat) (x : Nat) :
    (b.rebuiltFrom groups dropped).attends x = if x = 0 then b.attends 0 || !groups.isEmpty else b.attends x := by
  have hatt : (dropped.foldl Body.voidLeaf (b.entered groups 0)).attention = b.attention := by
    rw [foldl_leavesBanks (step := Body.voidLeaf) (fun _ _ => rfl), Body.entered_frame]
  have hread : ∀ y, ((dropped.foldl Body.voidLeaf (b.entered groups 0)).setAccount 0 (keptLeaves groups).length).attends y =
      b.attends y := fun y => by
    unfold Body.attends
    rw [Body.setAccount_attention, hatt]
  have hend : ∀ (c : Body) (n : Nat), ({ c with nextSerial := n } : Body).attends x = c.attends x := fun _ _ => rfl
  unfold Body.rebuiltFrom
  dsimp only
  rw [hend]
  split_ifs with hg hx hx
  · rw [hread, hx, hg]; simp
  · exact hread x
  · have hcall := Body.setAttention_attends ((dropped.foldl Body.voidLeaf (b.entered groups 0)).setAccount 0
      (keptLeaves groups).length) 0 true x
    rw [if_pos hx] at hcall
    have hne : groups.isEmpty = false := Bool.eq_false_iff.mpr hg
    rw [hne, Bool.not_false, Bool.or_true]
    exact hcall
  · have hcall := Body.setAttention_attends ((dropped.foldl Body.voidLeaf (b.entered groups 0)).setAccount 0
      (keptLeaves groups).length) 0 true x
    rw [if_neg hx, hread] at hcall
    exact hcall

theorem Body.rebuiltFrom_nextSerial (b : Body) (groups : List Group) (dropped : List Nat) :
    (b.rebuiltFrom groups dropped).nextSerial = (groups.getLast?.map (fun g => g.1 + 1)).getD 1 := rfl

theorem Body.rebuiltFrom_slot (hb : b.catalog = []) (n : Nat) : (b.rebuiltFrom groups dropped).slot n =
    ⟨0, groups[n]?.map rebuiltDocument⟩ := by
  have hfree : b.slot n = ⟨0, none⟩ := by
    unfold Body.slot
    rw [hb]
    rfl
  rw [slot_congr (b.rebuiltFrom_catalog groups dropped), Body.entered_slot, if_pos (Nat.zero_le n), Nat.sub_zero, hfree]
  cases groups[n]? <;> rfl

theorem Body.rebuiltFrom_doc (hb : b.catalog = []) (n : Nat) :
    (b.rebuiltFrom groups dropped).doc n = groups[n]?.map rebuiltDocument := congrArg Slot.doc (Body.rebuiltFrom_slot hb n)

theorem Body.rebuiltFrom_wf (hb : b.catalog = []) : Table.wf Slot.free (b.rebuiltFrom groups dropped).catalog := by
  have hw : Table.wf Slot.free b.catalog := by rw [hb]; exact ⟨List.Pairwise.nil, fun _ h => by cases h⟩
  have hnone : ∀ n, b.doc n = none := fun n => by
    unfold Body.doc Body.slot
    rw [hb]
    rfl
  rw [Body.rebuiltFrom_catalog]
  exact (b.entered_total Document.leafCount groups 0 hw fun n _ => hnone n).2

/-- The rebuilt documents stand in the order of their groups from slot 0. -/
theorem Body.rebuiltFrom_documents (hb : b.catalog = []) : (b.rebuiltFrom groups dropped).documents =
    groups.zipIdx.map (fun e => (e.2, rebuiltDocument e.1)) := by
  refine documents_ext (Body.documents_keys (Body.rebuiltFrom_wf hb)) ?_ fun ⟨n, d⟩ => ?_
  · rw [List.map_map]
    change ((groups.zipIdx).map Prod.snd).Pairwise (· < ·)
    rw [List.zipIdx_map_snd]
    exact List.pairwise_lt_range'
  · rw [Body.mem_documents_iff (Body.rebuiltFrom_wf hb), Body.rebuiltFrom_doc hb, List.mem_map, Option.map_eq_some_iff]
    constructor
    · rintro ⟨g, hg, rfl⟩
      exact ⟨(g, n), List.mem_zipIdx_iff_getElem?.mpr hg, rfl⟩
    · rintro ⟨⟨g, m⟩, hg, he⟩
      cases he
      exact ⟨g, List.mem_zipIdx_iff_getElem?.mp hg, rfl⟩

theorem map_zipIdx_fst {α β : Type} (h : α → β) (l : List α) : l.zipIdx.map (fun e => h e.1) = l.map h := by
  conv_rhs => rw [← List.zipIdx_map_fst 0 l, List.map_map]
  rfl

theorem Body.rebuiltFrom_leafCounts (hb : b.catalog = []) :
    ((b.rebuiltFrom groups dropped).documents.map (fun e => e.2.leafCount)).sum = (keptLeaves groups).length := by
  rw [Body.rebuiltFrom_documents hb, List.map_map, keptLeaves_length]
  exact congrArg List.sum (map_zipIdx_fst (fun g => (rebuiltDocument g).leafCount) groups)

theorem Body.rebuiltFrom_last (hb : b.catalog = []) {e : Nat × Document}
    (he : (b.rebuiltFrom groups dropped).documents.getLast? = some e) :
    (b.rebuiltFrom groups dropped).nextSerial = e.2.serial + 1 := by
  rw [Body.rebuiltFrom_documents hb, List.getLast?_map] at he
  obtain ⟨⟨g, n⟩, hg, rfl⟩ := Option.map_eq_some_iff.mp he
  have hlast : groups.getLast? = some g := by
    have := congrArg (Option.map Prod.fst) hg
    rwa [← List.getLast?_map, List.zipIdx_map_fst] at this
  rw [Body.rebuiltFrom_nextSerial, hlast]
  rfl

end

/-! ### The rebuilt documents -/

section
variable {f : Flash} {groups : List Group} (K : KeptGroups f groups)
include K

theorem KeptGroups.first {g : Group} (hg : g ∈ groups) : ∃ e r, g.2[0]? = some r ∧ r[0]? = some e ∧
    (rebuiltDocument g).openTime = ⟨e.2.openTime, false⟩ ∧ (rebuiltDocument g).extension = e.2.extension := by
  obtain ⟨r, t, hr⟩ := List.exists_cons_of_ne_nil (K.pages g hg)
  obtain ⟨e, es, rfl⟩ := List.exists_cons_of_ne_nil (K.leaves g hg r (hr ▸ List.mem_cons_self))
  refine ⟨e, e :: es, by rw [hr]; rfl, rfl, ?_, ?_⟩
  · unfold rebuiltDocument
    rw [hr]
    rfl
  · unfold rebuiltDocument
    rw [hr]
    rfl

omit K in
theorem rebuiltDocument_page {g : Group} {j : Nat} {p : Page} :
    (rebuiltDocument g).pages[j]? = some p ↔ ∃ r, g.2[j]? = some r ∧ p = rebuiltPage r := by
  change (g.2.map rebuiltPage)[j]? = some p ↔ _
  rw [List.getElem?_map, Option.map_eq_some_iff]
  exact ⟨fun ⟨r, hr, he⟩ => ⟨r, hr, he.symm⟩, fun ⟨r, hr, he⟩ => ⟨r, hr, he.symm⟩⟩

omit K in
theorem rebuiltPage_slot {r : List Found} {x : Nat} {v : LeafSlot} :
    (rebuiltPage r).slots[x]? = some v ↔ ∃ e, r[x]? = some e ∧ v = .placed e.1 := by
  change (r.map (fun e => LeafSlot.placed e.1))[x]? = some v ↔ _
  rw [List.getElem?_map, Option.map_eq_some_iff]
  exact ⟨fun ⟨e, he, hv⟩ => ⟨e, he, hv.symm⟩, fun ⟨e, he, hv⟩ => ⟨e, he, hv.symm⟩⟩

/-- A rebuilt page, leaf by leaf (R23, R168). -/
theorem KeptGroups.page_facts {g : Group} (hg : g ∈ groups) {j x : Nat} {r : List Found} {e : Found} (hr : g.2[j]? = some r)
    (he : r[x]? = some e) : (f.spareOf e.1).classOf = .valid e.2 ∧ e.2.serial = g.1 ∧ e.2.page = j + 1 ∧ e.2.index = x ∧
      e.2.openTime = (rebuiltDocument g).openTime.ticks ∧ (x + 1 < r.length → e.2.final = 0) ∧
      (x + 1 = r.length → (rebuiltPage r).state = if e.2.final = 1 then .closed else .cut) ∧
      (x = 0 → (rebuiltPage r).density = e.2.density ∧ (rebuiltPage r).width = e.2.width ∧
        (rebuiltPage r).coding = e.2.coding) ∧
      (x = 0 → j = 0 → (rebuiltDocument g).extension = e.2.extension) := by
  obtain ⟨hv, hs, hp, hi⟩ := K.header hg hr he
  obtain ⟨a, t, ht, ha, hopen, hext⟩ := K.first hg
  refine ⟨hv, hs, hp, hi, ?_, K.final hg hr he, fun hx => ?_, fun hx => ?_, fun hx hj => ?_⟩
  · rw [hopen]
    exact K.openTime hg hr he ht ha
  · have hlast : r.getLast? = some e := by
      rw [List.getLast?_eq_getElem?, ← hx]
      exact he
    unfold rebuiltPage
    rw [hlast]
    by_cases hf : e.2.final = 1
    · rw [if_pos hf]; simp [hf]
    · rw [if_neg hf]; simp [hf]
  · subst hx
    have hhead : r.head? = some e := by rw [List.head?_eq_getElem?]; exact he
    unfold rebuiltPage
    rw [hhead]
    exact ⟨rfl, rfl, rfl⟩
  · subst hx hj
    rw [ht] at hr
    cases hr
    rw [ha] at he
    cases he
    exact hext

/-- A rebuilt page's byte length, read from the headers of its leaves. -/
theorem KeptGroups.byteLength {g : Group} (hg : g ∈ groups) {p : Page} (hp : p ∈ (rebuiltDocument g).pages)
    {count : LeafSlot → Nat} (hc : ∀ l h, (f.spareOf l).classOf = .valid h → count (.placed l) = h.byteCount) :
    p.byteLength = (p.slots.map count).sum := by
  obtain ⟨j, hj⟩ := List.mem_iff_getElem?.mp hp
  obtain ⟨r, hr, rfl⟩ := rebuiltDocument_page.mp hj
  change (r.map (fun e => e.2.byteCount)).sum = ((r.map (fun e => LeafSlot.placed e.1)).map count).sum
  rw [List.map_map]
  refine congrArg List.sum (List.map_congr_left fun e he => ?_)
  obtain ⟨x, hx⟩ := List.mem_iff_getElem?.mp he
  exact (hc e.1 e.2 (K.header hg hr hx).1).symm

omit K in
theorem kept_iff_document {l : Nat} {c : Body} (hdoc : ∀ n, c.doc n = groups[n]?.map rebuiltDocument) :
    l ∈ keptLeaves groups ↔ ∃ n d p, c.doc n = some d ∧ p ∈ d.pages ∧ .placed l ∈ p.slots := by
  rw [mem_keptLeaves]
  constructor
  · rintro ⟨g, hg, r, hr, a, ha, rfl⟩
    obtain ⟨n, hn⟩ := List.mem_iff_getElem?.mp hg
    exact ⟨n, rebuiltDocument g, rebuiltPage r, by rw [hdoc, hn]; rfl, List.mem_map_of_mem hr,
      List.mem_map_of_mem (f := fun e : Found => LeafSlot.placed e.1) ha⟩
  · rintro ⟨n, d, p, hd, hp, hl⟩
    rw [hdoc] at hd
    obtain ⟨g, hg, rfl⟩ := Option.map_eq_some_iff.mp hd
    obtain ⟨r, hr, rfl⟩ := List.mem_map.mp hp
    obtain ⟨a, ha, he⟩ := List.mem_map.mp hl
    cases he
    exact ⟨g, List.mem_of_getElem? hg, r, hr, a, ha, rfl⟩

end

theorem mem_droppedFound {f : Flash} (hf : Table.wf Spare.erased f.spare) {groups : List Group} {l : Nat} :
    l ∈ droppedFound f.valid groups ↔ (∃ h, (f.spareOf l).classOf = .valid h) ∧ l ∉ keptLeaves groups := by
  unfold droppedFound
  rw [List.mem_filter, List.mem_map, Bool.not_eq_true', ← Bool.not_eq_true, List.contains_iff_mem]
  refine and_congr ⟨?_, ?_⟩ Iff.rfl
  · rintro ⟨e, he, rfl⟩
    exact ⟨e.2, (Flash.mem_valid_iff hf).mp he⟩
  · rintro ⟨h, hh⟩
    exact ⟨(l, h), (Flash.mem_valid_iff hf).mpr hh, rfl⟩

theorem droppedFound_pairwise {f : Flash} (hf : Table.wf Spare.erased f.spare) (groups : List Group) :
    (droppedFound f.valid groups).Pairwise (· < ·) :=
  (List.pairwise_map.mpr (Flash.valid_pairwise hf)).filter _

theorem Flash.valid_length (f : Flash) {p : Nat × Spare → Bool} (hp : ∀ e, p e = true ↔ ∃ h, e.2.classOf = .valid h) :
    f.valid.length = f.spare.countP p := by
  unfold Flash.valid
  induction f.spare with
  | nil => rfl
  | cons e t ih =>
    cases hc : e.2.classOf with
    | valid h =>
      have hpe : p e = true := (hp e).mpr ⟨h, hc⟩
      rw [List.filterMap_cons_some (b := (e.1, h)) (by rw [hc]), List.length_cons, ih, List.countP_cons_of_pos hpe]
    | _ =>
      have hpe : ¬ p e = true := fun h => by
        obtain ⟨g, hg⟩ := (hp e).mp h
        rw [hc] at hg
        cases hg
      rw [List.filterMap_cons_none (by rw [hc]), ih, List.countP_cons_of_neg hpe]

end Sys2Proof.Machine
end

section
/-! The rebuild reads the catalog from the headers: the statement (R167 to R170, R122, R39). -/

namespace Sys2Proof.Machine

section
variable {s : State}

/-- The body that the rest of the scan leaves (R101). -/
def State.scannedBody (s : State) : Body := (unscanned s.recovery.scanned).foldl (Body.scanLeaf s.flash) s.body

theorem State.scannedBody_frame (s : State) :
    s.scannedBody = { s.body with leaves := s.scannedBody.leaves, banks := s.scannedBody.banks } :=
  foldl_scanLeaf_frame s.flash _ s.body

theorem unscanned_eq (scanned : Nat) :
    unscanned scanned = (List.range (65536 - scanned)).map (fun x => scanned + x) := by
  unfold unscanned
  rw [show Config.leaves = 65536 from rfl]

theorem mem_unscanned {scanned l : Nat} : l ∈ unscanned scanned ↔ scanned ≤ l ∧ l < 65536 := by
  have hleaves : Config.leaves = 65536 := rfl
  unfold unscanned
  rw [hleaves, List.mem_map]
  simp only [List.mem_range]
  exact ⟨fun ⟨i, hi, he⟩ => by omega, fun ⟨h1, h2⟩ => ⟨l - scanned, by omega, by omega⟩⟩

theorem State.rebuild_eq (s : State) : s.rebuild = { s with
    body := s.scannedBody.rebuiltFrom (groupsOf s.flash.valid) (droppedFound s.flash.valid (groupsOf s.flash.valid)),
    recovery := { s.recovery with
      part := s.recovery.afterStart, mark := true, scanned := Config.leaves,
      coldRebuilt := (groupsOf s.flash.valid).length,
      coldDropped := (droppedFound s.flash.valid (groupsOf s.flash.valid)).length } } := by
  rw [← Body.rebuild_eq]
  rfl

end

/-- What a rebuild leaves of a scanned body, in terms of its groups. -/
structure RebuiltBody (f : Flash) (groups : List Group) (c w : Body) : Prop where
  slot : ∀ n, w.slot n = ⟨0, groups[n]?.map rebuiltDocument⟩
  placed : ∀ l p, (l, p) ∈ placements groups 0 → w.leaf l = ⟨.programmed, some p, none⟩
  dropped : ∀ l h, (f.spareOf l).classOf = .valid h → l ∉ keptLeaves groups → w.leaf l = ⟨.void, none, none⟩
  others : ∀ l, (∀ h, (f.spareOf l).classOf ≠ .valid h) → w.leaf l = c.leaf l

section
variable {f : Flash} {groups : List Group} {c w : Body} {n : Nat}

theorem Body.rebuiltFrom_rebuilt (hf : Table.wf Spare.erased f.spare) (K : KeptGroups f groups) (hc : c.catalog = []) :
    RebuiltBody f groups c (c.rebuiltFrom groups (droppedFound f.valid groups)) where
  slot := Body.rebuiltFrom_slot hc
  placed l p hp := by
    have hkept := mem_placements_leaf.mp (List.mem_map_of_mem (f := fun e : Nat × Place => e.1) hp)
    rw [Body.rebuiltFrom_leaf, if_neg fun hd => ((mem_droppedFound hf).mp hd).2 hkept, K.entered_leaf c hp]
  dropped l h hv hk := by
    rw [Body.rebuiltFrom_leaf, if_pos ((mem_droppedFound hf).mpr ⟨⟨h, hv⟩, hk⟩)]
  others l hv := by
    have hkept : l ∉ keptLeaves groups := fun hk => by
      obtain ⟨e, he, rfl⟩ := List.mem_map.mp (K.kept_valid hf hk)
      exact hv e.2 ((Flash.mem_valid_iff hf).mp he)
    rw [Body.rebuiltFrom_leaf, if_neg fun hd => ?_, Body.entered_leaf_other c hkept]
    obtain ⟨⟨h, hh⟩, _⟩ := (mem_droppedFound hf).mp hd
    exact hv h hh

theorem RebuiltBody.doc (R : RebuiltBody f groups c w) (n : Nat) : w.doc n = groups[n]?.map rebuiltDocument :=
  congrArg Slot.doc (R.slot n)

theorem RebuiltBody.group (R : RebuiltBody f groups c w) {d : Document} (hd : w.doc n = some d) :
    ∃ g, groups[n]? = some g ∧ d = rebuiltDocument g := by
  rw [R.doc] at hd
  obtain ⟨g, hg, rfl⟩ := Option.map_eq_some_iff.mp hd
  exact ⟨g, hg, rfl⟩

/-- Each rebuilt document, page by page and leaf by leaf. -/
theorem RebuiltBody.document (R : RebuiltBody f groups c w) (K : KeptGroups f groups) {d : Document}
    (hd : w.doc n = some d) : (w.slot n).generation = 0 ∧ d.state = .distributing ∧
      d.ending = some .rebuilt ∧ d.session = none ∧ d.caller = none ∧ d.openTime.trusted = false ∧
      d.receipt = some d.openTime ∧ d.retained = 0 ∧ d.base = .pending ∧ d.retainUntil = .pending ∧
      d.departments = [0] ∧ d.holds = [] ∧ d.pages ≠ [] ∧ n < 4096 ∧
      d.obligations = [⟨0, .rebuilt, .pending, 0, none, false, d.leafCount⟩] ∧
      ∀ j p, d.pages[j]? = some p → p.slots ≠ [] ∧ p.counts = none ∧ ∀ x slot, p.slots[x]? = some slot →
        ∃ l h, slot = .placed l ∧ (f.spareOf l).classOf = .valid h ∧ h.serial = d.serial ∧ h.page = j + 1 ∧
          h.index = x ∧ h.openTime = d.openTime.ticks ∧ (x + 1 < p.slots.length → h.final = 0) ∧
          (x + 1 = p.slots.length → p.state = if h.final = 1 then .closed else .cut) ∧
          (x = 0 → p.density = h.density ∧ p.width = h.width ∧ p.coding = h.coding) ∧
          (x = 0 → j = 0 → d.extension = h.extension) ∧
          w.leaf l = ⟨.programmed, some ⟨n, j + 1, x⟩, none⟩ := by
  obtain ⟨g, hg, rfl⟩ := R.group hd
  have hmem := List.mem_of_getElem? hg
  have hlt := (List.getElem?_eq_some_iff.mp hg).1
  refine ⟨by rw [R.slot], rfl, rfl, rfl, rfl, rfl, rfl, rfl, rfl, rfl, rfl, rfl, ?_, hlt.trans_le K.limit,
    rebuiltDocument_obligations g, fun j p hp => ?_⟩
  · change g.2.map rebuiltPage ≠ []
    rw [Ne, List.map_eq_nil_iff]
    exact K.pages g hmem
  · obtain ⟨r, hr, rfl⟩ := rebuiltDocument_page.mp hp
    refine ⟨?_, rfl, fun x slot hslot => ?_⟩
    · change r.map _ ≠ []
      rw [Ne, List.map_eq_nil_iff]
      exact K.leaves g hmem r (List.mem_of_getElem? hr)
    · obtain ⟨e, he, rfl⟩ := rebuiltPage_slot.mp hslot
      obtain ⟨hv, hs, hpage, hi, ht, hfin, hstate, hhead, hext⟩ := K.page_facts hmem hr he
      rw [rebuiltPage_length]
      exact ⟨e.1, e.2, rfl, hv, hs, hpage, hi, ht, hfin, hstate, hhead, hext,
        R.placed e.1 _ (mem_placements.mpr ⟨n, g, j, r, x, e, hg, hr, he, rfl⟩)⟩

theorem RebuiltBody.keptAt (R : RebuiltBody f groups c w) (K : KeptGroups f groups) {d : Document} (hd : w.doc n = some d)
    (j x l : Nat) :
    (∃ p, d.pages[j]? = some p ∧ p.slots[x]? = some (.placed l)) ↔ f.keptAt d.serial (j + 1) x l := by
  obtain ⟨g, hg, rfl⟩ := R.group hd
  change _ ↔ f.keptAt g.1 (j + 1) x l
  rw [← K.keptAt (List.mem_of_getElem? hg)]
  constructor
  · rintro ⟨p, hp, hl⟩
    obtain ⟨r, hr, rfl⟩ := rebuiltDocument_page.mp hp
    obtain ⟨e, he, hv⟩ := rebuiltPage_slot.mp hl
    cases hv
    exact ⟨r, hr, e.2, he⟩
  · rintro ⟨r, hr, h, he⟩
    exact ⟨rebuiltPage r, rebuiltDocument_page.mpr ⟨r, hr, rfl⟩, rebuiltPage_slot.mpr ⟨(l, h), he, rfl⟩⟩

theorem RebuiltBody.fits (R : RebuiltBody f groups c w) (K : KeptGroups f groups) {q l : Nat} (hl : f.keptAt q 1 0 l)
    (hfew : ∀ higher : List Nat, higher.Nodup → (∀ r ∈ higher, q < r ∧ ∃ m, f.keptAt r 1 0 m) → higher.length < 4096) :
    ∃ n d, w.doc n = some d ∧ d.serial = q := by
  obtain ⟨g, hg, rfl⟩ := K.fits q l hl hfew
  obtain ⟨n, hn⟩ := List.mem_iff_getElem?.mp hg
  exact ⟨n, rebuiltDocument g, by rw [R.doc, hn]; rfl, rfl⟩

theorem RebuiltBody.rising (R : RebuiltBody f groups c w) (K : KeptGroups f groups) {m : Nat} {d e : Document}
    (hd : w.doc n = some d) (he : w.doc m = some e) (hlt : n < m) : d.serial < e.serial := by
  obtain ⟨g, hg, rfl⟩ := R.group hd
  obtain ⟨k, hk, rfl⟩ := R.group he
  exact pairwise_getElem? K.rising hg hk hlt

theorem RebuiltBody.dense (R : RebuiltBody f groups c w) {d : Document} (hd : w.doc (n + 1) = some d) : w.doc n ≠ none := by
  obtain ⟨g, hg, _⟩ := R.group hd
  have hlt := (List.getElem?_eq_some_iff.mp hg).1
  rw [R.doc, List.getElem?_eq_getElem (show n < groups.length by omega)]
  nofun

theorem RebuiltBody.kept_iff (R : RebuiltBody f groups c w) {l : Nat} :
    l ∈ keptLeaves groups ↔ ∃ n d p, w.doc n = some d ∧ p ∈ d.pages ∧ .placed l ∈ p.slots := kept_iff_document R.doc

end

/-- Settles O60: the scan of the rest, the groups of R168 place by place, the documents and leaves they give, and what
waits for the part. -/
theorem theRebuildReadsTheCatalogFromTheHeaders : Obligations.TheRebuildReadsTheCatalogFromTheHeaders := by
  intro s hp hcat hflash
  have hf := hflash.2
  have K := Flash.groupsOf_kept hf
  have hscan := State.scannedBody_frame s
  have hcat' : s.scannedBody.catalog = [] := by rw [hscan]; exact hcat
  have heq : s.quiet.rebuild = { s.quiet with
      body := s.scannedBody.rebuiltFrom (groupsOf s.flash.valid) (droppedFound s.flash.valid (groupsOf s.flash.valid)),
      recovery := { s.recovery with
        part := s.recovery.afterStart, mark := true, scanned := Config.leaves,
        coldRebuilt := (groupsOf s.flash.valid).length,
        coldDropped := (droppedFound s.flash.valid (groupsOf s.flash.valid)).length } } := State.rebuild_eq s.quiet
  have hexec : exec .rebuildComplete s = .next s.quiet.rebuild.resume := if_pos hp
  have hworks : s.quiet.rebuild.recovery.part.works = true := by
    rw [State.rebuild_part]
    exact Recovery.afterStart_works _
  have hleafScan := foldl_scanLeaf_leaf s.flash (unscanned s.recovery.scanned) s.body
  have hbankScan := foldl_scanLeaf_bank s.flash (unscanned s.recovery.scanned) s.body
  change ∀ m, s.scannedBody.leaf m = _ at hleafScan
  change ∀ k, s.scannedBody.bank k = _ at hbankScan
  generalize groupsOf s.flash.valid = groups at *
  have R := Body.rebuiltFrom_rebuilt hf K hcat'
  have hdropped := K.dropped_length hf
  have hdroppedMem := fun l => mem_droppedFound (l := l) (groups := groups) hf
  have hdroppedRise := droppedFound_pairwise hf groups
  have hvalid := fun p hp => s.flash.valid_length (p := p) hp
  have hleafCounts := Body.rebuiltFrom_leafCounts (groups := groups) (dropped := droppedFound s.flash.valid groups) hcat'
  have hdocuments := Body.rebuiltFrom_documents (groups := groups) (dropped := droppedFound s.flash.valid groups) hcat'
  have hlast := fun e => Body.rebuiltFrom_last (groups := groups) (dropped := droppedFound s.flash.valid groups) (e := e) hcat'
  have hbank := s.scannedBody.rebuiltFrom_bank groups (droppedFound s.flash.valid groups)
  have haccount := s.scannedBody.rebuiltFrom_account groups (droppedFound s.flash.valid groups)
  have hattends := s.scannedBody.rebuiltFrom_attends groups (droppedFound s.flash.valid groups)
  have hnext := s.scannedBody.rebuiltFrom_nextSerial groups (droppedFound s.flash.valid groups)
  have hframe := s.scannedBody.rebuiltFrom_frame groups (droppedFound s.flash.valid groups)
  generalize droppedFound s.flash.valid groups = dropped at *
  generalize s.scannedBody.rebuiltFrom groups dropped = w at *
  generalize s.scannedBody = c at *
  refine ⟨s.quiet.rebuild, s.quiet.rebuild.resume, hexec, State.resume_resumed hworks, ?_⟩
  generalize s.quiet.rebuild = v at *
  have hbody : v.body = w := by rw [heq]
  have hrecovery : v.recovery = { s.recovery with
      part := s.recovery.afterStart, mark := true, scanned := Config.leaves, coldRebuilt := groups.length,
      coldDropped := dropped.length } := by rw [heq]
  have hothers : v = { s with body := v.body, recovery := v.recovery, sent := none } := by rw [heq]; rfl
  have hcount : w.documents.length = groups.length := by rw [hdocuments, List.length_map, List.length_zipIdx]
  have haccountScan : ∀ x, c.account x = s.body.account x := fun x => by
    unfold Body.account; rw [hscan]
  have hattendScan : ∀ x, c.attends x = s.body.attends x := fun x => by
    unfold Body.attends; rw [hscan]
  refine ⟨hothers, by rw [hrecovery]; rfl, by rw [hrecovery], by rw [hrecovery]; rfl, by rw [hrecovery, hbody, hcount], ?_⟩
  clear heq hothers
  rw [hbody, hrecovery]
  refine ⟨?valid, fun n d => R.document K, fun n d hd => R.keptAt K hd, ?bytes, fun q l => R.fits K,
    fun n m d e => R.rising K, fun n d => R.dense, ?spared, ?scanned, ?banks, ?others, ?frame, ?account, ?attends, ?rest,
    ?first, hlast⟩
  case valid =>
    rw [hleafCounts]
    refine hdropped.trans (hvalid _ fun e => ?_)
    cases e.2.classOf <;> simp
  case bytes =>
    intro n d p hd hpd
    obtain ⟨g, hg, rfl⟩ := R.group hd
    refine K.byteLength (List.mem_of_getElem? hg) hpd fun l h hh => ?_
    dsimp only
    rw [hh]
  case spared =>
    intro l h hh
    by_cases hk : l ∈ keptLeaves groups
    · exact .inl (R.kept_iff.mp hk)
    · exact .inr (R.dropped l h hh hk)
  case scanned =>
    intro l h1 h2
    have hread : (∀ h, (s.flash.spareOf l).classOf ≠ .valid h) →
        w.leaf l = (s.flash.spareOf l).classOf.scanned (s.body.leaf l) := fun hv => by
      rw [R.others l hv, hleafScan, if_pos (mem_unscanned.mpr ⟨h1, h2⟩)]
    refine ⟨fun hc => ?_, fun hc => ?_, fun hc => ?_⟩ <;> rw [hread fun h => by rw [hc]; nofun, hc] <;> rfl
  case banks =>
    intro k hk
    refine ⟨dropped.filter (fun l => l % 4 = k), hdroppedRise.filter _, fun l => ?_, ?_⟩
    · rw [List.mem_filter, hdroppedMem, R.kept_iff, decide_eq_true_eq]
      exact and_comm
    · rw [hbank, hbankScan, unscanned_eq]
  case others =>
    intro l hl hv
    rw [R.others l hv, hleafScan, if_neg fun hm => ?_]
    have := mem_unscanned.mp hm
    omega
  case frame => exact hframe.trans (by rw [hscan])
  case account => rw [haccount, if_pos rfl, hleafCounts]
  case attends =>
    rw [hattends, if_pos rfl, hattendScan, hdocuments]
    cases groups <;> rfl
  case rest =>
    intro x hx
    rw [haccount, hattends, if_neg hx, if_neg hx]
    exact ⟨haccountScan x, hattendScan x⟩
  case first =>
    intro hnil
    have hgroups : groups = [] := List.length_eq_zero_iff.mp (by rw [← hcount, hnil]; rfl)
    rw [hnext, hgroups]
    rfl

end Sys2Proof.Machine
end

section
/-! A rebuild keeps the stale staging queue of an IDLE session: the law of the leaf store asks for empty queues of IDLE sessions
while the part works, but not while it is REBUILDING, and REBUILD_COMPLETE leaves the sessions as they are (R52, R167). -/

namespace Sys2Proof.Machine

section
variable {b : Body} {k : Nat}

/-- Without READY buffers no bank chooses in POWER_FAIL (R88). -/
theorem Body.choose_powerFail_idle (hr : b.ready = []) (floor k : Nat) : b.choose .powerFail floor k = none := by
  have hnone : ∀ u, b.programWork k u = none := fun u => by
    unfold Body.programWork
    rw [hr]
    rfl
  change (b.programWork k 3 <|> b.programWork k 2 <|> b.programWork k 1) = none
  rw [hnone, hnone, hnone]
  rfl

theorem Body.arbitrate_idle {part : PartState} {floor : Nat} (h : ∀ k, b.choose part floor k = none) :
    b.arbitrate part floor = b := by
  have hwait : b.waitingBanks part floor = [] := List.eq_nil_iff_forall_not_mem.mpr fun k hk => by
    obtain ⟨_, _, w, hw⟩ := Body.mem_waitingBanks.mp hk
    rw [h] at hw
    cases hw
  unfold Body.arbitrate Body.arbitrateFor
  rw [hwait]

end

/-- Nothing but an IDLE session whose staging queue still names buffer 0. -/
def staleBody : Body := { Body.cold with sessions := [(0, ⟨.idle, none, none, [0]⟩)] }

/-- A part that is REBUILDING under PFW over an erased array, its session 0 IDLE with a staging queue. -/
def staleRebuild : State :=
  { body := staleBody,
    tables := Tables.cold 0 0,
    time := Timebase.cold,
    recovery := { part := .rebuilding, mark := false, backup := true, pfw := true, lastStart := .cold, scanned := 0,
                  warmClosed := 0, warmDiscarded := 0, warmRemoved := 0, coldRebuilt := 0, coldDropped := 0 },
    flash := ⟨[], [], 0⟩,
    txn := .none,
    resetHeld := false,
    sent := none,
    cuts := 0,
    pending := [] }

/-- The same state as REBUILD_COMPLETE is due. -/
def staleWaiting : State := { staleRebuild with pending := [.rebuildComplete] }

theorem staleBody_session (k : Nat) : (staleBody.session k).state = .idle := by
  have hread : staleBody.session k = if k = 0 then ⟨.idle, none, none, [0]⟩ else Session.idle := rfl
  rw [hread]
  split_ifs <;> rfl

theorem staleBody_chargesLawful : staleBody.chargesLawful := Body.cold.coldStart_chargesLawful.congr rfl rfl rfl

theorem staleWaiting_chargesLawful : staleWaiting.chargesLawful :=
  Body.chargesLawful.idle staleBody_chargesLawful staleBody_session (fun _ ha => by cases ha) fun _ _ => rfl

theorem staleBody_scannedLawful (f : Flash) : staleBody.scannedLawful f 0 where
  empty := ⟨rfl, rfl⟩
  canonical := ⟨List.Pairwise.nil, nofun⟩
  leaves l := by rw [if_neg (Nat.not_lt_zero l)]; rfl
  blank k _ := ⟨List.nodup_nil, fun l => ⟨nofun, fun h => absurd h.1 (Nat.not_lt_zero l)⟩⟩
  erase k _ := ⟨List.nodup_nil, fun l => ⟨nofun, fun h => absurd h.1 (Nat.not_lt_zero l)⟩⟩

theorem staleWaiting_storeLawful : staleWaiting.storeLawful where
  array _ _ := rfl
  believed h := by rcases h with h | h | h | ⟨h, _⟩ <;> cases h
  working h := by rcases h with h | h <;> cases h
  resting _ := ⟨fun _ => rfl, rfl, rfl, fun _ _ => ⟨rfl, rfl⟩⟩
  scan _ := staleBody_scannedLawful _
  rolled _ ha := by cases ha

/-- What the rebuild makes of the body: nothing, the scanned leaves and lists apart. -/
theorem staleRebuild_rebuilt : staleRebuild.rebuild.body.sessions = staleBody.sessions ∧
    staleRebuild.rebuild.body.ready = [] ∧ staleRebuild.rebuild.body.documents = [] := by
  have hbody : staleRebuild.rebuild.body = staleRebuild.scannedBody.rebuiltFrom [] [] := by rw [State.rebuild_eq]; rfl
  have hframe := staleRebuild.scannedBody.rebuiltFrom_frame [] []
  have hscan := staleRebuild.scannedBody_frame
  have hcat : staleRebuild.scannedBody.catalog = [] := by rw [hscan]; rfl
  rw [hbody]
  refine ⟨?_, ?_, Body.rebuiltFrom_documents hcat⟩
  · rw [hframe, hscan]; rfl
  · rw [hframe, hscan]; rfl

/-- Nothing waits for the part after the rebuild, so no queue changes. -/
theorem staleRebuild_sessions : staleRebuild.rebuild.resume.body.sessions = staleBody.sessions := by
  obtain ⟨hsessions, hready, hdocs⟩ := staleRebuild_rebuilt
  have hpart : staleRebuild.rebuild.recovery.part = .powerFail := State.rebuild_part staleRebuild
  have hquiet := State.resume_quiet (s := staleRebuild.rebuild) fun e he => by rw [hdocs] at he; cases he
  generalize staleRebuild.rebuild = v at *
  have hidle : v.body.arbitrate v.recovery.part v.tables.floor = v.body := Body.arbitrate_idle fun k => by
    rw [hpart]; exact Body.choose_powerFail_idle hready _ k
  rw [hquiet]
  exact (congrArg Body.sessions hidle).trans hsessions

theorem exec_rebuildComplete {s : State} (h : s.recovery.part = .rebuilding) :
    exec .rebuildComplete s = .next s.quiet.rebuild.resume := if_pos h

theorem staleWaiting_step : step staleWaiting = .next staleRebuild.rebuild.resume :=
  exec_rebuildComplete (s := staleRebuild) rfl

/-- Refutes O13: in `staleWaiting` the array is erased, nothing is scanned yet, and session 0 is IDLE with the queue `[0]`;
REBUILD_COMPLETE leaves the part in POWER_FAIL with the session as it was. -/
theorem not_everyStepKeepsTheLeafStoreAgreeing : ¬ Obligations.EveryStepKeepsTheLeafStoreAgreeing := by
  intro h
  have hlawful : staleWaiting.recovery.lawful :=
    ⟨nofun, nofun, fun _ => rfl, nofun, Nat.zero_le _⟩
  have hflash : staleWaiting.flash.lawful := ⟨⟨List.Pairwise.nil, nofun⟩, List.Pairwise.nil, nofun⟩
  have hstore := h _ _ staleWaiting_chargesLawful hlawful hflash staleWaiting_storeLawful staleWaiting_step
  have hsession := Body.session_congr staleRebuild_sessions 0
  have hpart : staleRebuild.rebuild.resume.recovery.part = .powerFail := by
    rw [State.resume_frame]
    exact State.rebuild_part staleRebuild
  obtain ⟨hpool, _⟩ := hstore.working (.inr hpart)
  obtain ⟨_, _, hempty, _⟩ := hpool.queues 0
  rw [hsession] at hempty
  cases hempty rfl

end Sys2Proof.Machine
end

section
/-! The law of the leaf store taken apart: what each leaf, each buffer, each list and each bank has to fit, so that a change
of one leaf, one buffer and one place is checked there alone (R66 to R76, R82, R83, R88, R94, R97). -/

namespace Sys2Proof.Machine

/-! ### Lists that hold exactly what meets a condition, each once -/

/-- The list holds exactly the numbers that meet the condition, each once. -/
def Listing (l : List Nat) (p : Nat → Prop) : Prop := l.Nodup ∧ ∀ x, x ∈ l ↔ p x

section
variable {l : List Nat} {p q : Nat → Prop} {i : Nat}

theorem Listing.congr (h : Listing l p) (hq : ∀ x, q x ↔ p x) : Listing l q :=
  ⟨h.1, fun x => (h.2 x).trans (hq x).symm⟩

theorem Listing.nil (h : ∀ x, ¬ p x) : Listing [] p := ⟨List.nodup_nil, fun x => by simp [h x]⟩

theorem Listing.append (h : Listing l p) (hi : ¬ p i) (hq : ∀ x, q x ↔ p x ∨ x = i) : Listing (l ++ [i]) q := by
  refine ⟨List.nodup_append.mpr ⟨h.1, List.nodup_singleton i, fun a ha c hc hac => ?_⟩, fun x => ?_⟩
  · rw [List.mem_singleton.mp hc] at hac
    exact hi ((h.2 i).mp (hac ▸ ha))
  · rw [List.mem_append, List.mem_singleton, h.2, hq]

theorem Listing.cons (h : Listing l p) (hi : ¬ p i) (hq : ∀ x, q x ↔ p x ∨ x = i) : Listing (i :: l) q := by
  refine ⟨List.nodup_cons.mpr ⟨fun hm => hi ((h.2 i).mp hm), h.1⟩, fun x => ?_⟩
  rw [List.mem_cons, h.2, hq, or_comm]

theorem Listing.filter (h : Listing l p) (hq : ∀ x, q x ↔ p x ∧ x ≠ i) : Listing (l.filter (fun j => j ≠ i)) q := by
  refine ⟨h.1.filter _, fun x => ?_⟩
  rw [List.mem_filter, h.2, hq, decide_eq_true_eq]

theorem Listing.tail (h : Listing l p) (hi : l.head? = some i) (hq : ∀ x, q x ↔ p x ∧ x ≠ i) : Listing l.tail q := by
  cases l with
  | nil => cases hi
  | cons a l =>
    cases hi
    obtain ⟨hn, hl⟩ := List.nodup_cons.mp h.1
    refine ⟨hl, fun x => ?_⟩
    rw [List.tail_cons, hq, ← h.2, List.mem_cons]
    constructor
    · exact fun hx => ⟨.inr hx, fun he => hn (he ▸ hx)⟩
    · rintro ⟨rfl | hx, hne⟩
      · exact absurd rfl hne
      · exact hx

end

/-! ### Leaf slots at places -/

section
variable {b c : Body} {n : Nat} {d f : Document} {p : Place}

theorem Body.slotAt_congr (h : c.catalog = b.catalog) (p : Place) : c.slotAt p = b.slotAt p := by
  unfold Body.slotAt
  rw [Body.doc_congr h]

/-- The leaf slot of a document at a page and an index. -/
def Document.slotAt (d : Document) (page index : Nat) : Option LeafSlot := (d.page page).bind (fun g => g.slots[index]?)

theorem Body.slotAt_doc (hd : b.doc n = some d) (page index : Nat) : b.slotAt ⟨n, page, index⟩ = d.slotAt page index := by
  unfold Body.slotAt
  rw [hd]
  rfl

theorem Body.slotAt_none (hd : b.doc p.slot = none) : b.slotAt p = none := by
  unfold Body.slotAt
  rw [hd]
  rfl

theorem Body.setDoc_slotAt (b : Body) (n : Nat) (f : Document) (p : Place) :
    (b.setDoc n f).slotAt p = if p.slot = n then f.slotAt p.page p.index else b.slotAt p := by
  unfold Body.slotAt
  rw [Body.setDoc_doc]
  split_ifs <;> rfl

theorem Document.slotAt_of_slots (h : f.pages.map (fun g => g.slots) = d.pages.map (fun g => g.slots)) (page index : Nat) :
    f.slotAt page index = d.slotAt page index := by
  have hget : ∀ e : Document, ((e.pages[page - 1]?).bind (fun g => g.slots[index]?)) =
      (((e.pages.map (fun g => g.slots))[page - 1]?).bind (fun s => s[index]?)) := fun e => by
    rw [List.getElem?_map]
    cases e.pages[page - 1]? <;> rfl
  unfold Document.slotAt Document.page
  split_ifs
  · rfl
  · rw [hget, hget, h]

/-- A document whose pages keep their slots leaves every place as it is. -/
theorem Body.setDoc_slotAt_same (hd : b.doc n = some d) (h : f.pages.map (fun g => g.slots) = d.pages.map (fun g => g.slots))
    (p : Place) : (b.setDoc n f).slotAt p = b.slotAt p := by
  rw [Body.setDoc_slotAt]
  split_ifs with hp
  · rw [Document.slotAt_of_slots h, ← Body.slotAt_doc hd, ← hp]
  · rfl

theorem Document.mem_leafSlots {page index : Nat} {v : LeafSlot} :
    (page, index, v) ∈ d.leafSlots ↔ d.slotAt page index = some v := by
  unfold Document.leafSlots Document.slotAt Document.page
  rw [List.mem_flatMap]
  constructor
  · rintro ⟨⟨g, j⟩, hg, hm⟩
    obtain ⟨⟨w, x⟩, hw, he⟩ := List.mem_map.mp hm
    cases he
    rw [if_neg (Nat.succ_ne_zero j), Nat.add_sub_cancel, List.mem_zipIdx_iff_getElem?.mp hg]
    exact List.mem_zipIdx_iff_getElem?.mp hw
  · intro h
    split_ifs at h with hp
    · cases h
    · obtain ⟨g, hg, hx⟩ := Option.bind_eq_some_iff.mp h
      refine ⟨(g, page - 1), List.mem_zipIdx_iff_getElem?.mpr hg, List.mem_map.mpr ⟨(v, index), List.mem_zipIdx_iff_getElem?.mpr hx, ?_⟩⟩
      rw [show page - 1 + 1 = page by omega]

theorem Body.mem_leafSlots (hd : b.doc n = some d) {page index : Nat} {v : LeafSlot} :
    (page, index, v) ∈ d.leafSlots ↔ b.slotAt ⟨n, page, index⟩ = some v := by
  rw [Document.mem_leafSlots, Body.slotAt_doc hd]

/-- One leaf slot of a document changes. -/
theorem Document.updLeafSlot_slotAt (d : Document) {page index : Nat} (hp : page ≠ 0) (g : LeafSlot → LeafSlot)
    (page' index' : Nat) : (d.updLeafSlot page index g).slotAt page' index' =
      if page' = page ∧ index' = index then (d.slotAt page index).map g else d.slotAt page' index' := by
  unfold Document.updLeafSlot Document.updPage Document.slotAt Document.page
  by_cases hz : page' = 0
  · have hne : ¬ (page' = page ∧ index' = index) := fun h => hp (h.1 ▸ hz)
    rw [if_pos hz, if_pos hz, if_neg hne]
  · rw [if_neg hz, if_neg hz, if_neg hp, getElem?_updateNth]
    by_cases he : page' = page
    · subst he
      rw [if_pos rfl]
      cases d.pages[page' - 1]? with
      | none => simp
      | some a =>
        simp only [Option.map_some, Option.bind_some, getElem?_updateNth, true_and]
        split_ifs with hi
        · rw [hi]
        · rfl
    · rw [if_neg (by omega), if_neg fun h => he h.1]

theorem Body.updLeafSlot_slotAt (hd : b.doc n = some d) {page index : Nat} (hp : page ≠ 0) (g : LeafSlot → LeafSlot)
    (q : Place) : (b.setDoc n (d.updLeafSlot page index g)).slotAt q =
      if q = ⟨n, page, index⟩ then (b.slotAt q).map g else b.slotAt q := by
  obtain ⟨m, x, y⟩ := q
  rw [Body.setDoc_slotAt]
  by_cases hm : m = n
  · subst hm
    rw [if_pos rfl, Document.updLeafSlot_slotAt d hp g, Body.slotAt_doc hd]
    simp only [Place.mk.injEq, true_and]
    split_ifs with h
    · rw [h.1, h.2]
    · rfl
  · rw [if_neg hm, if_neg fun h => hm (congrArg Place.slot h)]

theorem Body.slotAt_page {v : LeafSlot} (h : b.slotAt p = some v) : p.page ≠ 0 := by
  intro hz
  unfold Body.slotAt Document.page at h
  obtain ⟨d, _, h⟩ := Option.bind_eq_some_iff.mp h
  rw [hz, if_pos rfl] at h
  cases h

theorem Body.slotAt_some {v : LeafSlot} (h : b.slotAt p = some v) : ∃ d, b.doc p.slot = some d ∧ d.slotAt p.page p.index = some v :=
  Option.bind_eq_some_iff.mp h

theorem Body.freeSlot_slotAt (b : Body) (n : Nat) (p : Place) :
    (b.freeSlot n).slotAt p = if p.slot = n then none else b.slotAt p := by
  unfold Body.slotAt
  rw [Body.freeSlot_doc]
  split_ifs <;> rfl

end

/-! ### Leaves -/

/-- A leaf stands in the leaf table as its state says, and owns the slots that name it (R82). -/
structure Body.LeafFits (b : Body) (l : Nat) : Prop where
  bounded : 65536 ≤ l → b.leaf l = Leaf.blank
  owner : (b.leaf l).owner.isSome = true ↔ (b.leaf l).state = .filling ∨ (b.leaf l).state = .ready ∨
    (b.leaf l).state = .programming ∨ (b.leaf l).state = .programmed
  buffer : (b.leaf l).buffer.isSome = true ↔ (b.leaf l).state = .filling ∨ (b.leaf l).state = .ready ∨
    (b.leaf l).state = .programming
  placed : ∀ p, (b.leaf l).owner = some p ↔ b.slotAt p = some (.placed l)

/-- A state in which a leaf has no owner. -/
def LeafState.bare : LeafState → Bool
  | .blank | .voiding | .void | .erasing | .retired => true
  | .filling | .ready | .programming | .programmed => false

/-- A state in which a leaf has a buffer. -/
def LeafState.buffered : LeafState → Bool
  | .filling | .ready | .programming => true
  | .blank | .voiding | .void | .erasing | .retired | .programmed => false

section
variable {b : Body} {l i : Nat} {p : Place} {st : LeafState}

theorem Body.LeafFits.ofBare (h : b.leaf l = ⟨st, none, none⟩) (hst : st.bare = true) (hl : l < 65536)
    (hp : ∀ q, b.slotAt q ≠ some (.placed l)) : b.LeafFits l := by
  refine ⟨fun hb => absurd hl hb.not_gt, ?_, ?_, fun q => ?_⟩
  · rw [h]; cases st <;> simp [LeafState.bare] at hst ⊢
  · rw [h]; cases st <;> simp [LeafState.bare] at hst ⊢
  · rw [h]; exact ⟨nofun, fun hq => absurd hq (hp q)⟩

theorem Body.LeafFits.ofBuffered (h : b.leaf l = ⟨st, some p, some i⟩) (hst : st.buffered = true) (hl : l < 65536)
    (hp : ∀ q, b.slotAt q = some (.placed l) ↔ q = p) : b.LeafFits l := by
  refine ⟨fun hb => absurd hl hb.not_gt, ?_, ?_, fun q => ?_⟩
  · rw [h]; cases st <;> simp [LeafState.buffered] at hst ⊢
  · rw [h]; cases st <;> simp [LeafState.buffered] at hst ⊢
  · rw [h, hp, Option.some_inj, eq_comm]

theorem Body.LeafFits.ofProgrammed (h : b.leaf l = ⟨.programmed, some p, none⟩) (hl : l < 65536)
    (hp : ∀ q, b.slotAt q = some (.placed l) ↔ q = p) : b.LeafFits l := by
  refine ⟨fun hb => absurd hl hb.not_gt, by rw [h]; simp, by rw [h]; simp, fun q => ?_⟩
  rw [h, hp, Option.some_inj, eq_comm]

theorem Body.LeafFits.bare (h : b.LeafFits l) (hst : (b.leaf l).state.bare = true) :
    b.leaf l = ⟨(b.leaf l).state, none, none⟩ ∧ ∀ q, b.slotAt q ≠ some (.placed l) := by
  have ho : (b.leaf l).owner = none := by
    rw [← Option.not_isSome_iff_eq_none, h.owner]
    cases hs : (b.leaf l).state <;> rw [hs] at hst <;> simp [LeafState.bare] at hst ⊢
  have hb : (b.leaf l).buffer = none := by
    rw [← Option.not_isSome_iff_eq_none, h.buffer]
    cases hs : (b.leaf l).state <;> rw [hs] at hst <;> simp [LeafState.bare] at hst ⊢
  refine ⟨?_, fun q hq => ?_⟩
  · calc b.leaf l = ⟨(b.leaf l).state, (b.leaf l).owner, (b.leaf l).buffer⟩ := rfl
      _ = ⟨(b.leaf l).state, none, none⟩ := by rw [ho, hb]
  · rw [← h.placed, ho] at hq
    cases hq

theorem Body.LeafFits.buffered (h : b.LeafFits l) (hst : (b.leaf l).state.buffered = true) : l < 65536 ∧ ∃ p i,
    b.leaf l = ⟨(b.leaf l).state, some p, some i⟩ ∧ ∀ q, b.slotAt q = some (.placed l) ↔ q = p := by
  have ho : (b.leaf l).owner.isSome = true := by
    rw [h.owner]
    cases hs : (b.leaf l).state <;> rw [hs] at hst <;> simp [LeafState.buffered] at hst ⊢
  have hb : (b.leaf l).buffer.isSome = true := by
    rw [h.buffer]
    cases hs : (b.leaf l).state <;> rw [hs] at hst <;> simp [LeafState.buffered] at hst ⊢
  obtain ⟨p, hp⟩ := Option.isSome_iff_exists.mp ho
  obtain ⟨i, hi⟩ := Option.isSome_iff_exists.mp hb
  refine ⟨?_, p, i, ?_, fun q => ?_⟩
  · by_contra hl
    rw [h.bounded (by omega)] at hst
    cases hst
  · rw [← hp, ← hi]
  · rw [← h.placed, hp, Option.some_inj, eq_comm]

theorem Body.LeafFits.programmed (h : b.LeafFits l) (hst : (b.leaf l).state = .programmed) : l < 65536 ∧ ∃ p,
    b.leaf l = ⟨.programmed, some p, none⟩ ∧ ∀ q, b.slotAt q = some (.placed l) ↔ q = p := by
  obtain ⟨p, hp⟩ := Option.isSome_iff_exists.mp (h.owner.mpr (.inr (.inr (.inr hst))))
  have hb : (b.leaf l).buffer = none := by
    rw [← Option.not_isSome_iff_eq_none, h.buffer, hst]
    simp
  refine ⟨?_, p, ?_, fun q => ?_⟩
  · by_contra hl
    rw [h.bounded (by omega)] at hst
    cases hst
  · rw [← hst, ← hp, ← hb]
  · rw [← h.placed, hp, Option.some_inj, eq_comm]

/-- A slot that names a leaf is one of an owned leaf. -/
theorem Body.LeafFits.owned (h : b.LeafFits l) (hp : b.slotAt p = some (.placed l)) :
    (b.leaf l).owner = some p ∧ l < 65536 ∧ (b.leaf l).state.bare = false := by
  have ho := (h.placed p).mpr hp
  have hs := h.owner.mp (by rw [ho]; rfl)
  refine ⟨ho, ?_, ?_⟩
  · by_contra hl
    rw [h.bounded (by omega)] at ho
    cases ho
  · rcases hs with hs | hs | hs | hs <;> rw [hs] <;> rfl

end

/-! ### Buffers -/

/-- A buffer waits for a replacement leaf behind a slot. -/
def Body.Waits (b : Body) (i : Nat) (p : Place) : Prop := (b.buffer i).place = some p ∧ (b.buffer i).leaf = none

/-- A buffer stands as its state says (R66 to R76). -/
structure Body.BufferFits (b : Body) (i : Nat) : Prop where
  free : (b.buffer i).state = .free → b.buffer i = Buffer.free
  bounded : 144 ≤ i → b.buffer i = Buffer.free
  behind : ∀ st, (b.buffer i).state.leafState = some st → (b.buffer i).discard = false ∧ ∃ p, (b.buffer i).place = some p ∧
    (∀ l, (b.buffer i).leaf = some l → b.leaf l = ⟨st, some p, some i⟩) ∧
    ((b.buffer i).leaf = none → st = .ready ∧ b.slotAt p = some .unplaced)
  windowed : (b.buffer i).state = .fetching ∨ (b.buffer i).state = .window →
    (b.buffer i).leaf.isSome = true ∧ (b.buffer i).place = none ∧ (b.buffer i).holder = some .delivery ∧
    ((b.buffer i).discard = true → (b.buffer i).state = .fetching)

/-- A leaf's buffer names the leaf again. -/
def Body.LeafKnown (b : Body) (l : Nat) : Prop :=
  ∀ i, (b.leaf l).buffer = some i → (b.buffer i).leaf = some l ∧ (b.buffer i).state.leafState = some (b.leaf l).state

/-! ### Banks -/

/-- The leaf state that an operation under way gives a leaf. -/
def BankOp.leafState (op : BankOp) (m : Nat) : Option LeafState :=
  match op with
  | .program _ l _ => if l = m then some .programming else Option.none
  | .voidMark l => if l = m then some .voiding else Option.none
  | .erase l => if l = m then some .erasing else Option.none
  | .none | .fetch _ => Option.none

/-- A leaf state that an operation gives, or none. -/
def LeafState.busy : LeafState → Option LeafState
  | .programming => some .programming
  | .voiding => some .voiding
  | .erasing => some .erasing
  | .blank | .filling | .ready | .programmed | .void | .retired => none

/-- The operation under way on a bank is the one its leaf or its window waits for (R88, R94). -/
structure Body.BankFits (b : Body) (k : Nat) : Prop where
  works : ∀ m, m % 4 = k → (b.leaf m).state.busy = (b.bank k).op.leafState m
  home : ∀ m, m % 4 ≠ k → (b.bank k).op.leafState m = none
  programBuffer : ∀ i l h, (b.bank k).op = .program i l h → (b.leaf l).buffer = some i
  fetches : (b.bank k).fetchQueue.Nodup ∧ (∀ i ∈ (b.bank k).fetchQueue, (b.bank k).op ≠ .fetch i) ∧
    ∀ i, (i ∈ (b.bank k).fetchQueue ∨ (b.bank k).op = .fetch i) ↔
      (b.buffer i).state = .fetching ∧ ∃ l, (b.buffer i).leaf = some l ∧ l % 4 = k

/-! ### Sessions -/

/-- A buffer of session `k` fills a slot of the last page of its document, so many from the page's end. -/
def Body.Fills (b : Body) (k : Nat) (o : Option Nat) (back : Nat) : Prop :=
  ∃ n d g i, (b.session k).doc = some n ∧ b.doc n = some d ∧ d.pages.getLast? = some g ∧ o = some i ∧
    (b.buffer i).state = .filling ∧ (b.buffer i).place = some ⟨n, d.pages.length, g.slots.length - back⟩

/-- The tails of the staging queues: a session IN_PAGE fills its last slot, and an APPEND that rolled over the one before. -/
structure TailsFit (txn : Transaction) (b : Body) : Prop where
  tail : ∀ k, (b.session k).state = .inPage → b.Fills k (b.session k).queue.getLast? 1
  rolled : ∀ a, txn = .appending a → a.rolled = true →
    b.Fills a.session (b.session a.session).queue.dropLast.getLast? 2

/-! ### The store -/

/-- The lists of leaves and buffers. -/
structure Body.ListsFit (b : Body) : Prop where
  blank : ∀ k, k < 4 → Listing (b.bank k).blank (fun l => l < 65536 ∧ l % 4 = k ∧ (b.leaf l).state = .blank)
  erase : ∀ k, k < 4 → Listing (b.bank k).eraseQueue (fun l => l < 65536 ∧ l % 4 = k ∧ (b.leaf l).state = .void)
  ready : Listing b.ready (fun i => (b.buffer i).state = .ready ∨ (b.buffer i).state = .programming)
  windows : Listing b.windows (fun i => (b.buffer i).state = .fetching ∨ (b.buffer i).state = .window)
  queues : ∀ k, Listing (b.session k).queue (fun i => (b.buffer i).holder = some (.session k))
  short : ∀ k, (b.session k).queue.length ≤ 4 ∧ ((b.session k).state = .idle → (b.session k).queue = [])

/-- Every leaf, buffer and bank fits. -/
structure Body.PartsFit (b : Body) : Prop where
  canonical : Table.wf Leaf.blank b.leaves
  leaf : ∀ l, b.LeafFits l
  known : ∀ l, b.LeafKnown l
  buffer : ∀ i, b.BufferFits i
  alone : ∀ i j p, b.Waits i p → b.Waits j p → i = j
  bank : ∀ k, k < 4 → b.BankFits k

/-- The law of the leaf store and the staging pool while the part works. -/
structure StoreHeld (txn : Transaction) (b : Body) : Prop where
  parts : b.PartsFit
  lists : b.ListsFit
  tails : TailsFit txn b

section
variable {b : Body} {txn : Transaction} {i l k : Nat} {p : Place}

theorem BufState.leafState_isSome_iff (s : BufState) : s.leafState = none ↔ s = .free ∨ s = .fetching ∨ s = .window := by
  cases s <;> simp [BufState.leafState]

/-- A buffer with a place stands behind a slot. -/
theorem Body.BufferFits.ofPlace (h : b.BufferFits i) (hp : (b.buffer i).place = some p) :
    ∃ st, (b.buffer i).state.leafState = some st := by
  cases hs : (b.buffer i).state.leafState with
  | some st => exact ⟨st, rfl⟩
  | none =>
    rcases (BufState.leafState_isSome_iff _).mp hs with hs | hs | hs
    · rw [h.free hs] at hp; cases hp
    · rw [(h.windowed (.inl hs)).2.1] at hp; cases hp
    · rw [(h.windowed (.inr hs)).2.1] at hp; cases hp

theorem Body.BufferFits.waits (h : b.BufferFits i) (hw : b.Waits i p) :
    (b.buffer i).state = .ready ∧ b.slotAt p = some .unplaced := by
  obtain ⟨st, hst⟩ := h.ofPlace hw.1
  obtain ⟨_, q, hq, _, hnone⟩ := h.behind st hst
  rw [hw.1] at hq
  cases hq
  obtain ⟨rfl, hs⟩ := hnone hw.2
  refine ⟨?_, hs⟩
  cases hbs : (b.buffer i).state <;> rw [hbs] at hst <;> cases hst

theorem LeafState.busy_eq_iff {s t : LeafState} (ht : t = .programming ∨ t = .voiding ∨ t = .erasing) :
    s.busy = some t ↔ s = t := by
  rcases ht with rfl | rfl | rfl <;> cases s <;> simp [LeafState.busy]

theorem BankOp.leafState_program {op : BankOp} : op.leafState l = some .programming ↔ ∃ i h, op = .program i l h := by
  cases op with
  | program i m h =>
    simp only [BankOp.leafState]
    constructor
    · intro hm; split_ifs at hm with hml; exact ⟨i, h, by rw [hml]⟩
    · rintro ⟨j, g, he⟩; cases he; exact if_pos rfl
  | _ => simp [BankOp.leafState]

theorem BankOp.leafState_voidMark {op : BankOp} : op.leafState l = some .voiding ↔ op = .voidMark l := by
  cases op <;> simp [BankOp.leafState]

theorem BankOp.leafState_erase {op : BankOp} : op.leafState l = some .erasing ↔ op = .erase l := by
  cases op <;> simp [BankOp.leafState]

/-- A bank fits where its operations and fetches are those of the law (R88, R94). -/
theorem Body.bankFits_iff : b.BankFits k ↔
    (∀ l, (∃ i h, (b.bank k).op = .program i l h) ↔ l % 4 = k ∧ (b.leaf l).state = .programming) ∧
    (∀ i l h, (b.bank k).op = .program i l h → (b.leaf l).buffer = some i) ∧
    (∀ l, (b.bank k).op = .voidMark l ↔ l % 4 = k ∧ (b.leaf l).state = .voiding) ∧
    (∀ l, (b.bank k).op = .erase l ↔ l % 4 = k ∧ (b.leaf l).state = .erasing) ∧
    (b.bank k).fetchQueue.Nodup ∧ (∀ i ∈ (b.bank k).fetchQueue, (b.bank k).op ≠ .fetch i) ∧
    ∀ i, (i ∈ (b.bank k).fetchQueue ∨ (b.bank k).op = .fetch i) ↔
      (b.buffer i).state = .fetching ∧ ∃ l, (b.buffer i).leaf = some l ∧ l % 4 = k := by
  constructor
  · intro h
    have hwork : ∀ l st, (st = .programming ∨ st = .voiding ∨ st = .erasing) →
        ((b.bank k).op.leafState l = some st ↔ l % 4 = k ∧ (b.leaf l).state = st) := fun l st hst => by
      by_cases hl : l % 4 = k
      · rw [← h.works l hl, LeafState.busy_eq_iff hst]
        exact ⟨fun hs => ⟨hl, hs⟩, fun hs => hs.2⟩
      · rw [h.home l hl]
        exact ⟨nofun, fun hs => absurd hs.1 hl⟩
    exact ⟨fun l => BankOp.leafState_program.symm.trans (hwork l _ (.inl rfl)), h.programBuffer,
      fun l => BankOp.leafState_voidMark.symm.trans (hwork l _ (.inr (.inl rfl))),
      fun l => BankOp.leafState_erase.symm.trans (hwork l _ (.inr (.inr rfl))), h.fetches⟩
  · rintro ⟨hprog, hbuf, hvoid, herase, hfetch⟩
    have hwork : ∀ l st, (b.bank k).op.leafState l = some st ↔
        (st = .programming ∨ st = .voiding ∨ st = .erasing) ∧ l % 4 = k ∧ (b.leaf l).state = st := fun l st => by
      constructor
      · intro hs
        have hst : st = .programming ∨ st = .voiding ∨ st = .erasing := by
          cases hop : (b.bank k).op <;> rw [hop] at hs <;> simp only [BankOp.leafState] at hs
          · cases hs
          · split_ifs at hs; cases hs; exact .inl rfl
          · cases hs
          · split_ifs at hs; cases hs; exact .inr (.inl rfl)
          · split_ifs at hs; cases hs; exact .inr (.inr rfl)
        refine ⟨hst, ?_⟩
        rcases hst with rfl | rfl | rfl
        · exact (hprog l).mp (BankOp.leafState_program.mp hs)
        · exact (hvoid l).mp (BankOp.leafState_voidMark.mp hs)
        · exact (herase l).mp (BankOp.leafState_erase.mp hs)
      · rintro ⟨rfl | rfl | rfl, hl⟩
        · exact BankOp.leafState_program.mpr ((hprog l).mpr hl)
        · exact BankOp.leafState_voidMark.mpr ((hvoid l).mpr hl)
        · exact BankOp.leafState_erase.mpr ((herase l).mpr hl)
    refine ⟨fun m hm => ?_, fun m hm => ?_, hbuf, hfetch⟩
    · refine Option.ext fun st => ?_
      rw [hwork]
      constructor
      · intro hs
        cases hst : (b.leaf m).state <;> rw [hst] at hs <;> simp only [LeafState.busy] at hs <;> cases hs
        · exact ⟨.inl rfl, hm, rfl⟩
        · exact ⟨.inr (.inl rfl), hm, rfl⟩
        · exact ⟨.inr (.inr rfl), hm, rfl⟩
      · rintro ⟨hst, _, he⟩
        exact (LeafState.busy_eq_iff hst).mpr he
    · cases hs : (b.bank k).op.leafState m with
      | none => rfl
      | some st => exact absurd ((hwork m st).mp hs).2.1 hm

/-- The law as the model states it, while the part works. -/
theorem StoreHeld.lawful (h : StoreHeld txn b) : b.leavesLawful ∧ b.poolLawful ∧ b.banksLawful := by
  obtain ⟨P, L, T⟩ := h
  have hb := fun k hk => Body.bankFits_iff.mp (P.bank k hk)
  refine ⟨⟨P.canonical, fun l => (P.leaf l).bounded, fun l => (P.leaf l).owner, fun l => (P.leaf l).buffer,
    fun l => (P.leaf l).placed, L.blank, L.erase⟩,
    ⟨fun i => (P.buffer i).free, fun i => (P.buffer i).bounded, fun i st hst => ?_, fun l i hi => P.known l i hi,
      fun i => (P.buffer i).windowed, L.ready, L.windows,
      fun k => ⟨(L.queues k).1, (L.short k).1, (L.short k).2, (L.queues k).2⟩, T.tail⟩,
    ⟨fun k hk => (hb k hk).1, fun k hk => (hb k hk).2.1, fun k hk => (hb k hk).2.2.1, fun k hk => (hb k hk).2.2.2.1,
      fun k hk => (hb k hk).2.2.2.2⟩⟩
  obtain ⟨hd, p, hp, hleaf, hnone⟩ := (P.buffer i).behind st hst
  refine ⟨hd, p, hp, ?_⟩
  split
  · rename_i l hl
    exact hleaf l hl
  · rename_i hl
    obtain ⟨h1, h2⟩ := hnone hl
    exact ⟨h1, h2, fun j hj hjl => P.alone j i p ⟨hj, hjl⟩ ⟨hp, hl⟩⟩

/-- The law taken apart. -/
theorem StoreHeld.of_lawful (hl : b.leavesLawful) (hp : b.poolLawful) (hb : b.banksLawful)
    (hr : ∀ a, txn = .appending a → a.rolled = true → b.Fills a.session (b.session a.session).queue.dropLast.getLast? 2) :
    StoreHeld txn b := by
  have hbehind : ∀ i st, (b.buffer i).state.leafState = some st → (b.buffer i).discard = false ∧
      ∃ p, (b.buffer i).place = some p ∧ (∀ l, (b.buffer i).leaf = some l → b.leaf l = ⟨st, some p, some i⟩) ∧
        ((b.buffer i).leaf = none → st = .ready ∧ b.slotAt p = some .unplaced ∧
          ∀ j, (b.buffer j).place = some p → (b.buffer j).leaf = none → j = i) := fun i st hst => by
    obtain ⟨hd, p, hp, hm⟩ := hp.behind i st hst
    refine ⟨hd, p, hp, fun l hl => ?_, fun hn => ?_⟩
    · rw [hl] at hm; exact hm
    · rw [hn] at hm; exact hm
  have hfits : ∀ i, b.BufferFits i := fun i => ⟨hp.free i, hp.bounded i, fun st hst => by
    obtain ⟨hd, p, hpl, hleaf, hnone⟩ := hbehind i st hst
    exact ⟨hd, p, hpl, hleaf, fun hn => ⟨(hnone hn).1, (hnone hn).2.1⟩⟩, hp.windowed i⟩
  refine ⟨⟨hl.canonical, fun l => ⟨hl.bounded l, hl.owner l, hl.buffer l, hl.placed l⟩, hp.before, hfits, ?_, fun k hk => ?_⟩,
    ⟨hl.blank, hl.erase, hp.ready, hp.windows, fun k => ⟨(hp.queues k).1, (hp.queues k).2.2.2⟩,
      fun k => ⟨(hp.queues k).2.1, (hp.queues k).2.2.1⟩⟩, ⟨hp.tail, hr⟩⟩
  · intro i j p hi hj
    obtain ⟨st, hst⟩ := (hfits j).ofPlace hj.1
    obtain ⟨_, q, hq, _, hnone⟩ := hbehind j st hst
    rw [hj.1] at hq
    cases hq
    exact (hnone hj.2).2.2 i hi.1 hi.2
  · exact Body.bankFits_iff.mpr ⟨hb.programs k hk, hb.programBuffer k hk, hb.voidMarks k hk, hb.erases k hk, hb.fetches k hk⟩

end

end Sys2Proof.Machine
end

section
/-! A change of one leaf, one buffer and one place: the rest of the store fits as before. -/

namespace Sys2Proof.Machine

/-- Nothing but leaf `l`, buffer `i` and place `p` has changed in the leaf table, the pool and the slots that name leaves or
wait for them. -/
structure Touches (b c : Body) (l i : Option Nat) (p : Option Place) : Prop where
  canonical : Table.wf Leaf.blank c.leaves
  leaf : ∀ m, l ≠ some m → c.leaf m = b.leaf m
  buffer : ∀ j, i ≠ some j → c.buffer j = b.buffer j
  slot : ∀ q, p ≠ some q → ∀ v, v ≠ .released → (c.slotAt q = some v ↔ b.slotAt q = some v)

section
variable {b c : Body} {l i : Option Nat} {p : Option Place} {k : Nat}

theorem Touches.bufferCond (ht : Touches b c l i p) {q : Buffer → Prop}
    (h : ∀ j, i = some j → (q (c.buffer j) ↔ q (b.buffer j))) (j : Nat) : q (c.buffer j) ↔ q (b.buffer j) := by
  by_cases hj : i = some j
  · exact h j hj
  · rw [ht.buffer j hj]

/-! ### Banks -/

theorem Body.BankFits.op_state (h : b.BankFits k) {m : Nat} {st : LeafState} (hs : (b.bank k).op.leafState m = some st) :
    m % 4 = k ∧ (b.leaf m).state.busy = some st := by
  by_cases hm : m % 4 = k
  · exact ⟨hm, (h.works m hm).trans hs⟩
  · rw [h.home m hm] at hs
    cases hs

/-- A bank whose operation and fetch queue stay, while no leaf takes up or leaves an operation's state. -/
theorem Body.BankFits.touch (h : b.BankFits k) (ht : Touches b c l i p) (hop : (c.bank k).op = (b.bank k).op)
    (hq : (c.bank k).fetchQueue = (b.bank k).fetchQueue)
    (hl : ∀ m, l = some m → (c.leaf m).state.busy = (b.leaf m).state.busy ∧ (b.leaf m).state ≠ .programming)
    (hi : ∀ j, i = some j → (c.buffer j).state ≠ .fetching ∧ (b.buffer j).state ≠ .fetching) : c.BankFits k := by
  refine ⟨fun m hm => ?_, fun m hm => by rw [hop]; exact h.home m hm, fun j m g hp => ?_, ?_⟩
  · rw [hop, ← h.works m hm]
    by_cases hlm : l = some m
    · exact (hl m hlm).1
    · rw [ht.leaf m hlm]
  · rw [hop] at hp
    have hb := h.programBuffer j m g hp
    have hprog : (b.leaf m).state = .programming :=
      (LeafState.busy_eq_iff (.inl rfl)).mp (h.op_state (BankOp.leafState_program.mpr ⟨j, g, hp⟩)).2
    rw [ht.leaf m fun hlm => (hl m hlm).2 hprog]
    exact hb
  · rw [hop, hq]
    refine ⟨h.fetches.1, h.fetches.2.1, fun j => (h.fetches.2.2 j).trans ?_⟩
    exact (ht.bufferCond (q := fun v => v.state = .fetching ∧ ∃ m, v.leaf = some m ∧ m % 4 = k) (fun j hj =>
      ⟨fun hc => absurd hc.1 (hi j hj).1, fun hb => absurd hb.1 (hi j hj).2⟩) j).symm

/-- A bank that takes up or ends an operation on a leaf of its own. -/
theorem Body.BankFits.retouch (h : b.BankFits k) {m : Nat} (ht : Touches b c (some m) i p) (hm : m % 4 = k)
    (hb : ∀ x, x ≠ m → (b.bank k).op.leafState x = none) (hc : ∀ x, x ≠ m → (c.bank k).op.leafState x = none)
    (hl : (c.leaf m).state.busy = (c.bank k).op.leafState m)
    (hprog : ∀ j g, (c.bank k).op = .program j m g → (c.leaf m).buffer = some j)
    (hq : (c.bank k).fetchQueue = (b.bank k).fetchQueue) (hf : ∀ j, (c.bank k).op ≠ .fetch j)
    (hf' : ∀ j, (b.bank k).op ≠ .fetch j)
    (hi : ∀ j, i = some j → (c.buffer j).state ≠ .fetching ∧ (b.buffer j).state ≠ .fetching) : c.BankFits k := by
  refine ⟨fun x hx => ?_, fun x hx => hc x fun hxm => hx (hxm ▸ hm), fun j x g hp => ?_, ?_⟩
  · by_cases hxm : x = m
    · rw [hxm]; exact hl
    · rw [hc x hxm, ← hb x hxm, ht.leaf x fun he => hxm (Option.some.inj he).symm]
      exact h.works x hx
  · by_cases hxm : x = m
    · subst hxm; exact hprog j g hp
    · have := hc x hxm
      rw [BankOp.leafState_program.mpr ⟨j, g, hp⟩] at this
      cases this
  · rw [hq]
    refine ⟨h.fetches.1, fun j _ => hf j, fun j => ?_⟩
    rw [ht.bufferCond (q := fun v => v.state = .fetching ∧ ∃ m, v.leaf = some m ∧ m % 4 = k) (fun j hj =>
      ⟨fun hc => absurd hc.1 (hi j hj).1, fun hb => absurd hb.1 (hi j hj).2⟩) j, ← h.fetches.2.2 j]
    simp only [hf j, hf' j, or_false]

/-- A bank of which no leaf is touched, while another bank works. -/
theorem Body.BankFits.elsewhere (h : b.BankFits k) {m : Nat} (ht : Touches b c (some m) i p) (hm : m % 4 ≠ k)
    (hop : (c.bank k).op = (b.bank k).op) (hq : (c.bank k).fetchQueue = (b.bank k).fetchQueue)
    (hi : ∀ j, i = some j → (c.buffer j).state ≠ .fetching ∧ (b.buffer j).state ≠ .fetching) : c.BankFits k := by
  refine ⟨fun x hx => ?_, fun x hx => by rw [hop]; exact h.home x hx, fun j x g hp => ?_, ?_⟩
  · rw [hop, ht.leaf x fun he => hm (Option.some.inj he ▸ hx)]
    exact h.works x hx
  · rw [hop] at hp
    have hx := (h.op_state (BankOp.leafState_program.mpr ⟨j, g, hp⟩)).1
    rw [ht.leaf x fun he => hm (Option.some.inj he ▸ hx)]
    exact h.programBuffer j x g hp
  · rw [hop, hq]
    refine ⟨h.fetches.1, h.fetches.2.1, fun j => (h.fetches.2.2 j).trans ?_⟩
    exact (ht.bufferCond (q := fun v => v.state = .fetching ∧ ∃ m, v.leaf = some m ∧ m % 4 = k) (fun j hj =>
      ⟨fun hc => absurd hc.1 (hi j hj).1, fun hb => absurd hb.1 (hi j hj).2⟩) j).symm

/-! ### Leaves and buffers -/

/-- The rest fits as before where no other buffer names the touched leaf, no other leaf the touched buffer, no other buffer
waits at the touched place, and what is touched fits. -/
theorem Body.PartsFit.touch (h : b.PartsFit) (ht : Touches b c l i p)
    (hown : ∀ m, l = some m → ∀ j, (b.leaf m).buffer = some j → i = some j)
    (hhas : ∀ j, i = some j → ∀ m, (b.leaf m).buffer = some j → l = some m)
    (hslot : ∀ q, p = some q → ∀ m, l ≠ some m → (c.slotAt q = some (.placed m) ↔ b.slotAt q = some (.placed m)))
    (hwait : ∀ q, p = some q → ∀ j, i ≠ some j → ¬ b.Waits j q)
    (hleaf : ∀ m, l = some m → c.LeafFits m ∧ c.LeafKnown m)
    (hbuf : ∀ j, i = some j → c.BufferFits j)
    (halone : ∀ j, i = some j → ∀ q, c.Waits j q → ∀ x, x ≠ j → ¬ b.Waits x q)
    (hbank : ∀ k, k < 4 → c.BankFits k) : c.PartsFit where
  canonical := ht.canonical
  leaf m := by
    by_cases hm : l = some m
    · exact (hleaf m hm).1
    · have he := ht.leaf m hm
      have hfit := h.leaf m
      refine ⟨fun hb => he.trans (hfit.bounded hb), by rw [he]; exact hfit.owner, by rw [he]; exact hfit.buffer, fun q => ?_⟩
      rw [he, hfit.placed]
      by_cases hq : p = some q
      · exact (hslot q hq m hm).symm
      · exact (ht.slot q hq (.placed m) nofun).symm
  known m := by
    by_cases hm : l = some m
    · exact (hleaf m hm).2
    · intro j hj
      rw [ht.leaf m hm] at hj ⊢
      rw [ht.buffer j fun hi => hm (hhas j hi m hj)]
      exact h.known m j hj
  buffer j := by
    by_cases hj : i = some j
    · exact hbuf j hj
    · have he := ht.buffer j hj
      have hfit := h.buffer j
      refine ⟨fun hs => ?_, fun hb => he.trans (hfit.bounded hb), fun st hst => ?_, ?_⟩
      · rw [he] at hs ⊢; exact hfit.free hs
      · rw [he] at hst ⊢
        obtain ⟨hd, q, hq, hleafs, hnone⟩ := hfit.behind st hst
        refine ⟨hd, q, hq, fun m hm => ?_, fun hn => ?_⟩
        · have hbm := hleafs m hm
          rw [ht.leaf m fun hl => hj (hown m hl j (by rw [hbm])), hbm]
        · obtain ⟨hs, hu⟩ := hnone hn
          exact ⟨hs, (ht.slot q (fun hp => hwait q hp j hj ⟨hq, hn⟩) .unplaced nofun).mpr hu⟩
      · rw [he]; exact hfit.windowed
  alone x y q hx hy := by
    have hw : ∀ z, i ≠ some z → c.Waits z q → b.Waits z q := fun z hz hc => by
      unfold Body.Waits at hc ⊢
      rwa [ht.buffer z hz] at hc
    by_contra hne
    by_cases hxi : i = some x
    · by_cases hyi : i = some y
      · exact hne (Option.some.inj (hxi.symm.trans hyi))
      · exact halone x hxi q hx y (Ne.symm hne) (hw y hyi hy)
    · by_cases hyi : i = some y
      · exact halone y hyi q hy x hne (hw x hxi hx)
      · exact hne (h.alone x y q (hw x hxi hx) (hw y hyi hy))
  bank := hbank

/-! ### Tails of the queues -/

theorem Body.Fills.transport {o o' : Option Nat} {back : Nat} (h : b.Fills k o back)
    (hdoc : (c.session k).doc = (b.session k).doc)
    (hd : ∀ n d, (b.session k).doc = some n → b.doc n = some d → ∃ f, c.doc n = some f ∧ f.mask = d.mask)
    (ho : ∀ j, o = some j → (b.buffer j).state = .filling → o' = some j ∧ (c.buffer j).state = .filling ∧
      (c.buffer j).place = (b.buffer j).place) : c.Fills k o' back := by
  obtain ⟨n, d, g, j, hn, hdn, hg, hj, hst, hp⟩ := h
  obtain ⟨f, hf, hm⟩ := hd n d hn hdn
  obtain ⟨r, hr, hlen⟩ := Document.lastPage_of_mask hm hg
  obtain ⟨hj', hst', hp'⟩ := ho j hj hst
  have hpages : f.pages.length = d.pages.length := by
    have := congrArg List.length hm
    unfold Document.mask at this
    rwa [List.length_map, List.length_map] at this
  exact ⟨n, f, r, j, hdoc.trans hn, hf, hr, hj', hst', by rw [hp', hp, hpages, hlen]⟩

/-- The last entry of a queue stays the last where others leave it. -/
theorem getLast?_filter {q : List Nat} {p : Nat → Bool} {j : Nat} (hj : q.getLast? = some j) (hp : p j = true) :
    (q.filter p).getLast? = some j := by
  obtain ⟨r, rfl⟩ := List.getLast?_eq_some_iff.mp hj
  rw [List.filter_append, List.filter_cons_of_pos hp]
  exact List.getLast?_concat

theorem dropLast_getLast?_filter {q : List Nat} {p : Nat → Bool} {j t : Nat} (hj : q.dropLast.getLast? = some j)
    (hp : p j = true) (ht : q.getLast? = some t) (hpt : p t = true) : (q.filter p).dropLast.getLast? = some j := by
  obtain ⟨r, rfl⟩ := List.getLast?_eq_some_iff.mp ht
  rw [List.dropLast_concat] at hj
  obtain ⟨u, rfl⟩ := List.getLast?_eq_some_iff.mp hj
  rw [List.filter_append, List.filter_cons_of_pos hpt, List.filter_append, List.filter_cons_of_pos hp, List.filter_nil,
    List.dropLast_concat]
  exact List.getLast?_concat

/-- The tails stay where the sessions and the pages of their documents do, the FILLING buffers keep their places, and only
others leave the queues. -/
theorem TailsFit.transport {txn : Transaction} (h : TailsFit txn b) (hc : OpenCalls txn b) (hs : SessionsKept b c)
    (hd : ∀ k n d, (b.session k).doc = some n → b.doc n = some d → d.state = .receiving → d.session = some k →
      ∃ f, c.doc n = some f ∧ f.mask = d.mask)
    {keep : Nat → Nat → Bool} (hq : ∀ k, (c.session k).queue = (b.session k).queue.filter (keep k))
    (hk : ∀ k j, (b.buffer j).state = .filling → keep k j = true)
    (hbuf : ∀ j, (b.buffer j).state = .filling → (c.buffer j).state = .filling ∧ (c.buffer j).place = (b.buffer j).place) :
    TailsFit txn c := by
  have hdoc : ∀ k, (b.session k).state = .inPage → ∀ n d, (b.session k).doc = some n → b.doc n = some d →
      ∃ f, c.doc n = some f ∧ f.mask = d.mask := fun k hin n d hn hdn => by
    obtain ⟨m, e, hm, he, hrec, hses, _⟩ := hc.sessions k (by rw [hin]; nofun)
    rw [hn] at hm
    cases hm
    rw [hdn] at he
    cases he
    exact hd k n d hn hdn hrec hses
  refine ⟨fun k hin => ?_, fun a ha hr => ?_⟩
  · rw [(hs k).1] at hin
    refine (h.tail k hin).transport (hs k).2 (hdoc k hin) fun j hj hst => ?_
    rw [hq]
    exact ⟨getLast?_filter hj (hk k j hst), hbuf j hst⟩
  · have hin := (hc.append a ha).1
    obtain ⟨_, _, _, t, _, _, _, ht, htst, _⟩ := h.tail a.session hin
    refine (h.rolled a ha hr).transport (hs _).2 (hdoc _ hin) fun j hj hst => ?_
    rw [hq]
    exact ⟨dropLast_getLast?_filter hj (hk _ j hst) ht (hk _ t htst), hbuf j hst⟩

/-- The same with the queues as they were. -/
theorem TailsFit.sameQueues {txn : Transaction} (h : TailsFit txn b) (hc : OpenCalls txn b) (hs : SessionsKept b c)
    (hd : ∀ k n d, (b.session k).doc = some n → b.doc n = some d → d.state = .receiving → d.session = some k →
      ∃ f, c.doc n = some f ∧ f.mask = d.mask)
    (hq : ∀ k, (c.session k).queue = (b.session k).queue)
    (hbuf : ∀ j, (b.buffer j).state = .filling → (c.buffer j).state = .filling ∧ (c.buffer j).place = (b.buffer j).place) :
    TailsFit txn c :=
  h.transport hc hs hd (keep := fun _ _ => true) (fun k => by rw [List.filter_true, hq]) (fun _ _ _ => rfl) hbuf

end

end Sys2Proof.Machine
end

section
/-! The lists of the store under the operations of the state: each keeps its list holding exactly its leaves or buffers. -/

namespace Sys2Proof.Machine

section
variable {b c : Body} {i l k : Nat}

/-- Nothing that a list holds by has changed, and the lists stand. -/
theorem Body.ListsFit.keep (h : b.ListsFit)
    (hleaf : ∀ m, ((c.leaf m).state = .blank ↔ (b.leaf m).state = .blank) ∧ ((c.leaf m).state = .void ↔ (b.leaf m).state = .void))
    (hbuf : ∀ j, ((c.buffer j).state = .ready ∨ (c.buffer j).state = .programming ↔
      (b.buffer j).state = .ready ∨ (b.buffer j).state = .programming) ∧
      ((c.buffer j).state = .fetching ∨ (c.buffer j).state = .window ↔
        (b.buffer j).state = .fetching ∨ (b.buffer j).state = .window) ∧ (c.buffer j).holder = (b.buffer j).holder)
    (hbank : ∀ j, (c.bank j).blank = (b.bank j).blank ∧ (c.bank j).eraseQueue = (b.bank j).eraseQueue)
    (hr : c.ready = b.ready) (hw : c.windows = b.windows) (hq : ∀ j, (c.session j).queue = (b.session j).queue)
    (hs : ∀ j, (c.session j).state = .idle → (b.session j).state = .idle) : c.ListsFit where
  blank j hj := by
    rw [(hbank j).1]
    exact (h.blank j hj).congr fun x => by rw [(hleaf x).1]
  erase j hj := by
    rw [(hbank j).2]
    exact (h.erase j hj).congr fun x => by rw [(hleaf x).2]
  ready := by
    rw [hr]
    exact h.ready.congr fun x => (hbuf x).1
  windows := by
    rw [hw]
    exact h.windows.congr fun x => (hbuf x).2.1
  queues j := by
    rw [hq]
    exact (h.queues j).congr fun x => by rw [(hbuf x).2.2]
  short j := by
    rw [hq]
    exact ⟨(h.short j).1, fun hi => (h.short j).2 (hs j hi)⟩

/-- The lists see leaves, buffers, banks and sessions alone. -/
theorem Body.ListsFit.congr (h : b.ListsFit) (hleaf : ∀ m, c.leaf m = b.leaf m) (hbuf : ∀ j, c.buffer j = b.buffer j)
    (hbank : ∀ j, c.bank j = b.bank j) (hr : c.ready = b.ready) (hw : c.windows = b.windows)
    (hses : ∀ j, c.session j = b.session j) : c.ListsFit :=
  h.keep (fun m => by rw [hleaf]; exact ⟨.rfl, .rfl⟩) (fun j => by rw [hbuf]; exact ⟨.rfl, .rfl, rfl⟩)
    (fun j => by rw [hbank]; exact ⟨rfl, rfl⟩) hr hw (fun j => by rw [hses]) fun j => by rw [hses]; exact id

/-- A leaf that is and was neither BLANK nor VOID changes. -/
theorem Body.ListsFit.setLeaf (h : b.ListsFit) (v : Leaf) (hb : v.state = .blank ↔ (b.leaf l).state = .blank)
    (hv : v.state = .void ↔ (b.leaf l).state = .void) : (b.setLeaf l v).ListsFit := by
  refine h.keep (fun m => ?_) (fun _ => ⟨.rfl, .rfl, rfl⟩) (fun _ => ⟨rfl, rfl⟩) rfl rfl (fun _ => rfl) fun _ => id
  rw [Body.setLeaf_leaf]
  split_ifs with hm
  · rw [hm]; exact ⟨hb, hv⟩
  · exact ⟨.rfl, .rfl⟩

/-- A buffer changes and stays in the lists it was in. -/
theorem Body.ListsFit.setBuffer (h : b.ListsFit) (v : Buffer)
    (hr : v.state = .ready ∨ v.state = .programming ↔ (b.buffer i).state = .ready ∨ (b.buffer i).state = .programming)
    (hw : v.state = .fetching ∨ v.state = .window ↔ (b.buffer i).state = .fetching ∨ (b.buffer i).state = .window)
    (hh : v.holder = (b.buffer i).holder) : (b.setBuffer i v).ListsFit := by
  refine h.keep (fun _ => ⟨.rfl, .rfl⟩) (fun j => ?_) (fun _ => ⟨rfl, rfl⟩) rfl rfl (fun _ => rfl) fun _ => id
  rw [Body.setBuffer_buffer]
  split_ifs with hj
  · rw [hj]; exact ⟨hr, hw, hh⟩
  · exact ⟨.rfl, .rfl, rfl⟩

/-- A bank changes and keeps its blank list and its erase queue. -/
theorem Body.ListsFit.setBank (h : b.ListsFit) (v : Bank) (hb : v.blank = (b.bank k).blank)
    (he : v.eraseQueue = (b.bank k).eraseQueue) : (b.setBank k v).ListsFit := by
  refine h.keep (fun _ => ⟨.rfl, .rfl⟩) (fun _ => ⟨.rfl, .rfl, rfl⟩) (fun j => ?_) rfl rfl (fun _ => rfl) fun _ => id
  rw [Body.setBank_bank]
  split_ifs with hj
  · rw [hj]; exact ⟨hb, he⟩
  · exact ⟨rfl, rfl⟩

theorem Body.ListsFit.setOp (h : b.ListsFit) (op : BankOp) : (b.setOp k op).ListsFit := h.setBank _ rfl rfl

/-! ### Blank lists and erase queues -/

/-- The front leaf of a blank list is taken off. -/
theorem Body.ListsFit.popLeaf (h : b.ListsFit) (hk : k < 4) (hl : (b.bank k).blank.head? = some l) {v : Leaf}
    (hb : v.state ≠ .blank) (hv : v.state ≠ .void) : ((b.popBlank k).setLeaf l v).ListsFit := by
  have hmem := ((h.blank k hk).2 l).mp (List.mem_of_mem_head? hl)
  have hbank : ∀ j, ((b.popBlank k).setLeaf l v).bank j =
      if j = k then { b.bank k with blank := (b.bank k).blank.tail } else b.bank j := fun j => by
    rw [Body.setLeaf_bank, Body.popBlank, Body.setBank_bank]
  have hleaf : ∀ m, ((b.popBlank k).setLeaf l v).leaf m = if m = l then v else b.leaf m := fun m => by
    rw [Body.setLeaf_leaf]; rfl
  refine ⟨fun j hj => ?_, fun j hj => ?_, h.ready, h.windows, h.queues, h.short⟩
  · rw [hbank]
    by_cases hjk : j = k
    · rw [if_pos hjk]
      subst hjk
      refine (h.blank j hj).tail hl fun x => ?_
      rw [hleaf]
      by_cases hx : x = l
      · simp [hx, hb]
      · simp [hx]
    · rw [if_neg hjk]
      refine (h.blank j hj).congr fun x => ?_
      rw [hleaf]
      by_cases hx : x = l
      · rw [if_pos hx, hx]
        exact ⟨fun h1 => absurd h1.2.2 hb, fun h1 => absurd (h1.2.1.symm.trans hmem.2.1) hjk⟩
      · rw [if_neg hx]
  · have herase : (((b.popBlank k).setLeaf l v).bank j).eraseQueue = (b.bank j).eraseQueue := by
      rw [hbank]
      split_ifs with hjk
      · rw [hjk]
      · rfl
    rw [herase]
    refine (h.erase j hj).congr fun x => ?_
    rw [hleaf]
    by_cases hx : x = l
    · rw [if_pos hx, hx, hmem.2.2]
      simp [hv]
    · rw [if_neg hx]

/-- A leaf that joins its bank's blank list. -/
theorem Body.ListsFit.joinBlank (h : b.ListsFit) (hl : l < 65536) (hb : (b.leaf l).state ≠ .blank)
    (hv : (b.leaf l).state ≠ .void) (hleaf : ∀ m, c.leaf m = if m = l then Leaf.blank else b.leaf m)
    (hbank : ∀ j, (j ≠ l % 4 → (c.bank j).blank = (b.bank j).blank) ∧ (c.bank j).eraseQueue = (b.bank j).eraseQueue)
    (hlist : (c.bank (l % 4)).blank = (b.bank (l % 4)).blank ++ [l] ∨ (c.bank (l % 4)).blank = l :: (b.bank (l % 4)).blank)
    (hbuf : ∀ j, c.buffer j = b.buffer j) (hr : c.ready = b.ready) (hw : c.windows = b.windows)
    (hses : ∀ j, c.session j = b.session j) : c.ListsFit := by
  refine ⟨fun j hj => ?_, fun j hj => ?_, ?_, ?_, fun j => ?_, fun j => ?_⟩
  · by_cases hjl : j = l % 4
    · subst hjl
      have hnot : ¬ (l < 65536 ∧ l % 4 = l % 4 ∧ (b.leaf l).state = .blank) := fun h1 => hb h1.2.2
      have hiff : ∀ x, x < 65536 ∧ x % 4 = l % 4 ∧ (c.leaf x).state = .blank ↔
          (x < 65536 ∧ x % 4 = l % 4 ∧ (b.leaf x).state = .blank) ∨ x = l := fun x => by
        rw [hleaf]
        by_cases hx : x = l
        · simp [hx, hl, Leaf.blank]
        · simp [hx]
      rcases hlist with he | he <;> rw [he]
      · exact (h.blank _ hj).append hnot hiff
      · exact (h.blank _ hj).cons hnot hiff
    · rw [(hbank j).1 hjl]
      refine (h.blank j hj).congr fun x => ?_
      rw [hleaf]
      by_cases hx : x = l
      · rw [if_pos hx, hx]
        exact ⟨fun h1 => absurd h1.2.1.symm hjl, fun h1 => absurd h1.2.1.symm hjl⟩
      · rw [if_neg hx]
  · rw [(hbank j).2]
    refine (h.erase j hj).congr fun x => ?_
    rw [hleaf]
    by_cases hx : x = l
    · rw [if_pos hx, hx]
      simp [hv, Leaf.blank]
    · rw [if_neg hx]
  · rw [hr]; exact h.ready.congr fun x => by rw [hbuf]
  · rw [hw]; exact h.windows.congr fun x => by rw [hbuf]
  · rw [hses]; exact (h.queues j).congr fun x => by rw [hbuf]
  · rw [hses]; exact h.short j

theorem Body.ListsFit.blankLeaf (h : b.ListsFit) (hl : l < 65536) (hb : (b.leaf l).state ≠ .blank)
    (hv : (b.leaf l).state ≠ .void) : (b.blankLeaf l).ListsFit := by
  have hbank : ∀ j, (b.blankLeaf l).bank j =
      { b.bank j with blank := (b.bank j).blank ++ if j = l % 4 then [l] else [] } := fun j =>
    Body.pushBlank_bank (b.setLeaf l Leaf.blank) l j
  refine h.joinBlank hl hb hv (fun m => Body.setLeaf_leaf b l Leaf.blank m) (fun j => ⟨fun hj => ?_, ?_⟩) (.inl ?_) (fun _ => rfl) rfl rfl
    fun _ => rfl
  · rw [hbank, if_neg hj, List.append_nil]
  · rw [hbank]
  · rw [hbank, if_pos rfl]

theorem Body.ListsFit.returnLeaf (h : b.ListsFit) (hl : l < 65536) (hb : (b.leaf l).state ≠ .blank)
    (hv : (b.leaf l).state ≠ .void) : ((b.setLeaf l Leaf.blank).returnBlank l).ListsFit := by
  have hbank : ∀ j, ((b.setLeaf l Leaf.blank).returnBlank l).bank j =
      if j = l % 4 then { b.bank (l % 4) with blank := l :: (b.bank (l % 4)).blank } else b.bank j := fun j =>
    Body.setBank_bank (b.setLeaf l Leaf.blank) (l % 4) _ j
  refine h.joinBlank hl hb hv (fun m => Body.setLeaf_leaf b l Leaf.blank m) (fun j => ⟨fun hj => ?_, ?_⟩) (.inr ?_) (fun _ => rfl) rfl rfl
    fun _ => rfl
  · rw [hbank, if_neg hj]
  · rw [hbank]
    split_ifs with hj
    · rw [hj]
    · rfl
  · rw [hbank, if_pos rfl]

/-- A leaf becomes VOID at the back of its bank's erase queue. -/
theorem Body.ListsFit.voidLeaf (h : b.ListsFit) (hl : l < 65536) (hb : (b.leaf l).state ≠ .blank)
    (hv : (b.leaf l).state ≠ .void) : (b.voidLeaf l).ListsFit := by
  have hbank : ∀ j, (b.voidLeaf l).bank j =
      { b.bank j with eraseQueue := (b.bank j).eraseQueue ++ if j = l % 4 then [l] else [] } := fun j =>
    Body.voidLeaf_bank b l j
  have hleaf : ∀ m, (b.voidLeaf l).leaf m = if m = l then ⟨.void, none, none⟩ else b.leaf m := fun m =>
    Body.voidLeaf_leaf m
  refine ⟨fun j hj => ?_, fun j hj => ?_, h.ready, h.windows, h.queues, h.short⟩
  · rw [hbank]
    refine (h.blank j hj).congr fun x => ?_
    rw [hleaf]
    by_cases hx : x = l
    · rw [if_pos hx, hx]; simp [hb]
    · rw [if_neg hx]
  · rw [hbank]
    by_cases hjl : j = l % 4
    · rw [if_pos hjl]
      refine (h.erase j hj).append (fun h1 => hv h1.2.2) fun x => ?_
      rw [hleaf]
      by_cases hx : x = l
      · simp [hx, hl, hjl]
      · simp [hx]
    · rw [if_neg hjl, List.append_nil]
      refine (h.erase j hj).congr fun x => ?_
      rw [hleaf]
      by_cases hx : x = l
      · rw [if_pos hx, hx]
        exact ⟨fun h1 => absurd h1.2.1.symm hjl, fun h1 => absurd h1.2.1.symm hjl⟩
      · rw [if_neg hx]

/-- The front leaf of an erase queue is taken off. -/
theorem Body.ListsFit.startErase (h : b.ListsFit) (hk : k < 4) (hl : (b.bank k).eraseQueue.head? = some l) :
    (b.startErase k l).ListsFit := by
  have hmem := ((h.erase k hk).2 l).mp (List.mem_of_mem_head? hl)
  have hbank : ∀ j, (b.startErase k l).bank j =
      if j = k then { b.bank k with eraseQueue := (b.bank k).eraseQueue.tail, op := .erase l } else b.bank j := fun j =>
    Body.setBank_bank (b.setLeaf l ⟨.erasing, none, none⟩) k _ j
  have hleaf : ∀ m, (b.startErase k l).leaf m = if m = l then ⟨.erasing, none, none⟩ else b.leaf m := fun m =>
    Body.setLeaf_leaf b l ⟨.erasing, none, none⟩ m
  refine ⟨fun j hj => ?_, fun j hj => ?_, h.ready, h.windows, h.queues, h.short⟩
  · have hblank : ((b.startErase k l).bank j).blank = (b.bank j).blank := by
      rw [hbank]
      split_ifs with hjk
      · rw [hjk]
      · rfl
    rw [hblank]
    refine (h.blank j hj).congr fun x => ?_
    rw [hleaf]
    by_cases hx : x = l
    · rw [if_pos hx, hx, hmem.2.2]; simp
    · rw [if_neg hx]
  · rw [hbank]
    by_cases hjk : j = k
    · rw [if_pos hjk]
      subst hjk
      refine (h.erase j hj).tail hl fun x => ?_
      rw [hleaf]
      by_cases hx : x = l
      · simp [hx]
      · simp [hx]
    · rw [if_neg hjk]
      refine (h.erase j hj).congr fun x => ?_
      rw [hleaf]
      by_cases hx : x = l
      · rw [if_pos hx, hx]
        exact ⟨fun h1 => (nomatch h1.2.2), fun h1 => absurd (h1.2.1.symm.trans hmem.2.1) hjk⟩
      · rw [if_neg hx]

/-! ### The pool's lists -/

theorem Body.ListsFit.releaseBuffer (h : b.ListsFit) (i : Nat) : (b.releaseBuffer i).ListsFit := by
  have hbuf := Body.releaseBuffer_buffer b i
  have hlists : ∀ {q : List Nat} {p : Buffer → Prop}, ¬ p Buffer.free → Listing q (fun j => p (b.buffer j)) →
      Listing (q.filter (fun j => j ≠ i)) (fun j => p ((b.releaseBuffer i).buffer j)) := fun {q p} hp hq => by
    refine hq.filter fun x => ?_
    rw [hbuf]
    by_cases hx : x = i
    · simp [hx, hp]
    · simp [hx]
  have hbank : ∀ j, (b.releaseBuffer i).bank j = b.bank j := Body.bank_congr (by simp)
  have hleaf : ∀ m, (b.releaseBuffer i).leaf m = b.leaf m := Body.leaf_congr (by simp)
  refine ⟨fun j hj => ?_, fun j hj => ?_, ?_, ?_, fun j => ?_, fun j => ?_⟩
  · rw [hbank]; exact (h.blank j hj).congr fun x => by rw [hleaf]
  · rw [hbank]; exact (h.erase j hj).congr fun x => by rw [hleaf]
  · rw [Body.releaseBuffer_ready]
    exact hlists (p := fun v => v.state = .ready ∨ v.state = .programming) (by simp [Buffer.free]) h.ready
  · rw [Body.releaseBuffer_windows]
    exact hlists (p := fun v => v.state = .fetching ∨ v.state = .window) (by simp [Buffer.free]) h.windows
  · have hq := hlists (p := fun v => v.holder = some (.session j)) (by simp [Buffer.free]) (h.queues j)
    rw [Body.releaseBuffer_session_if]
    split_ifs with hh
    · exact hq
    · refine (h.queues j).congr fun x => ?_
      rw [hbuf]
      split_ifs with hx
      · rw [hx]
        exact ⟨nofun, fun hc => absurd hc hh⟩
      · exact .rfl
  · obtain ⟨h1, h2⟩ := h.short j
    rw [Body.releaseBuffer_session]
    refine ⟨(List.length_filter_le _ _).trans h1, fun hi => ?_⟩
    dsimp only at hi ⊢
    rw [h2 hi]
    rfl

/-- A FILLING buffer joins the ready list. -/
theorem Body.ListsFit.makeReady (h : b.ListsFit) (hi : (b.buffer i).state = .filling) {m : Nat}
    (hl : (b.buffer i).leaf = some m) (hm : (b.leaf m).state = .filling) : (b.makeReady i).ListsFit := by
  have hset : (b.setLeaf m { b.leaf m with state := .ready }).ListsFit := h.setLeaf _ (by simp [hm]) (by simp [hm])
  have hbuf : ∀ j, (b.makeReady i).buffer j = if j = i then { b.buffer i with state := .ready } else b.buffer j :=
    Body.makeReady_buffer b i
  rw [Body.makeReady_leaf_eq hl] at hbuf ⊢
  refine ⟨hset.blank, hset.erase, hset.ready.append (i := i) ?_ fun x => ?_, hset.windows.congr fun x => ?_, fun j => ?_,
    hset.short⟩
  · rw [Body.setLeaf_buffer, hi]; nofun
  · rw [hbuf]
    by_cases hx : x = i
    · simp [hx]
    · simp [hx]
  · rw [hbuf]
    by_cases hx : x = i
    · simp [hx, hi]
    · simp [hx]
  · refine (hset.queues j).congr fun x => ?_
    rw [hbuf]
    by_cases hx : x = i
    · simp [hx]
    · simp [hx]

/-- A FREE buffer is taken for a session and joins the end of its queue. -/
theorem Body.ListsFit.enqueue (h : b.ListsFit) (hi : b.buffer i = Buffer.free) {v : Buffer} {u : Session}
    (hv : v.state = .filling) (hh : v.holder = some (.session k)) (hq : u.queue = (b.session k).queue ++ [i])
    (hu : u.state ≠ .idle) (hlen : (b.session k).queue.length < 4) : ((b.setBuffer i v).setSession k u).ListsFit := by
  have hbuf : ∀ j, ((b.setBuffer i v).setSession k u).buffer j = if j = i then v else b.buffer j := fun j =>
    Body.setBuffer_buffer ..
  refine ⟨h.blank, h.erase, h.ready.congr fun x => ?_, h.windows.congr fun x => ?_, fun j => ?_, fun j => ?_⟩
  · rw [hbuf]
    by_cases hx : x = i
    · simp [hx, hv, hi, Buffer.free]
    · simp [hx]
  · rw [hbuf]
    by_cases hx : x = i
    · simp [hx, hv, hi, Buffer.free]
    · simp [hx]
  · rw [Body.setSession_session]
    by_cases hj : j = k
    · rw [if_pos hj, hq]
      refine (h.queues k).append (by rw [hi]; nofun) fun x => ?_
      rw [hbuf, hj]
      by_cases hx : x = i
      · simp [hx, hh]
      · simp [hx]
    · rw [if_neg hj]
      refine (h.queues j).congr fun x => ?_
      rw [hbuf]
      by_cases hx : x = i
      · simp [hx, hh, hi, Buffer.free, Ne.symm hj]
      · simp [hx]
  · rw [Body.setSession_session]
    split_ifs with hj
    · rw [hq, List.length_append]
      exact ⟨hlen, fun hs => absurd hs hu⟩
    · exact h.short j

/-- A window moves to the end of the window list. -/
theorem Body.ListsFit.touchWindow (h : b.ListsFit) (hi : i ∈ b.windows) : (b.touchWindow i).ListsFit := by
  refine ⟨h.blank, h.erase, h.ready, ?_, h.queues, h.short⟩
  have hw := (h.windows.2 i).mp hi
  exact (h.windows.filter (q := fun x => ((b.buffer x).state = .fetching ∨ (b.buffer x).state = .window) ∧ x ≠ i)
    fun x => .rfl).append (fun h1 => h1.2 rfl) fun x => by
      by_cases hx : x = i
      · rw [hx]
        exact ⟨fun _ => .inr rfl, fun _ => hw⟩
      · change (b.buffer x).state = .fetching ∨ (b.buffer x).state = .window ↔ _
        simp [hx]

/-- A buffer that is FREE or a window is taken for a fetch. -/
theorem Body.ListsFit.fetchInto (h : b.ListsFit) (hi : (b.buffer i).state = .free ∨ (b.buffer i).state = .window)
    (hh : ∀ j, (b.buffer i).holder ≠ some (.session j)) (l : Nat) : (b.fetchInto i l).ListsFit := by
  have hbuf : ∀ j, (b.fetchInto i l).buffer j =
      if j = i then ⟨.fetching, some l, none, some .delivery, [], false⟩ else b.buffer j := fun j =>
    Body.setBuffer_buffer b i ⟨.fetching, some l, none, some .delivery, [], false⟩ j
  have hbank : ∀ j, ((b.fetchInto i l).bank j).blank = (b.bank j).blank ∧
      ((b.fetchInto i l).bank j).eraseQueue = (b.bank j).eraseQueue := fun j => by
    unfold Body.fetchInto
    dsimp only
    rw [Body.setBank_bank]
    split_ifs with hj
    · rw [hj]; exact ⟨rfl, rfl⟩
    · exact ⟨rfl, rfl⟩
  refine ⟨fun j hj => ?_, fun j hj => ?_, h.ready.congr fun x => ?_, ?_, fun j => (h.queues j).congr fun x => ?_, h.short⟩
  · rw [(hbank j).1]; exact h.blank j hj
  · rw [(hbank j).2]; exact h.erase j hj
  · rw [hbuf]
    by_cases hx : x = i
    · rcases hi with hi | hi <;> simp [hx, hi]
    · simp [hx]
  · exact (h.windows.filter (q := fun x => ((b.buffer x).state = .fetching ∨ (b.buffer x).state = .window) ∧ x ≠ i)
      fun x => .rfl).append (i := i) (fun h1 => h1.2 rfl) fun x => by
        rw [hbuf]
        by_cases hx : x = i
        · simp [hx]
        · simp [hx]
  · rw [hbuf]
    by_cases hx : x = i
    · simp [hx, hh j]
    · simp [hx]

end

end Sys2Proof.Machine
end

section
/-! Leaves, buffers and banks under the changes of the sessions: a slot taken, a buffer made READY or refilled, a slot
returned (R55, R56, R67 to R70). -/

namespace Sys2Proof.Machine

theorem ne_of_some {α : Type} {x y : α} (h : some x ≠ some y) : y ≠ x := fun he => h (congrArg some he.symm)

section
variable {b c : Body} {i l k : Nat} {p : Place}

/-- Nothing that the parts see has changed but slots released. -/
theorem Body.PartsFit.congr (h : b.PartsFit) (hwf : Table.wf Leaf.blank c.leaves) (hleaf : ∀ m, c.leaf m = b.leaf m)
    (hbuf : ∀ j, c.buffer j = b.buffer j) (hslot : ∀ q v, v ≠ .released → (c.slotAt q = some v ↔ b.slotAt q = some v))
    (hbank : ∀ j, (c.bank j).op = (b.bank j).op ∧ (c.bank j).fetchQueue = (b.bank j).fetchQueue) : c.PartsFit := by
  have ht : Touches b c none none none := ⟨hwf, fun m _ => hleaf m, fun j _ => hbuf j, fun q _ => hslot q⟩
  exact h.touch ht nofun nofun nofun nofun nofun nofun nofun fun k hk =>
    (h.bank k hk).touch ht (hbank k).1 (hbank k).2 nofun nofun

/-- Where no leaf has the buffer and only the buffer changes. -/
theorem Body.PartsFit.setBuffer (h : b.PartsFit) {v : Buffer} (hown : ∀ m, (b.leaf m).buffer ≠ some i)
    (hfit : (b.setBuffer i v).BufferFits i) (hwait : v.leaf = none → v.place = none)
    (hv : v.state ≠ .fetching) (hi : (b.buffer i).state ≠ .fetching) : (b.setBuffer i v).PartsFit := by
  have hself : (b.setBuffer i v).buffer i = v := by rw [Body.setBuffer_buffer, if_pos rfl]
  have ht : Touches b (b.setBuffer i v) none (some i) none :=
    ⟨h.canonical, fun _ _ => rfl, fun j hj => by rw [Body.setBuffer_buffer, if_neg (ne_of_some hj)],
      fun _ _ _ _ => .rfl⟩
  refine h.touch ht nofun ?_ nofun nofun nofun ?_ ?_ fun k hk => (h.bank k hk).touch ht rfl rfl nofun ?_
  · rintro _ ⟨⟩ m hm; exact absurd hm (hown m)
  · rintro _ ⟨⟩; exact hfit
  · rintro _ ⟨⟩ q ⟨hq, hl⟩
    rw [hself] at hq hl
    rw [hwait hl] at hq
    cases hq
  · rintro _ ⟨⟩; rw [hself]; exact ⟨hv, hi⟩

/-- A buffer behind a leaf takes bytes, or another holder. -/
theorem Body.PartsFit.refill (h : b.PartsFit) {st : LeafState} (hst : (b.buffer i).state.leafState = some st)
    (hold : Option Holder) (data : List Byte) :
    (b.setBuffer i { b.buffer i with holder := hold, data := data }).PartsFit := by
  have hself : (b.setBuffer i { b.buffer i with holder := hold, data := data }).buffer i =
      { b.buffer i with holder := hold, data := data } := by rw [Body.setBuffer_buffer, if_pos rfl]
  have hother : ∀ j, j ≠ i → (b.setBuffer i { b.buffer i with holder := hold, data := data }).buffer j = b.buffer j :=
    fun j hj => by rw [Body.setBuffer_buffer, if_neg hj]
  have hfree : (b.buffer i).state ≠ .free := fun he => by rw [he] at hst; cases hst
  have hfetch : (b.buffer i).state ≠ .fetching := fun he => by rw [he] at hst; cases hst
  have hwin : (b.buffer i).state ≠ .window := fun he => by rw [he] at hst; cases hst
  have hwaits : ∀ q, (b.setBuffer i { b.buffer i with holder := hold, data := data }).Waits i q → b.Waits i q := fun q hq => by
    unfold Body.Waits at hq
    rwa [hself] at hq
  have ht : Touches b (b.setBuffer i { b.buffer i with holder := hold, data := data }) none (some i) none :=
    ⟨h.canonical, fun _ _ => rfl, fun j hj => hother j fun he => hj (he ▸ rfl), fun _ _ _ _ => .rfl⟩
  have hfit := h.buffer i
  constructor
  · exact h.canonical
  · exact fun m => ⟨(h.leaf m).bounded, (h.leaf m).owner, (h.leaf m).buffer, (h.leaf m).placed⟩
  · intro m j hj
    by_cases hji : j = i
    · subst hji
      rw [hself]
      exact h.known m j hj
    · rw [hother j hji]
      exact h.known m j hj
  · intro j
    by_cases hji : j = i
    · subst hji
      refine ⟨fun hs => ?_, fun hb => absurd ((congrArg Buffer.state (hfit.bounded hb)).trans rfl) hfree, fun st' hs => ?_,
        fun hs => ?_⟩
      · rw [hself] at hs; exact absurd hs hfree
      · rw [hself] at hs ⊢
        exact hfit.behind st' hs
      · rw [hself] at hs
        rcases hs with hs | hs
        · exact absurd hs hfetch
        · exact absurd hs hwin
    · have hj := h.buffer j
      have he := hother j hji
      refine ⟨fun hs => ?_, fun hb => he.trans (hj.bounded hb), fun st' hs => ?_, ?_⟩
      · rw [he] at hs ⊢; exact hj.free hs
      · rw [he] at hs ⊢; exact hj.behind st' hs
      · rw [he]; exact hj.windowed
  · intro x y q hx hy
    refine h.alone x y q ?_ ?_
    · by_cases hxi : x = i
      · subst hxi; exact hwaits q hx
      · unfold Body.Waits at hx; rwa [hother x hxi] at hx
    · by_cases hyi : y = i
      · subst hyi; exact hwaits q hy
      · unfold Body.Waits at hy; rwa [hother y hyi] at hy
  · intro k hk
    refine (h.bank k hk).touch ht rfl rfl nofun ?_
    rintro _ ⟨⟩
    rw [hself]
    exact ⟨hfetch, hfetch⟩

/-- A leaf of a session's slot is taken: BLANK leaf, FREE buffer and new slot name each other (R67, R84). -/
theorem Body.PartsFit.take (h : b.PartsFit) (hl : l < 65536) (hblank : (b.leaf l).state = .blank) (hi : i < 144)
    (hfree : (b.buffer i).state = .free) (hp : b.slotAt p = none) {hold : Option Holder}
    (hwf : Table.wf Leaf.blank c.leaves) (hleaf : ∀ m, c.leaf m = if m = l then ⟨.filling, some p, some i⟩ else b.leaf m)
    (hbuf : ∀ j, c.buffer j = if j = i then ⟨.filling, some l, some p, hold, [], false⟩ else b.buffer j)
    (hslot : ∀ q, c.slotAt q = if q = p then some (.placed l) else b.slotAt q)
    (hbank : ∀ j, (c.bank j).op = (b.bank j).op ∧ (c.bank j).fetchQueue = (b.bank j).fetchQueue) : c.PartsFit := by
  obtain ⟨hb, hnone⟩ := (h.leaf l).bare (by rw [hblank]; rfl)
  have hcl : c.leaf l = ⟨.filling, some p, some i⟩ := by rw [hleaf, if_pos rfl]
  have hci : c.buffer i = ⟨.filling, some l, some p, hold, [], false⟩ := by rw [hbuf, if_pos rfl]
  have ht : Touches b c (some l) (some i) (some p) := by
    refine ⟨hwf, fun m hm => ?_, fun j hj => ?_, fun q hq v _ => ?_⟩
    · rw [hleaf, if_neg (ne_of_some hm)]
    · rw [hbuf, if_neg (ne_of_some hj)]
    · rw [hslot, if_neg (ne_of_some hq)]
  refine h.touch ht ?_ ?_ ?_ ?_ ?_ ?_ ?_ fun k hk => (h.bank k hk).touch ht (hbank k).1 (hbank k).2 ?_ ?_
  · rintro _ ⟨⟩ j hj; rw [hb] at hj; cases hj
  · rintro _ ⟨⟩ m hm
    have := (h.known m i hm).2
    rw [hfree] at this
    cases this
  · rintro _ ⟨⟩ m hm
    rw [hslot, if_pos rfl, hp]
    exact ⟨fun he => by cases he; exact absurd rfl hm, nofun⟩
  · rintro _ ⟨⟩ j _ hw
    rw [((h.buffer j).waits hw).2] at hp
    cases hp
  · rintro _ ⟨⟩
    refine ⟨.ofBuffered hcl rfl hl fun q => ?_, fun j hj => ?_⟩
    · rw [hslot]
      split_ifs with hq
      · exact ⟨fun _ => hq, fun _ => rfl⟩
      · exact ⟨fun he => absurd he (hnone q), fun he => absurd he hq⟩
    · rw [hcl] at hj ⊢
      cases hj
      rw [hci]
      exact ⟨rfl, rfl⟩
  · rintro _ ⟨⟩
    refine ⟨fun hs => ?_, fun hb => absurd hi hb.not_gt, fun st hs => ?_, fun hs => ?_⟩
    · rw [hci] at hs; cases hs
    · rw [hci] at hs ⊢
      cases hs
      exact ⟨rfl, p, rfl, fun m hm => by cases hm; exact hcl, nofun⟩
    · rw [hci] at hs; rcases hs with hs | hs <;> cases hs
  · rintro _ ⟨⟩ q ⟨_, hn⟩; rw [hci] at hn; cases hn
  · rintro _ ⟨⟩
    rw [hcl, hblank]
    exact ⟨rfl, nofun⟩
  · rintro _ ⟨⟩
    rw [hci, hfree]
    exact ⟨nofun, nofun⟩

/-- A buffer behind a leaf, and what it names. -/
theorem Body.PartsFit.behind (h : b.PartsFit) {st : LeafState} (hst : (b.buffer i).state.leafState = some st)
    (hl : (b.buffer i).leaf = some l) : ∃ p, (b.buffer i).place = some p ∧ b.leaf l = ⟨st, some p, some i⟩ ∧
      b.slotAt p = some (.placed l) ∧ l < 65536 ∧ i < 144 ∧ (b.buffer i).discard = false := by
  obtain ⟨hd, p, hp, hleaf, _⟩ := (h.buffer i).behind st hst
  have hbl := hleaf l hl
  have hslot := ((h.leaf l).placed p).mp (by rw [hbl])
  refine ⟨p, hp, hbl, hslot, ((h.leaf l).owned hslot).2.1, ?_, hd⟩
  by_contra hi
  rw [(h.buffer i).bounded (by omega)] at hp
  cases hp

/-- Leaf and buffer behind a slot go on to another state together. -/
theorem Body.PartsFit.advance (h : b.PartsFit) {st new : LeafState} (hst : (b.buffer i).state.leafState = some st)
    (hl : (b.buffer i).leaf = some l) (hp : (b.buffer i).place = some p) {v : Buffer} (hv : v.state.leafState = some new)
    (hsame : v = { b.buffer i with state := v.state, data := v.data, holder := v.holder })
    (hwf : Table.wf Leaf.blank c.leaves) (hleaf : ∀ m, c.leaf m = if m = l then ⟨new, some p, some i⟩ else b.leaf m)
    (hbuf : ∀ j, c.buffer j = if j = i then v else b.buffer j)
    (hslot : ∀ q w, w ≠ .released → (c.slotAt q = some w ↔ b.slotAt q = some w))
    (hbank : ∀ k, k < 4 → c.BankFits k) : c.PartsFit := by
  obtain ⟨q, hq, hbl, hpl, hbound, hi, hdis⟩ := h.behind hst hl
  rw [hp] at hq
  cases hq
  have hvl : v.leaf = some l := by rw [hsame]; exact hl
  have hvp : v.place = some p := by rw [hsame]; exact hp
  have hvd : v.discard = false := by rw [hsame]; exact hdis
  have hbuffered : st.buffered = true := by
    cases hs : (b.buffer i).state <;> rw [hs] at hst <;> cases hst <;> rfl
  have hnew : new.buffered = true := by
    cases hs : v.state <;> rw [hs] at hv <;> cases hv <;> rfl
  obtain ⟨_, p', i', hbl', honly⟩ := (h.leaf l).buffered (by rw [hbl]; exact hbuffered)
  rw [hbl] at hbl'
  cases hbl'
  have hcl : c.leaf l = ⟨new, some p, some i⟩ := by rw [hleaf, if_pos rfl]
  have hci : c.buffer i = v := by rw [hbuf, if_pos rfl]
  have ht : Touches b c (some l) (some i) none := by
    refine ⟨hwf, fun m hm => ?_, fun j hj => ?_, fun q _ => hslot q⟩
    · rw [hleaf, if_neg (ne_of_some hm)]
    · rw [hbuf, if_neg (ne_of_some hj)]
  refine h.touch ht ?_ ?_ nofun nofun ?_ ?_ ?_ hbank
  · rintro _ ⟨⟩ j hj; rw [hbl] at hj; exact hj
  · rintro _ ⟨⟩ m hm
    rw [(h.known m i hm).1] at hl
    exact hl.symm
  · rintro _ ⟨⟩
    refine ⟨.ofBuffered hcl hnew hbound fun q => ?_, fun j hj => ?_⟩
    · exact (hslot q (.placed l) nofun).trans (honly q)
    · rw [hcl] at hj ⊢
      cases hj
      rw [hci]
      exact ⟨hvl, hv⟩
  · rintro _ ⟨⟩
    refine ⟨fun hs => ?_, fun hb => absurd hi hb.not_gt, fun s hs => ?_, fun hs => ?_⟩
    · rw [hci] at hs; rw [hs] at hv; cases hv
    · rw [hci] at hs ⊢
      rw [hv] at hs
      cases hs
      exact ⟨hvd, p, hvp, fun m hm => by rw [hvl] at hm; cases hm; exact hcl, fun hn => by rw [hvl] at hn; cases hn⟩
    · rw [hci] at hs
      rcases hs with hs | hs <;> rw [hs] at hv <;> cases hv
  · rintro _ ⟨⟩ q ⟨_, hn⟩; rw [hci, hvl] at hn; cases hn

/-- A FILLING buffer and its leaf become READY (R68, R86). -/
theorem Body.PartsFit.ready (h : b.PartsFit) (hst : (b.buffer i).state = .filling) (hl : (b.buffer i).leaf = some l)
    {data : List Byte} (hwf : Table.wf Leaf.blank c.leaves)
    (hleaf : ∀ m, c.leaf m = if m = l then { b.leaf l with state := .ready } else b.leaf m)
    (hbuf : ∀ j, c.buffer j = if j = i then { b.buffer i with state := .ready, data := data } else b.buffer j)
    (hslot : ∀ q w, w ≠ .released → (c.slotAt q = some w ↔ b.slotAt q = some w))
    (hbank : ∀ j, (c.bank j).op = (b.bank j).op ∧ (c.bank j).fetchQueue = (b.bank j).fetchQueue) : c.PartsFit := by
  have hfill : (b.buffer i).state.leafState = some .filling := by rw [hst]; rfl
  obtain ⟨p, hp, hbl, _⟩ := h.behind hfill hl
  have hcl : ∀ m, c.leaf m = if m = l then ⟨.ready, some p, some i⟩ else b.leaf m := fun m => by rw [hleaf, hbl]
  have ht : Touches b c (some l) (some i) none := by
    refine ⟨hwf, fun m hm => ?_, fun j hj => ?_, fun q _ => hslot q⟩
    · rw [hleaf, if_neg (ne_of_some hm)]
    · rw [hbuf, if_neg (ne_of_some hj)]
  refine h.advance hfill hl hp (new := .ready) rfl rfl hwf hcl hbuf hslot fun k hk =>
    (h.bank k hk).touch ht (hbank k).1 (hbank k).2 ?_ ?_
  · rintro _ ⟨⟩
    rw [hcl, if_pos rfl, hbl]
    exact ⟨rfl, nofun⟩
  · rintro _ ⟨⟩
    rw [hbuf, if_pos rfl, hst]
    exact ⟨nofun, nofun⟩

/-- Leaf and buffer behind a slot part from it: the leaf is bare then, or PROGRAMMED in its slot, and the buffer FREE. -/
theorem Body.PartsFit.part (h : b.PartsFit) {st : LeafState} (hst : (b.buffer i).state.leafState = some st)
    (hl : (b.buffer i).leaf = some l) (hp : (b.buffer i).place = some p) {v : Leaf}
    (hwf : Table.wf Leaf.blank c.leaves) (hleaf : ∀ m, c.leaf m = if m = l then v else b.leaf m)
    (hbuf : ∀ j, c.buffer j = if j = i then Buffer.free else b.buffer j)
    (hslot : ∀ q, q ≠ p → ∀ w, w ≠ .released → (c.slotAt q = some w ↔ b.slotAt q = some w))
    (hv : v = ⟨v.state, none, none⟩ ∧ v.state.bare = true ∧ (∀ m, c.slotAt p ≠ some (.placed m)) ∨
      v = ⟨.programmed, some p, none⟩ ∧ c.slotAt p = some (.placed l))
    (hbank : ∀ k, k < 4 → c.BankFits k) : c.PartsFit := by
  obtain ⟨q, hq, hbl, hpl, hbound, hi, _⟩ := h.behind hst hl
  rw [hp] at hq
  cases hq
  have hcl : c.leaf l = v := by rw [hleaf, if_pos rfl]
  have hci : c.buffer i = Buffer.free := by rw [hbuf, if_pos rfl]
  have honly : ∀ q, b.slotAt q = some (.placed l) ↔ q = p := fun q => by
    rw [← (h.leaf l).placed, hbl, Option.some_inj, eq_comm]
  have ht : Touches b c (some l) (some i) (some p) := by
    refine ⟨hwf, fun m hm => ?_, fun j hj => ?_, fun q hq => hslot q (ne_of_some hq)⟩
    · rw [hleaf, if_neg (ne_of_some hm)]
    · rw [hbuf, if_neg (ne_of_some hj)]
  refine h.touch ht ?_ ?_ ?_ ?_ ?_ ?_ ?_ hbank
  · rintro _ ⟨⟩ j hj; rw [hbl] at hj; exact hj
  · rintro _ ⟨⟩ m hm
    rw [(h.known m i hm).1] at hl
    exact hl.symm
  · rintro _ ⟨⟩ m hm
    rw [hpl]
    refine ⟨fun he => ?_, fun he => by cases he; exact absurd rfl hm⟩
    rcases hv with ⟨_, _, hnone⟩ | ⟨_, hcp⟩
    · exact absurd he (hnone m)
    · rw [hcp] at he; exact he
  · rintro _ ⟨⟩ j _ hw
    rw [((h.buffer j).waits hw).2] at hpl
    cases hpl
  · rintro _ ⟨⟩
    rcases hv with ⟨hv, hbare, hnone⟩ | ⟨hv, hcp⟩
    · refine ⟨.ofBare (hcl.trans hv) hbare hbound fun q hq => ?_, fun j hj => ?_⟩
      · by_cases hqp : q = p
        · rw [hqp] at hq; exact hnone l hq
        · exact hqp ((honly q).mp ((hslot q hqp (.placed l) nofun).mp hq))
      · rw [hcl, hv] at hj; cases hj
    · refine ⟨.ofProgrammed (hcl.trans hv) hbound fun q => ?_, fun j hj => ?_⟩
      · by_cases hqp : q = p
        · rw [hqp, hcp]; exact ⟨fun _ => rfl, fun _ => rfl⟩
        · rw [hslot q hqp (.placed l) nofun, honly]
      · rw [hcl, hv] at hj; cases hj
  · rintro _ ⟨⟩
    refine ⟨fun _ => hci, fun _ => hci, fun s hs => ?_, fun hs => ?_⟩
    · rw [hci] at hs; cases hs
    · rw [hci] at hs; rcases hs with hs | hs <;> cases hs
  · rintro _ ⟨⟩ q ⟨hq, _⟩; rw [hci] at hq; cases hq

end

end Sys2Proof.Machine
end

section
/-! Leaves, buffers and banks under the operations of the banks: programs, replacements, void marks, erases and fetches
(R72, R73, R78, R91 to R97). -/

namespace Sys2Proof.Machine

/-- An operation that concerns no leaf but one. -/
def BankOp.On (op : BankOp) (l : Nat) : Prop :=
  op = .none ∨ (∃ i h, op = .program i l h) ∨ op = .voidMark l ∨ op = .erase l

theorem BankOp.On.other {op : BankOp} {l x : Nat} (h : op.On l) (hx : x ≠ l) : op.leafState x = Option.none := by
  rcases h with rfl | ⟨i, g, rfl⟩ | rfl | rfl
  · rfl
  all_goals exact if_neg hx.symm

theorem BankOp.On.noFetch {op : BankOp} {l : Nat} (h : op.On l) (j : Nat) : op ≠ .fetch j := by
  rcases h with rfl | ⟨i, g, rfl⟩ | rfl | rfl <;> nofun

section
variable {b c : Body} {i l k : Nat} {p : Place}

/-- One bank takes up or ends an operation on a leaf of its own. -/
theorem Body.PartsFit.turn (h : b.PartsFit) {oi : Option Nat} {op : Option Place} (ht : Touches b c (some l) oi op)
    (hl : l % 4 = k) (hother : ∀ j, j ≠ k → (c.bank j).op = (b.bank j).op)
    (hq : ∀ j, (c.bank j).fetchQueue = (b.bank j).fetchQueue) (hb : (b.bank k).op.On l) (hc : (c.bank k).op.On l)
    (hbusy : (c.leaf l).state.busy = (c.bank k).op.leafState l)
    (hprog : ∀ j g, (c.bank k).op = .program j l g → (c.leaf l).buffer = some j)
    (hi : ∀ j, oi = some j → (c.buffer j).state ≠ .fetching ∧ (b.buffer j).state ≠ .fetching) :
    ∀ j, j < 4 → c.BankFits j := by
  intro j hj
  by_cases hjk : j = k
  · subst hjk
    exact (h.bank j hj).retouch ht hl (fun x hx => hb.other hx) (fun x hx => hc.other hx) hbusy hprog (hq j) hc.noFetch
      hb.noFetch hi
  · exact (h.bank j hj).elsewhere ht (fun he => hjk (he.symm.trans hl)) (hother j hjk) (hq j) hi

/-- A leaf that stands bare in a state that an operation of its bank gives it goes on to another. -/
theorem Body.PartsFit.bareLeaf (h : b.PartsFit) (hbare : (b.leaf l).state.bare = true) (hbound : l < 65536) {new : LeafState}
    (hnew : new.bare = true) (hl : l % 4 = k) (hwf : Table.wf Leaf.blank c.leaves)
    (hleaf : ∀ m, c.leaf m = if m = l then ⟨new, none, none⟩ else b.leaf m) (hbuf : ∀ j, c.buffer j = b.buffer j)
    (hslot : ∀ q, c.slotAt q = b.slotAt q) (hother : ∀ j, j ≠ k → (c.bank j).op = (b.bank j).op)
    (hq : ∀ j, (c.bank j).fetchQueue = (b.bank j).fetchQueue) (hb : (b.bank k).op.On l) (hc : (c.bank k).op.On l)
    (hbusy : new.busy = (c.bank k).op.leafState l) (hprog : ∀ j g, (c.bank k).op ≠ .program j l g) : c.PartsFit := by
  obtain ⟨hbl, hnone⟩ := (h.leaf l).bare hbare
  have hcl : c.leaf l = ⟨new, none, none⟩ := by rw [hleaf, if_pos rfl]
  have ht : Touches b c (some l) none none :=
    ⟨hwf, fun m hm => by rw [hleaf, if_neg (ne_of_some hm)], fun j _ => hbuf j, fun q _ v _ => by rw [hslot]⟩
  refine h.touch ht ?_ nofun nofun nofun ?_ nofun nofun
    (h.turn ht hl hother hq hb hc (by rw [hcl]; exact hbusy) (fun j g hp => absurd hp (hprog j g)) nofun)
  · rintro _ ⟨⟩ j hj; rw [hbl] at hj; cases hj
  · rintro _ ⟨⟩
    refine ⟨.ofBare hcl hnew hbound fun q => by rw [hslot]; exact hnone q, fun j hj => ?_⟩
    rw [hcl] at hj; cases hj

/-- The void mark of a PROGRAMMED leaf starts, and its slot is released (R95). -/
theorem Body.PartsFit.mark (h : b.PartsFit) (hst : (b.leaf l).state = .programmed) (hp : b.slotAt p = some (.placed l))
    (hl : l % 4 = k) (hop : (b.bank k).op = .none) (hwf : Table.wf Leaf.blank c.leaves)
    (hleaf : ∀ m, c.leaf m = if m = l then ⟨.voiding, none, none⟩ else b.leaf m) (hbuf : ∀ j, c.buffer j = b.buffer j)
    (hslot : ∀ q, c.slotAt q = if q = p then some .released else b.slotAt q)
    (hbank : ∀ j, c.bank j = if j = k then { b.bank j with op := .voidMark l } else b.bank j) : c.PartsFit := by
  obtain ⟨hbound, q, hbl, honly⟩ := (h.leaf l).programmed hst
  obtain rfl := (honly p).mp hp
  have hcl : c.leaf l = ⟨.voiding, none, none⟩ := by rw [hleaf, if_pos rfl]
  have hck : (c.bank k).op = .voidMark l := by rw [hbank, if_pos rfl]
  have ht : Touches b c (some l) none (some p) :=
    ⟨hwf, fun m hm => by rw [hleaf, if_neg (ne_of_some hm)], fun j _ => hbuf j,
      fun q hq v _ => by rw [hslot, if_neg (ne_of_some hq)]⟩
  refine h.touch ht ?_ nofun ?_ ?_ ?_ nofun nofun (h.turn ht hl (fun j hj => by rw [hbank, if_neg hj]) (fun j => ?_)
    (.inl hop) (.inr (.inr (.inl hck))) ?_ (fun j g hg => ?_) nofun)
  · rintro _ ⟨⟩ j hj; rw [hbl] at hj; cases hj
  · rintro _ ⟨⟩ m hm
    rw [hslot, if_pos rfl, hp]
    exact ⟨nofun, fun he => by cases he; exact absurd rfl hm⟩
  · rintro _ ⟨⟩ j _ hw
    rw [((h.buffer j).waits hw).2] at hp
    cases hp
  · rintro _ ⟨⟩
    refine ⟨.ofBare hcl rfl hbound fun q => ?_, fun j hj => ?_⟩
    · rw [hslot]
      split_ifs with hq
      · nofun
      · exact fun he => hq ((honly q).mp he)
    · rw [hcl] at hj; cases hj
  · rw [hbank]; split_ifs <;> rfl
  · rw [hcl, hck]; exact (if_pos rfl).symm
  · rw [hck] at hg; cases hg

/-- A program fails: the leaf is RETIRED, and its buffer waits READY behind its slot, unplaced (R73, R92). -/
theorem Body.PartsFit.lose (h : b.PartsFit) (hst : (b.buffer i).state = .programming) (hl : (b.buffer i).leaf = some l)
    (hp : (b.buffer i).place = some p) (hk : l % 4 = k) {g : List Word} (hop : (b.bank k).op = .program i l g)
    (hwf : Table.wf Leaf.blank c.leaves)
    (hleaf : ∀ m, c.leaf m = if m = l then ⟨.retired, none, none⟩ else b.leaf m)
    (hbuf : ∀ j, c.buffer j = if j = i then { b.buffer i with state := .ready, leaf := none } else b.buffer j)
    (hslot : ∀ q, c.slotAt q = if q = p then some .unplaced else b.slotAt q)
    (hbank : ∀ j, c.bank j = if j = k then { b.bank j with op := .none } else b.bank j) : c.PartsFit := by
  have hprog : (b.buffer i).state.leafState = some .programming := by rw [hst]; rfl
  obtain ⟨q, hq, hbl, hpl, hbound, hi, hdis⟩ := h.behind hprog hl
  rw [hp] at hq
  cases hq
  have honly : ∀ q, b.slotAt q = some (.placed l) ↔ q = p := fun q => by
    rw [← (h.leaf l).placed, hbl, Option.some_inj, eq_comm]
  have hcl : c.leaf l = ⟨.retired, none, none⟩ := by rw [hleaf, if_pos rfl]
  have hci : c.buffer i = { b.buffer i with state := .ready, leaf := none } := by rw [hbuf, if_pos rfl]
  have hck : (c.bank k).op = .none := by rw [hbank, if_pos rfl]
  have ht : Touches b c (some l) (some i) (some p) :=
    ⟨hwf, fun m hm => by rw [hleaf, if_neg (ne_of_some hm)], fun j hj => by rw [hbuf, if_neg (ne_of_some hj)],
      fun q hq v _ => by rw [hslot, if_neg (ne_of_some hq)]⟩
  have hnowait : ∀ j q, b.Waits j q → q ≠ p := fun j q hw he => by
    rw [he] at hw
    rw [((h.buffer j).waits hw).2] at hpl
    cases hpl
  refine h.touch ht ?_ ?_ ?_ ?_ ?_ ?_ ?_ (h.turn ht hk (fun j hj => by rw [hbank, if_neg hj]) (fun j => ?_)
    (.inr (.inl ⟨i, g, hop⟩)) (.inl hck) ?_ (fun j g hg => ?_) ?_)
  · rintro _ ⟨⟩ j hj; rw [hbl] at hj; exact hj
  · rintro _ ⟨⟩ m hm
    rw [(h.known m i hm).1] at hl
    exact hl.symm
  · rintro _ ⟨⟩ m hm
    rw [hslot, if_pos rfl, hpl]
    exact ⟨nofun, fun he => by cases he; exact absurd rfl hm⟩
  · rintro _ ⟨⟩ j _ hw; exact hnowait j p hw rfl
  · rintro _ ⟨⟩
    refine ⟨.ofBare hcl rfl hbound fun q => ?_, fun j hj => ?_⟩
    · rw [hslot]
      split_ifs with hq
      · nofun
      · exact fun he => hq ((honly q).mp he)
    · rw [hcl] at hj; cases hj
  · rintro _ ⟨⟩
    refine ⟨fun hs => ?_, fun hb => absurd hi hb.not_gt, fun s hs => ?_, fun hs => ?_⟩
    · rw [hci] at hs; cases hs
    · rw [hci] at hs ⊢
      cases hs
      exact ⟨hdis, p, hp, nofun, fun _ => ⟨rfl, by rw [hslot, if_pos rfl]⟩⟩
    · rw [hci] at hs; rcases hs with hs | hs <;> cases hs
  · rintro _ ⟨⟩ q ⟨hq, _⟩ x _ hw
    rw [hci] at hq
    exact hnowait x q hw (Option.some.inj (hq.symm.trans hp))
  · rw [hbank]; split_ifs <;> rfl
  · rw [hcl, hck]; rfl
  · rw [hck] at hg; cases hg
  · rintro _ ⟨⟩
    rw [hci, hst]
    exact ⟨nofun, nofun⟩

/-- A buffer that waits behind an unplaced slot is programmed into a BLANK leaf (R93). -/
theorem Body.PartsFit.replace (h : b.PartsFit) (hst : (b.buffer i).state = .ready) (hw : b.Waits i p)
    (hbound : l < 65536) (hblank : (b.leaf l).state = .blank) (hk : l % 4 = k) {g : List Word}
    (hop : (b.bank k).op = .none) (hwf : Table.wf Leaf.blank c.leaves)
    (hleaf : ∀ m, c.leaf m = if m = l then ⟨.programming, some p, some i⟩ else b.leaf m)
    (hbuf : ∀ j, c.buffer j = if j = i then { b.buffer i with state := .programming, leaf := some l } else b.buffer j)
    (hslot : ∀ q, c.slotAt q = if q = p then some (.placed l) else b.slotAt q)
    (hbank : ∀ j, (c.bank j).op = (if j = k then .program i l g else (b.bank j).op) ∧
      (c.bank j).fetchQueue = (b.bank j).fetchQueue) : c.PartsFit := by
  obtain ⟨hbl, hnone⟩ := (h.leaf l).bare (by rw [hblank]; rfl)
  obtain ⟨_, hpu⟩ := (h.buffer i).waits hw
  obtain ⟨hdis, _⟩ := (h.buffer i).behind .ready (by rw [hst]; rfl)
  have hi : i < 144 := by
    by_contra hi
    rw [(h.buffer i).bounded (by omega)] at hst
    cases hst
  have hcl : c.leaf l = ⟨.programming, some p, some i⟩ := by rw [hleaf, if_pos rfl]
  have hci : c.buffer i = { b.buffer i with state := .programming, leaf := some l } := by rw [hbuf, if_pos rfl]
  have hck : (c.bank k).op = .program i l g := by rw [(hbank k).1, if_pos rfl]
  have ht : Touches b c (some l) (some i) (some p) :=
    ⟨hwf, fun m hm => by rw [hleaf, if_neg (ne_of_some hm)], fun j hj => by rw [hbuf, if_neg (ne_of_some hj)],
      fun q hq v _ => by rw [hslot, if_neg (ne_of_some hq)]⟩
  refine h.touch ht ?_ ?_ ?_ ?_ ?_ ?_ ?_ (h.turn ht hk (fun j hj => by rw [(hbank j).1, if_neg hj]) (fun j => (hbank j).2)
    (.inl hop) (.inr (.inl ⟨i, g, hck⟩)) ?_ (fun j g' hg => ?_) ?_)
  · rintro _ ⟨⟩ j hj; rw [hbl] at hj; cases hj
  · rintro _ ⟨⟩ m hm
    have hn := hw.2
    rw [(h.known m i hm).1] at hn
    cases hn
  · rintro _ ⟨⟩ m hm
    rw [hslot, if_pos rfl, hpu]
    exact ⟨fun he => by cases he; exact absurd rfl hm, nofun⟩
  · rintro _ ⟨⟩ j hj hwj; exact hj (congrArg some (h.alone i j p hw hwj))
  · rintro _ ⟨⟩
    refine ⟨.ofBuffered hcl rfl hbound fun q => ?_, fun j hj => ?_⟩
    · rw [hslot]
      split_ifs with hq
      · exact ⟨fun _ => hq, fun _ => rfl⟩
      · exact ⟨fun he => absurd he (hnone q), fun he => absurd he hq⟩
    · rw [hcl] at hj ⊢
      cases hj
      rw [hci]
      exact ⟨rfl, rfl⟩
  · rintro _ ⟨⟩
    refine ⟨fun hs => ?_, fun hb => absurd hi hb.not_gt, fun s hs => ?_, fun hs => ?_⟩
    · rw [hci] at hs; cases hs
    · rw [hci] at hs ⊢
      cases hs
      exact ⟨hdis, p, hw.1, fun m hm => by cases hm; exact hcl, nofun⟩
    · rw [hci] at hs; rcases hs with hs | hs <;> cases hs
  · rintro _ ⟨⟩ q ⟨_, hn⟩; rw [hci] at hn; cases hn
  · rw [hcl, hck]; exact (if_pos rfl).symm
  · rw [hck] at hg; cases hg; rw [hcl]
  · rintro _ ⟨⟩
    rw [hci, hst]
    exact ⟨nofun, nofun⟩

/-- An unplaced slot behind which nothing waits is released. -/
theorem Body.PartsFit.release (h : b.PartsFit) (hp : b.slotAt p = some .unplaced) (hw : ∀ j, ¬ b.Waits j p)
    (hleaves : c.leaves = b.leaves) (hbuf : ∀ j, c.buffer j = b.buffer j)
    (hslot : ∀ q, c.slotAt q = if q = p then some .released else b.slotAt q) (hbank : ∀ j, c.bank j = b.bank j) :
    c.PartsFit := by
  have ht : Touches b c none none (some p) :=
    ⟨hleaves ▸ h.canonical, fun m _ => Body.leaf_congr hleaves m, fun j _ => hbuf j,
      fun q hq v _ => by rw [hslot, if_neg (ne_of_some hq)]⟩
  refine h.touch ht nofun nofun ?_ ?_ nofun nofun nofun fun k hk =>
    (h.bank k hk).touch ht (by rw [hbank]) (by rw [hbank]) nofun nofun
  · rintro _ ⟨⟩ m _
    rw [hslot, if_pos rfl, hp]
    exact ⟨nofun, nofun⟩
  · rintro _ ⟨⟩ j _; exact hw j

/-! ### Buffers that no leaf has -/

/-- A buffer that no leaf has is freed. -/
theorem Body.PartsFit.freeBuffer (h : b.PartsFit) (hown : ∀ m, (b.leaf m).buffer ≠ some i)
    (hst : (b.buffer i).state ≠ .fetching) : (b.releaseBuffer i).PartsFit := by
  have hset : (b.setBuffer i Buffer.free).PartsFit := by
    have hself : (b.setBuffer i Buffer.free).buffer i = Buffer.free := by rw [Body.setBuffer_buffer, if_pos rfl]
    refine h.setBuffer hown ⟨fun _ => hself, fun _ => hself, fun st hs => ?_, fun hs => ?_⟩ (fun _ => rfl) nofun hst
    · rw [hself] at hs; cases hs
    · rw [hself] at hs; rcases hs with hs | hs <;> cases hs
  refine hset.congr ?_ (fun m => ?_) (fun j => ?_) (fun q v _ => ?_) fun j => ?_
  · rw [Body.releaseBuffer_leaves]; exact h.canonical
  · exact Body.leaf_congr (by simp) m
  · rw [Body.releaseBuffer_buffer, Body.setBuffer_buffer]
  · rw [Body.slotAt_congr (b := b.setBuffer i Buffer.free) (by simp)]
  · rw [Body.bank_congr (c := b.setBuffer i Buffer.free) (by simp)]
    exact ⟨rfl, rfl⟩

/-- No leaf has a buffer that waits, or that is FREE or a window. -/
theorem Body.PartsFit.unowned (h : b.PartsFit) (hi : (b.buffer i).leaf = none ∨ (b.buffer i).state.leafState = none) (m : Nat) :
    (b.leaf m).buffer ≠ some i := by
  intro hm
  obtain ⟨h1, h2⟩ := h.known m i hm
  rcases hi with hi | hi
  · rw [hi] at h1; cases h1
  · rw [hi] at h2; cases h2

/-- A FETCHING buffer is marked for discard (R78, R79). -/
theorem Body.PartsFit.discard (h : b.PartsFit) (hst : (b.buffer i).state = .fetching) :
    (b.setBuffer i { b.buffer i with discard := true }).PartsFit := by
  have hself : (b.setBuffer i { b.buffer i with discard := true }).buffer i = { b.buffer i with discard := true } := by
    rw [Body.setBuffer_buffer, if_pos rfl]
  obtain ⟨h1, h2, h3, _⟩ := (h.buffer i).windowed (.inl hst)
  have ht : Touches b (b.setBuffer i { b.buffer i with discard := true }) none (some i) none :=
    ⟨h.canonical, fun _ _ => rfl, fun j hj => by rw [Body.setBuffer_buffer, if_neg (ne_of_some hj)], fun _ _ _ _ => .rfl⟩
  have hi : i < 144 := by
    by_contra hi
    rw [(h.buffer i).bounded (by omega)] at hst
    cases hst
  refine h.touch ht nofun ?_ nofun nofun nofun ?_ ?_ fun k hk => ?_
  · rintro _ ⟨⟩ m hm; exact absurd hm (h.unowned (.inr (by rw [hst]; rfl)) m)
  · rintro _ ⟨⟩
    refine ⟨fun hs => ?_, fun hb => absurd hi hb.not_gt, fun s hs => ?_, fun _ => ?_⟩
    · rw [hself] at hs; rw [hst] at hs; cases hs
    · rw [hself, hst] at hs; cases hs
    · rw [hself]; exact ⟨h1, h2, h3, fun _ => hst⟩
  · rintro _ ⟨⟩ q ⟨hq, _⟩
    rw [hself, h2] at hq
    cases hq
  · have hb := h.bank k hk
    refine ⟨hb.works, hb.home, hb.programBuffer, hb.fetches.1, hb.fetches.2.1, fun j => (hb.fetches.2.2 j).trans ?_⟩
    rw [Body.setBuffer_buffer]
    split_ifs with hj
    · rw [hj]
    · exact .rfl

/-- A FREE buffer or a window becomes FETCHING, its fetch at the back of the queue (R75, R94). -/
theorem Body.PartsFit.fetchInto (h : b.PartsFit) (hst : (b.buffer i).state = .free ∨ (b.buffer i).state = .window)
    (hi : i < 144) (l : Nat) : (b.fetchInto i l).PartsFit := by
  have hleafState : (b.buffer i).state.leafState = none := by rcases hst with hs | hs <;> rw [hs] <;> rfl
  have hnot : (b.buffer i).state ≠ .fetching := by rcases hst with hs | hs <;> rw [hs] <;> nofun
  have hbuf : ∀ j, (b.fetchInto i l).buffer j =
      if j = i then ⟨.fetching, some l, none, some .delivery, [], false⟩ else b.buffer j := fun j =>
    Body.setBuffer_buffer b i ⟨.fetching, some l, none, some .delivery, [], false⟩ j
  have hbank : ∀ j, (b.fetchInto i l).bank j = if j = l % 4 then { b.bank j with fetchQueue := (b.bank j).fetchQueue ++ [i] }
      else b.bank j := fun j => by
    unfold Body.fetchInto
    dsimp only
    rw [Body.setBank_bank]
    unfold leafBank Config.banks
    split_ifs with hj
    · rw [hj]; rfl
    · rfl
  have hself : (b.fetchInto i l).buffer i = ⟨.fetching, some l, none, some .delivery, [], false⟩ := by
    rw [hbuf, if_pos rfl]
  have ht : Touches b (b.fetchInto i l) none (some i) none :=
    ⟨h.canonical, fun _ _ => rfl, fun j hj => by rw [hbuf, if_neg (ne_of_some hj)], fun _ _ _ _ => .rfl⟩
  refine h.touch ht nofun ?_ nofun nofun nofun ?_ ?_ fun k hk => ?_
  · rintro _ ⟨⟩ m hm; exact absurd hm (h.unowned (.inr hleafState) m)
  · rintro _ ⟨⟩
    refine ⟨fun hs => ?_, fun hb => absurd hi hb.not_gt, fun s hs => ?_, fun _ => ?_⟩
    · rw [hself] at hs; cases hs
    · rw [hself] at hs; cases hs
    · rw [hself]; exact ⟨rfl, rfl, rfl, nofun⟩
  · rintro _ ⟨⟩ q ⟨hq, _⟩
    rw [hself] at hq
    cases hq
  · have hb := h.bank k hk
    have hop : ((b.fetchInto i l).bank k).op = (b.bank k).op := by rw [hbank]; split_ifs <;> rfl
    obtain ⟨hnd, hne, hiff⟩ := hb.fetches
    have hni : i ∉ (b.bank k).fetchQueue ∧ (b.bank k).op ≠ .fetch i :=
      ⟨fun hm => hnot ((hiff i).mp (.inl hm)).1, fun hm => hnot ((hiff i).mp (.inr hm)).1⟩
    refine ⟨by rw [hop]; exact hb.works, by rw [hop]; exact hb.home, by rw [hop]; exact hb.programBuffer, ?_⟩
    rw [hop, hbank]
    by_cases hkl : k = l % 4
    · rw [if_pos hkl]
      refine ⟨?_, fun j hj => ?_, fun j => ?_⟩
      · exact List.nodup_append.mpr ⟨hnd, List.nodup_singleton i, fun x hx y hy he => hni.1 (by
          rw [List.mem_singleton.mp hy] at he; exact he ▸ hx)⟩
      · rcases List.mem_append.mp hj with hj | hj
        · exact hne j hj
        · rw [List.mem_singleton.mp hj]; exact hni.2
      · rw [hbuf, List.mem_append, List.mem_singleton]
        by_cases hj : j = i
        · simp [hj, hkl]
        · rw [if_neg hj, ← hiff j]
          simp [hj]
    · rw [if_neg hkl]
      refine ⟨hnd, hne, fun j => ?_⟩
      rw [hbuf]
      by_cases hj : j = i
      · rw [if_pos hj, hj]
        exact ⟨fun h1 => by rcases h1 with h1 | h1 <;> simp_all, fun h1 => by
          obtain ⟨_, m, hm, hmk⟩ := h1
          cases hm
          exact absurd hmk.symm hkl⟩
      · rw [if_neg hj]; exact hiff j

/-- The fetch at the front of the queue starts (R94). -/
theorem Body.PartsFit.startFetch (h : b.PartsFit) {rest : List Nat} (hq : (b.bank k).fetchQueue = i :: rest)
    (hop : (b.bank k).op = .none) : (b.startFetch k i).PartsFit := by
  have hbank : ∀ j, (b.startFetch k i).bank j = if j = k then { b.bank k with fetchQueue := rest, op := .fetch i }
      else b.bank j := fun j => by
    unfold Body.startFetch
    rw [Body.setBank_bank, hq]
    rfl
  refine ⟨h.canonical, fun m => ⟨(h.leaf m).bounded, (h.leaf m).owner, (h.leaf m).buffer, (h.leaf m).placed⟩, h.known,
    fun j => ⟨(h.buffer j).free, (h.buffer j).bounded, (h.buffer j).behind, (h.buffer j).windowed⟩, h.alone, fun j hj => ?_⟩
  have hb := h.bank j hj
  by_cases hjk : j = k
  · subst hjk
    obtain ⟨hnd, hne, hiff⟩ := hb.fetches
    rw [hq] at hnd hiff
    have hck : (b.startFetch j i).bank j = { b.bank j with fetchQueue := rest, op := .fetch i } := by rw [hbank, if_pos rfl]
    refine ⟨fun m hm => ?_, fun m hm => by rw [hck]; rfl, fun x y g hg => (by rw [hck] at hg; cases hg), ?_⟩
    · rw [hck]
      exact (hb.works m hm).trans (by rw [hop]; rfl)
    · rw [hck]
      obtain ⟨hni, hnd⟩ := List.nodup_cons.mp hnd
      refine ⟨hnd, fun x hx he => ?_, fun x => ?_⟩
      · cases he; exact hni hx
      · refine Iff.trans ?_ (hiff x)
        rw [hop, List.mem_cons]
        constructor
        · rintro (hx | hx)
          · exact .inl (.inr hx)
          · cases hx; exact .inl (.inl rfl)
        · rintro ((rfl | hx) | hx)
          · exact .inr rfl
          · exact .inl hx
          · cases hx
  · have hcj : (b.startFetch k i).bank j = b.bank j := by rw [hbank, if_neg hjk]
    exact ⟨fun m hm => by rw [hcj]; exact hb.works m hm, fun m hm => by rw [hcj]; exact hb.home m hm,
      fun x y g hg => hb.programBuffer x y g (by rw [hcj] at hg; exact hg), by rw [hcj]; exact hb.fetches⟩

/-- The fetch under way ends, and its buffer is FREE or a window (R76). -/
theorem Body.PartsFit.endFetch (h : b.PartsFit) (hk : k < 4) (hop : (b.bank k).op = .fetch i) (hleaves : c.leaves = b.leaves)
    {v : Buffer} (hv : v = Buffer.free ∨ v.state = .window ∧ v.leaf = (b.buffer i).leaf ∧ v.place = (b.buffer i).place ∧
      v.holder = (b.buffer i).holder ∧ v.discard = false) (hbuf : ∀ j, c.buffer j = if j = i then v else b.buffer j)
    (hslot : ∀ q, c.slotAt q = b.slotAt q)
    (hbank : ∀ j, c.bank j = if j = k then { b.bank j with op := .none } else b.bank j) : c.PartsFit := by
  obtain ⟨hst, m, hm, hmk⟩ := ((h.bank k hk).fetches.2.2 i).mp (.inr hop)
  obtain ⟨h1, h2, h3, _⟩ := (h.buffer i).windowed (.inl hst)
  have hleaf := Body.leaf_congr hleaves
  have hself : c.buffer i = v := by rw [hbuf, if_pos rfl]
  have hvs : v.state.leafState = none ∧ v.state ≠ .fetching := by
    rcases hv with rfl | ⟨hv, _⟩
    · exact ⟨rfl, nofun⟩
    · rw [hv]; exact ⟨rfl, nofun⟩
  have hvp : v.place = none := by
    rcases hv with rfl | ⟨_, _, hv, _⟩
    · rfl
    · rw [hv]; exact h2
  have hi : i < 144 := by
    by_contra hi
    rw [(h.buffer i).bounded (by omega)] at hst
    cases hst
  have ht : Touches b c none (some i) none :=
    ⟨hleaves ▸ h.canonical, fun m _ => hleaf m, fun j hj => by rw [hbuf, if_neg (ne_of_some hj)],
      fun q _ _ _ => by rw [hslot]⟩
  refine h.touch ht nofun ?_ nofun nofun nofun ?_ ?_ fun j hj => ?_
  · rintro _ ⟨⟩ x hx; exact absurd hx (h.unowned (.inr (by rw [hst]; rfl)) x)
  · rintro _ ⟨⟩
    refine ⟨fun hs => ?_, fun hb => absurd hi hb.not_gt, fun s hs => ?_, fun hs => ?_⟩
    · rw [hself] at hs ⊢
      rcases hv with hv | ⟨hv, _⟩
      · exact hv
      · rw [hv] at hs; cases hs
    · rw [hself, hvs.1] at hs; cases hs
    · rw [hself] at hs ⊢
      rcases hv with rfl | ⟨_, hl, _, hh, hd⟩
      · rcases hs with hs | hs <;> cases hs
      · exact ⟨by rw [hl]; exact h1, hvp, hh.trans h3, fun hc => by rw [hd] at hc; cases hc⟩
  · rintro _ ⟨⟩ q ⟨hq, _⟩
    rw [hself, hvp] at hq
    cases hq
  · have hb := h.bank j hj
    obtain ⟨hnd, hne, hiff⟩ := hb.fetches
    have hnew : (c.buffer i).state ≠ .fetching := by rw [hself]; exact hvs.2
    by_cases hjk : j = k
    · subst hjk
      have hcj : c.bank j = { b.bank j with op := .none } := by rw [hbank, if_pos rfl]
      refine ⟨fun x hx => ?_, fun x hx => by rw [hcj]; rfl, fun x y g hg => (by rw [hcj] at hg; cases hg), ?_⟩
      · rw [hleaf, hcj]
        exact (hb.works x hx).trans (by rw [hop]; rfl)
      · rw [hcj]
        refine ⟨hnd, fun x _ => nofun, fun x => ?_⟩
        by_cases hx : x = i
        · rw [hx]
          exact ⟨fun h4 => absurd hop (hne i (h4.resolve_right nofun)), fun h4 => absurd h4.1 hnew⟩
        · rw [hbuf, if_neg hx, ← hiff x, hop]
          simp only [BankOp.fetch.injEq, reduceCtorEq, or_false]
          exact ⟨.inl, fun h4 => h4.resolve_right fun he => hx he.symm⟩
    · have hcj : c.bank j = b.bank j := by rw [hbank, if_neg hjk]
      refine ⟨fun x hx => by rw [hleaf, hcj]; exact hb.works x hx, fun x hx => by rw [hcj]; exact hb.home x hx,
        fun x y g hg => by rw [hleaf]; exact hb.programBuffer x y g (by rw [hcj] at hg; exact hg), ?_⟩
      rw [hcj]
      refine ⟨hnd, hne, fun x => ?_⟩
      by_cases hx : x = i
      · rw [hx]
        refine ⟨fun h4 => ?_, fun h4 => absurd h4.1 hnew⟩
        obtain ⟨_, y, hy, hyj⟩ := (hiff i).mp h4
        rw [hm] at hy
        cases hy
        exact absurd (hyj.symm.trans hmk) hjk
      · rw [hbuf, if_neg hx]; exact hiff x

end

end Sys2Proof.Machine
end

section
/-! The sessions' changes keep the store: a call admitted, a session stopped, a slot taken for a page, a page put forward
(R47 to R50, R54, R55, R67). -/

namespace Sys2Proof.Machine

/-! ### Leaf slots of the last page -/

section
variable {b : Body} {d f : Document} {g : Page} {n page index : Nat}

theorem Document.slotAt_pages (h : f.pages = d.pages) (page index : Nat) : f.slotAt page index = d.slotAt page index :=
  Document.slotAt_of_slots (by rw [h]) page index

/-- A document with a last page, and the document without it. -/
theorem Document.slotAt_concat {init : List Page} (h : d.pages = init ++ [g]) (page index : Nat) : d.slotAt page index =
    if page = init.length + 1 then g.slots[index]? else ({ d with pages := init } : Document).slotAt page index := by
  unfold Document.slotAt Document.page
  dsimp only
  rw [h]
  split_ifs with hz hx hx
  · omega
  · rfl
  · rw [hx, Nat.add_sub_cancel, List.getElem?_concat_length]
    rfl
  · rw [List.getElem?_append]
    split_ifs with hlt
    · rfl
    · rw [List.getElem?_eq_none (show [g].length ≤ _ by rw [List.length_singleton]; omega),
        List.getElem?_eq_none (show init.length ≤ _ by omega)]

theorem Document.slotAt_beyond (h : d.pages.length < page) : d.slotAt page index = none := by
  unfold Document.slotAt Document.page
  rw [if_neg (by omega), List.getElem?_eq_none (by omega)]
  rfl

/-- The last page is replaced. -/
theorem Document.slotAt_withLastPage (hp : d.pages.getLast? = some g) (q : Page) (page index : Nat) :
    (d.withLastPage q).slotAt page index = if page = d.pages.length then q.slots[index]? else d.slotAt page index := by
  have hpages := Document.pages_last hp
  have hlen : d.pages.length = d.pages.dropLast.length + 1 := by (conv_lhs => rw [hpages]); rw [List.length_append]; rfl
  rw [Document.slotAt_concat (d := d.withLastPage q) (init := d.pages.dropLast) rfl, Document.slotAt_concat hpages, ← hlen]
  split_ifs
  · rfl
  · rfl

theorem Document.slotAt_last (hp : d.pages.getLast? = some g) (index : Nat) :
    d.slotAt d.pages.length index = g.slots[index]? := by
  have hlen : d.pages.length = d.pages.dropLast.length + 1 := by
    (conv_lhs => rw [Document.pages_last hp]); rw [List.length_append]; rfl
  rw [Document.slotAt_concat (Document.pages_last hp), ← hlen, if_pos rfl]

/-- The last page is replaced by one with the same slots. -/
theorem Document.withLastPage_slots (hp : d.pages.getLast? = some g) {q : Page} (hq : q.slots = g.slots) :
    (d.withLastPage q).pages.map (fun r => r.slots) = d.pages.map (fun r => r.slots) := by
  conv_rhs => rw [Document.pages_last hp]
  unfold Document.withLastPage
  rw [List.map_append, List.map_append, List.map_singleton, List.map_singleton, hq]

end

/-! ### Tails -/

section
variable {txn : Transaction} {b c : Body} {n k i l : Nat} {d f : Document}

/-- A FILLING buffer has a leaf. -/
theorem Body.PartsFit.filling (h : b.PartsFit) (hi : (b.buffer i).state = .filling) : ∃ l, (b.buffer i).leaf = some l := by
  obtain ⟨_, _, _, _, hnone⟩ := (h.buffer i).behind .filling (by rw [hi]; rfl)
  cases hl : (b.buffer i).leaf with
  | some l => exact ⟨l, rfl⟩
  | none => cases (hnone hl).1

/-- Only session `k` and the document in slot `n`, which is no other session's, change, and no other session's buffer that
fills. -/
theorem TailsFit.update (h : TailsFit txn b) (hc : OpenCalls txn b) (hl : b.ListsFit) {txn' : Transaction}
    (hn : ∀ d, b.doc n = some d → d.session = some k) (hs : ∀ j, j ≠ k → c.session j = b.session j)
    (hd : ∀ m, m ≠ n → c.doc m = b.doc m)
    (hbuf : ∀ i, (b.buffer i).holder ≠ some (.session k) → (b.buffer i).state = .filling →
      (c.buffer i).state = .filling ∧ (c.buffer i).place = (b.buffer i).place)
    (hk : (c.session k).state = .inPage → c.Fills k (c.session k).queue.getLast? 1)
    (ha : ∀ a, txn' = .appending a → a.rolled = true → txn = .appending a ∧ a.session ≠ k ∨
      a.session = k ∧ c.Fills k (c.session k).queue.dropLast.getLast? 2) : TailsFit txn' c := by
  have hother : ∀ j o back, j ≠ k → (b.session j).state = .inPage → (∀ i, o = some i → i ∈ (b.session j).queue) →
      b.Fills j o back → c.Fills j o back := fun j o back hj hin ho hf => by
    have hne := hc.sessions.other hn hj (by rw [hin]; nofun)
    refine hf.transport (by rw [hs j hj]) (fun m e hm he => ⟨e, (hd m fun hmn => hne (hmn ▸ hm)).trans he, rfl⟩)
      fun i hi hst => ⟨hi, hbuf i (fun hh => ?_) hst⟩
    have hh' : (b.buffer i).holder = some (.session j) := ((hl.queues j).2 i).mp (ho i hi)
    rw [hh] at hh'
    cases hh'
    exact hj rfl
  refine ⟨fun j hin => ?_, fun a ht hr => ?_⟩
  · by_cases hjk : j = k
    · subst hjk; exact hk hin
    · rw [hs j hjk] at hin ⊢
      exact hother j _ _ hjk hin (fun i hi => List.mem_of_getLast? hi) (h.tail j hin)
  · rcases ha a ht hr with ⟨htxn, hak⟩ | ⟨rfl, hf⟩
    · rw [hs _ hak]
      exact hother _ _ _ hak (hc.append a htxn).1 (fun i hi => List.dropLast_subset _ (List.mem_of_getLast? hi))
        (h.rolled a htxn hr)
    · exact hf

theorem StoreHeld.free (h : StoreHeld txn b) : StoreHeld .none b := ⟨h.parts, h.lists, h.tails.tail, fun _ ha => by cases ha⟩

/-! ### Documents and sessions alone -/

/-- Leaves, buffers and banks stay, and so do the slots; documents that are received go on, and sessions stay. -/
theorem StoreHeld.still (h : StoreHeld txn b) (hc : OpenCalls txn b) (hleaves : c.leaves = b.leaves)
    (hbuf : c.buffers = b.buffers) (hbank : c.banks = b.banks) (hr : c.ready = b.ready) (hw : c.windows = b.windows)
    (hs : ∀ k, (c.session k).state = (b.session k).state ∧ (c.session k).doc = (b.session k).doc ∧
      (c.session k).queue = (b.session k).queue)
    (hslot : ∀ q v, v ≠ .released → (c.slotAt q = some v ↔ b.slotAt q = some v))
    (hd : ∀ k n d, (b.session k).doc = some n → b.doc n = some d → d.state = .receiving → d.session = some k →
      ∃ f, c.doc n = some f ∧ f.mask = d.mask) : StoreHeld txn c := by
  have hl := Body.leaf_congr hleaves
  have hb : ∀ j, c.buffer j = b.buffer j := fun j => by unfold Body.buffer; rw [hbuf]
  have hk := Body.bank_congr hbank
  refine ⟨h.parts.congr (hleaves ▸ h.parts.canonical) hl hb hslot fun j => by rw [hk]; exact ⟨rfl, rfl⟩,
    h.lists.keep (fun m => by rw [hl]; exact ⟨.rfl, .rfl⟩) (fun j => by rw [hb]; exact ⟨.rfl, .rfl, rfl⟩)
      (fun j => by rw [hk]; exact ⟨rfl, rfl⟩) hr hw (fun j => (hs j).2.2) fun j => by rw [(hs j).1]; exact id,
    h.tails.sameQueues hc (fun k => ⟨(hs k).1, (hs k).2.1⟩) hd (fun k => (hs k).2.2) fun j hj => by
      rw [hb]; exact ⟨hj, rfl⟩⟩

theorem StoreHeld.calm (h : StoreHeld txn b) (hc : OpenCalls txn b) (hm : Calm b c) : StoreHeld txn c := by
  have he := hm.others
  have hcat : c.catalog = b.catalog := by rw [he]
  exact h.still hc (by rw [he]) (by rw [he]) (by rw [he]) (by rw [he]) (by rw [he]) hm.sessions
    (fun q v _ => by rw [Body.slotAt_congr hcat]) fun k n d _ hd _ _ => ⟨d, (Body.doc_congr hcat n).trans hd, rfl⟩

/-- A document is replaced by one with the same pages. -/
theorem StoreHeld.recharge (h : StoreHeld txn b) (hc : OpenCalls txn b) (hr : Recharged b c n d f) : StoreHeld txn c := by
  have he := hr.others
  have hcat : c.catalog = (b.setDoc n f).catalog := by rw [he]
  refine h.still hc (by rw [he]) (by rw [he]) (by rw [he]) (by rw [he]) (by rw [he])
    (fun k => by rw [Body.session_congr (b := c) (c := b) (by rw [he])]; exact ⟨rfl, rfl, rfl⟩)
    (fun q v _ => by rw [Body.slotAt_congr hcat, Body.setDoc_slotAt_same hr.doc (by rw [hr.pages])])
    fun k m e _ hm _ _ => ?_
  rw [Body.doc_congr hcat, Body.setDoc_doc]
  split_ifs with hmn
  · rw [hmn, hr.doc] at hm
    cases hm
    exact ⟨f, rfl, by unfold Document.mask; rw [hr.pages]⟩
  · exact ⟨e, hm, rfl⟩

/-- A session that has no buffer changes, with a document that has no slot. -/
theorem StoreHeld.enter (h : StoreHeld txn b) (hc : OpenCalls txn b) (hn : ∀ d, b.doc n = some d → d.session = some k)
    (hclear : txn.clear k) (hleaves : c.leaves = b.leaves) (hbuf : c.buffers = b.buffers) (hbank : c.banks = b.banks)
    (hr : c.ready = b.ready) (hw : c.windows = b.windows) (hs : ∀ j, j ≠ k → c.session j = b.session j)
    (hq : (c.session k).queue = (b.session k).queue) (hidle : (c.session k).state ≠ .idle)
    (hin : (c.session k).state ≠ .inPage) (hd : ∀ m, m ≠ n → c.doc m = b.doc m)
    (hslot : ∀ q, c.slotAt q = b.slotAt q) : StoreHeld txn c := by
  have hl := Body.leaf_congr hleaves
  have hb : ∀ j, c.buffer j = b.buffer j := fun j => by unfold Body.buffer; rw [hbuf]
  have hk := Body.bank_congr hbank
  refine ⟨h.parts.congr (hleaves ▸ h.parts.canonical) hl hb (fun q v _ => by rw [hslot]) fun j => by rw [hk]; exact ⟨rfl, rfl⟩,
    h.lists.keep (fun m => by rw [hl]; exact ⟨.rfl, .rfl⟩) (fun j => by rw [hb]; exact ⟨.rfl, .rfl, rfl⟩)
      (fun j => by rw [hk]; exact ⟨rfl, rfl⟩) hr hw (fun j => ?_) fun j hj => ?_,
    h.tails.update hc h.lists hn hs hd (fun i _ hi => by rw [hb]; exact ⟨hi, rfl⟩) (fun hi => absurd hi hin)
      fun a ha _ => .inl ⟨ha, hclear a ha⟩⟩
  · by_cases hjk : j = k
    · rw [hjk, hq]
    · rw [hs j hjk]
  · by_cases hjk : j = k
    · rw [hjk] at hj; exact absurd hj hidle
    · rwa [hs j hjk] at hj

theorem StoreHeld.stop (h : StoreHeld txn b) (hc : OpenCalls txn b) (hst : (b.session k).state = .admitted) :
    StoreHeld txn (b.setSession k { b.session k with state := .stopped }) := by
  obtain ⟨n, d, hdoc, hd, _, hses, _⟩ := hc.sessions k (by rw [hst]; nofun)
  refine h.enter hc (n := n) (k := k) (fun e he => ?_) (hc.clear_of_idle (by rw [hst]; nofun)) rfl rfl rfl rfl rfl
    (fun j hj => by rw [Body.setSession_session, if_neg hj]) ?_ ?_ ?_ (fun _ _ => rfl) fun _ => rfl
  · rw [hd] at he; cases he; exact hses
  all_goals rw [Body.setSession_session, if_pos rfl]
  all_goals nofun

theorem StoreHeld.admitCall (h : StoreHeld txn b) (hc : OpenCalls txn b) (hd : b.doc n = none)
    (hidle : (b.session k).state = .idle) (hnew : NewCall d k) (deadline : Nat) :
    StoreHeld txn (b.admitCall n k d deadline) := by
  have hframe : b.admitCall n k d deadline = { b with
      catalog := (b.setDoc n d).catalog, sessions := (b.setSession k ⟨.admitted, some n, some deadline, []⟩).sessions,
      attention := (b.admitCall n k d deadline).attention, nextSerial := b.nextSerial + 1 } := by
    unfold Body.admitCall
    dsimp only
    rw [foldl_callAttention_eq]
    rfl
  have hcat : (b.admitCall n k d deadline).catalog = (b.setDoc n d).catalog := by rw [hframe]
  have hses : ∀ j, (b.admitCall n k d deadline).session j =
      if j = k then ⟨.admitted, some n, some deadline, []⟩ else b.session j := fun j => by
    rw [Body.session_congr (c := b.setSession k ⟨.admitted, some n, some deadline, []⟩) (by rw [hframe]),
      Body.setSession_session]
  refine h.enter hc (n := n) (k := k) (fun e he => ?_) (hc.clear_of_idle (by rw [hidle]; nofun)) (by rw [hframe])
    (by rw [hframe]) (by rw [hframe]) (by rw [hframe]) (by rw [hframe]) (fun j hj => by rw [hses, if_neg hj]) ?_ ?_ ?_
    (fun m hm => by rw [Body.doc_congr hcat, Body.setDoc_doc, if_neg hm]) fun q => ?_
  · rw [hd] at he; cases he
  · rw [hses, if_pos rfl, (h.lists.short k).2 hidle]
  · rw [hses, if_pos rfl]; nofun
  · rw [hses, if_pos rfl]; nofun
  · rw [Body.slotAt_congr hcat, Body.setDoc_slotAt]
    split_ifs with hq
    · rw [Body.slotAt_none (by rw [hq]; exact hd)]
      unfold Document.slotAt Document.page
      rw [hnew.pages]
      split_ifs <;> rfl
    · rfl

/-! ### A slot taken for a page -/

/-- What the checks for a new slot have found (R49, R84). -/
theorem Body.ListsFit.found (h : b.ListsFit) (hroom : b.room k = .found i l) : (b.session k).queue.length < 4 ∧ i < 144 ∧
    (b.buffer i).state = .free ∧ l < 65536 ∧ (b.leaf l).state = .blank ∧ (b.bank (l % 4)).blank.head? = some l := by
  unfold Body.room at hroom
  by_cases hq : Config.queueLimit ≤ (b.session k).queue.length
  · rw [if_pos hq] at hroom; cases hroom
  rw [if_neg hq] at hroom
  cases hx : b.lowestFreeBuffer with
  | none => rw [hx] at hroom; cases hroom
  | some x =>
    rw [hx] at hroom
    cases hy : b.nextLeaf with
    | none => rw [hy] at hroom; dsimp only at hroom; split_ifs at hroom
    | some y =>
      rw [hy] at hroom
      cases hroom
      obtain ⟨hfree, _, hlt, _⟩ := firstFrom_some hx
      obtain ⟨j, hj, hhead⟩ := Body.nextLeaf_some hy
      have hj4 := (Body.allocationBank_some hj).1
      obtain ⟨hl, hm, hst⟩ := ((h.blank j hj4).2 l).mp (List.mem_of_mem_head? hhead)
      rw [decide_eq_true_eq] at hfree
      exact ⟨not_le.mp hq, by rwa [Nat.zero_add] at hlt, hfree, hl, hst, by rw [hm]; exact hhead⟩

/-- A slot is taken for session `k`, at a place that did not stand. -/
theorem StoreHeld.withSlot (h : StoreHeld txn b) (hc : OpenCalls txn b) {txn' : Transaction} (hd : b.doc n = some d)
    (hses : d.session = some k) (hroom : b.room k = .found i l) {dept : Nat} {p : Place} {st : SessState}
    (hst : st = .inPage) (hp : b.slotAt p = none)
    (hslot : ∀ q, (b.setDoc n f).slotAt q = if q = p then some (.placed l) else b.slotAt q) {g : Page}
    (hg : f.pages.getLast? = some g) (hplace : p = ⟨n, f.pages.length, g.slots.length - 1⟩)
    (hdoc : (b.session k).doc = some n)
    (ha : ∀ a, txn' = .appending a → a.rolled = true → txn = .appending a ∧ a.session ≠ k ∨
      a.session = k ∧ (b.session k).state = .inPage ∧ f.pages.length = d.pages.length ∧ ∃ e, d.pages.getLast? = some e ∧
        g.slots.length = e.slots.length + 1) :
    StoreHeld txn' (b.withSlot k n f dept p i l st) := by
  obtain ⟨hlen, hi, hfree, hl, hblank, hhead⟩ := h.lists.found hroom
  have hbi := (h.parts.buffer i).free hfree
  have hcat : (b.withSlot k n f dept p i l st).catalog = (b.setDoc n f).catalog := rfl
  have hsession : (b.withSlot k n f dept p i l st).session k =
      { b.session k with state := st, queue := (b.session k).queue ++ [i] } := by rw [Body.withSlot_session, if_pos rfl]
  have hdocf : (b.withSlot k n f dept p i l st).doc n = some f := by rw [Body.withSlot_doc, if_pos rfl]
  refine ⟨h.parts.take hl hblank hi hfree hp ?_ (fun m => Body.withSlot_leaf ..) (fun j => Body.withSlot_buffer ..) (fun q => ?_) fun j => ?_,
    ?_, h.tails.update hc h.lists (n := n) (k := k) ?_ (fun j hj => by rw [Body.withSlot_session, if_neg hj])
      (fun m hm => by rw [Body.withSlot_doc, if_neg hm]) (fun j hj hjs => ?_) (fun _ => ?_) fun a hta hr => ?_⟩
  · exact Table.wf_write l ⟨.filling, some p, some i⟩ h.parts.canonical
  · rw [Body.slotAt_congr hcat]; exact hslot q
  · rw [Body.withSlot_bank]
    split_ifs with hj
    · rw [hj]; exact ⟨rfl, rfl⟩
    · exact ⟨rfl, rfl⟩
  · have hpop := h.lists.popLeaf (v := ⟨.filling, some p, some i⟩) (Nat.mod_lt l (by omega)) hhead nofun nofun
    have henq := hpop.enqueue (k := k) (i := i) hbi (v := ⟨.filling, some l, some p, some (.session k), [], false⟩)
      (u := { b.session k with state := st, queue := (b.session k).queue ++ [i] }) rfl rfl rfl (by rw [hst]; nofun) hlen
    exact henq.congr (fun m => rfl) (fun j => rfl) (fun j => rfl) rfl rfl fun j => rfl
  · intro e he; rw [hd] at he; cases he; exact hses
  · rw [Body.withSlot_buffer, if_neg fun hji => ?_]
    · exact ⟨hjs, rfl⟩
    · rw [hji, hfree] at hjs; cases hjs
  · refine ⟨n, f, g, i, by rw [hsession]; exact hdoc, hdocf, hg, ?_, ?_, ?_⟩
    · rw [hsession]; exact List.getLast?_concat
    · rw [Body.withSlot_buffer, if_pos rfl]
    · rw [Body.withSlot_buffer, if_pos rfl, hplace]
  · rcases ha a hta hr with hold | ⟨hak, hin, hpages, e, he, hslots⟩
    · exact .inl hold
    · refine .inr ⟨hak, ?_⟩
      obtain ⟨m, x, y, j, hm, hx, hy, hj, hjst, hjp⟩ := h.tails.tail k hin
      rw [hdoc] at hm
      cases hm
      rw [hd] at hx
      cases hx
      rw [he] at hy
      cases hy
      have hji : j ≠ i := fun hji => by rw [hji, hfree] at hjst; cases hjst
      refine ⟨n, f, g, j, by rw [hsession]; exact hdoc, hdocf, hg, ?_, ?_, ?_⟩
      · rw [hsession]
        dsimp only
        rw [List.dropLast_concat]
        exact hj
      · rw [Body.withSlot_buffer, if_neg hji]; exact hjst
      · rw [Body.withSlot_buffer, if_neg hji, hjp, hpages, hslots]
        rfl

/-- A page begins (R50). -/
theorem StoreHeld.beginPage (h : StoreHeld txn b) (hc : ChargesHeld txn b) (hd : b.doc n = some d)
    (hst : (b.session k).state = .admitted) (hdoc : (b.session k).doc = some n) (hroom : b.room k = .found i l) {page : Page}
    (hpage : page.slots = [.placed l]) : StoreHeld txn (b.beginPage k n d page i l) := by
  obtain ⟨m, e, hm, he, hrec, hses, _⟩ := hc.calls.sessions k (by rw [hst]; nofun)
  rw [hdoc] at hm
  cases hm
  rw [hd] at he
  cases he
  obtain ⟨lead, rest, ho⟩ := List.exists_cons_of_ne_nil ((hc.charges.documents n d hd).receiving hrec).2.1
  have hclear : txn.clear k := hc.calls.clear_of_idle (by rw [hst]; nofun)
  rw [Body.beginPage_eq ho]
  refine h.withSlot hc.calls hd hses hroom rfl ?_ (fun q => ?_) (g := page) List.getLast?_concat ?_ hdoc
    fun a ha _ => .inl ⟨ha, hclear a ha⟩
  · rw [Body.slotAt_doc hd]
    exact Document.slotAt_beyond (Nat.lt_succ_self _)
  · obtain ⟨m, x, y⟩ := q
    rw [Body.setDoc_slotAt]
    by_cases hm : m = n
    · subst hm
      rw [if_pos rfl, Document.slotAt_concat (g := page) (init := d.pages) rfl, Body.slotAt_doc hd, hpage]
      simp only [Place.mk.injEq, true_and]
      by_cases hx : x = d.pages.length + 1
      · rw [if_pos hx]
        by_cases hy : y = 0
        · rw [hy, if_pos ⟨hx, rfl⟩]; rfl
        · rw [if_neg fun hxy => hy hxy.2, hx, Document.slotAt_beyond (Nat.lt_succ_self _)]
          exact List.getElem?_eq_none (by rw [List.length_singleton]; omega)
      · rw [if_neg hx, if_neg fun hxy => hx hxy.1]
        exact Document.slotAt_pages rfl x y
    · rw [if_neg hm, if_neg fun he => hm (congrArg Place.slot he)]
  · rw [hpage]
    dsimp only
    rw [List.length_append]
    rfl

/-- An APPEND rolls over to a new slot (R55). -/
theorem StoreHeld.rollOver (h : StoreHeld txn b) (hc : ChargesHeld txn b) {a : AppendInFlight} (hd : b.doc n = some d)
    (hst : (b.session a.session).state = .inPage) (hdoc : (b.session a.session).doc = some n)
    (hroom : b.room a.session = .found i l) : StoreHeld (.appending a) (b.rollOver a.session n d i l) := by
  obtain ⟨m, e, g, hm, he, hrec, hses, hg, hne⟩ := hc.calls.inPage hst
  rw [hdoc] at hm
  cases hm
  rw [hd] at he
  cases he
  obtain ⟨lead, rest, ho⟩ := List.exists_cons_of_ne_nil ((hc.charges.documents n d hd).receiving hrec).2.1
  have hlen : (d.pages.dropLast ++ [{ g with slots := g.slots ++ [LeafSlot.placed l] }]).length = d.pages.length := by
    conv_rhs => rw [Document.pages_last hg]
    rw [List.length_append, List.length_append]
    rfl
  have hslot : ∀ x y, (d.withLastPage { g with slots := g.slots ++ [.placed l] }).slotAt x y =
      if x = d.pages.length ∧ y = g.slots.length then some (.placed l) else d.slotAt x y := fun x y => by
    rw [Document.slotAt_withLastPage hg]
    by_cases hx : x = d.pages.length
    · rw [if_pos hx, hx, Document.slotAt_last hg]
      by_cases hy : y = g.slots.length
      · rw [hy, if_pos ⟨rfl, rfl⟩]; exact List.getElem?_concat_length
      · rw [if_neg fun hxy => hy hxy.2, List.getElem?_append]
        split_ifs with hlt
        · rfl
        · rw [List.getElem?_eq_none (by rw [List.length_singleton]; omega), List.getElem?_eq_none (by omega)]
    · rw [if_neg hx, if_neg fun hxy => hx hxy.1]
  rw [Body.rollOver_eq ho hg]
  refine h.withSlot hc.calls hd hses hroom hst ?_ (fun q => ?_)
    (g := { g with slots := g.slots ++ [LeafSlot.placed l] }) List.getLast?_concat ?_ hdoc
    fun x hx _ => .inr ⟨by cases hx; rfl, by cases hx; exact hst, hlen, g, hg, by simp⟩
  · rw [Body.slotAt_doc hd, Document.slotAt_last hg]
    exact List.getElem?_eq_none (Nat.le_refl _)
  · obtain ⟨m, x, y⟩ := q
    rw [Body.setDoc_slotAt]
    by_cases hm : m = n
    · subst hm
      rw [if_pos rfl, Body.slotAt_doc hd]
      simp only [Place.mk.injEq, true_and]
      exact (Document.slotAt_pages rfl x y).trans (hslot x y)
    · rw [if_neg hm, if_neg fun he => hm (congrArg Place.slot he)]
  · dsimp only
    rw [hlen, List.length_append]
    rfl

end

end Sys2Proof.Machine
end

section
/-! The sessions' changes keep the store: an APPEND's bytes settled, a page ended or cut, a session closed (R52 to R59). -/

namespace Sys2Proof.Machine

section
variable {txn : Transaction} {b c : Body} {n k i l : Nat} {d f : Document}

theorem Body.leaf_of_write {v : Leaf} (h : c.leaves = Table.write Leaf.blank b.leaves l v) (m : Nat) :
    c.leaf m = if m = l then v else b.leaf m := by
  unfold Body.leaf
  rw [h, Table.read_write]

theorem Body.buffer_of_write {v : Buffer} (h : c.buffers = Table.write Buffer.free b.buffers i v) (j : Nat) :
    c.buffer j = if j = i then v else b.buffer j := by
  unfold Body.buffer
  rw [h, Table.read_write]

theorem Body.session_of_write {v : Session} (h : c.sessions = Table.write Session.idle b.sessions k v) (j : Nat) :
    c.session j = if j = k then v else b.session j := by
  unfold Body.session
  rw [h, Table.read_write]

theorem Body.bank_of_write {v : Bank} (h : c.banks = Table.write Bank.empty b.banks k v) (j : Nat) :
    c.bank j = if j = k then v else b.bank j := by
  unfold Body.bank
  rw [h, Table.read_write]

theorem Body.leaves_of_write (hw : Table.wf Leaf.blank b.leaves) {v : Leaf}
    (h : c.leaves = Table.write Leaf.blank b.leaves l v) : Table.wf Leaf.blank c.leaves := h ▸ Table.wf_write l v hw

theorem Body.ListsFit.mem_queue (h : b.ListsFit) : i ∈ (b.session k).queue ↔ (b.buffer i).holder = some (.session k) :=
  (h.queues k).2 i

theorem Document.withLastPage_length {g : Page} (hg : d.pages.getLast? = some g) (q : Page) :
    (d.withLastPage q).pages.length = d.pages.length := by
  have hlen := congrArg List.length (Document.pages_last hg)
  rw [List.length_append, List.length_singleton] at hlen
  rw [hlen]
  exact List.length_append

/-- A buffer that a session holds stands behind a slot. -/
theorem Body.PartsFit.heldBehind (h : b.PartsFit) (hh : (b.buffer i).holder = some (.session k)) :
    ∃ st, (b.buffer i).state.leafState = some st := by
  cases hs : (b.buffer i).state.leafState with
  | some st => exact ⟨st, rfl⟩
  | none =>
    rcases (BufState.leafState_isSome_iff _).mp hs with hs | hs | hs
    · rw [(h.buffer i).free hs] at hh; cases hh
    · rw [((h.buffer i).windowed (.inl hs)).2.2.1] at hh; cases hh
    · rw [((h.buffer i).windowed (.inr hs)).2.2.1] at hh; cases hh

/-! ### Bytes and pages -/

/-- Bytes are written into a FILLING buffer. -/
theorem StoreHeld.fill (h : StoreHeld txn b) (hc : OpenCalls txn b) (hst : (b.buffer i).state = .filling) (bytes : List Byte) :
    StoreHeld txn (b.fill i bytes) := by
  refine ⟨h.parts.refill (by rw [hst]; rfl) (b.buffer i).holder _, h.lists.setBuffer _ .rfl .rfl rfl,
    h.tails.sameQueues hc (.of_eq rfl) (fun _ _ d _ hd _ _ => ⟨d, hd, rfl⟩) (fun _ => rfl) fun j hj => ?_⟩
  unfold Body.fill
  rw [Body.setBuffer_buffer]
  split_ifs with hji
  · rw [hji]; exact ⟨hst, rfl⟩
  · exact ⟨hj, rfl⟩

/-- A document's last page is replaced by one with the same slots. -/
theorem StoreHeld.storePage (h : StoreHeld txn b) (hc : OpenCalls txn b) (hd : b.doc n = some d)
    (hf : f.pages.map (fun g => g.slots) = d.pages.map (fun g => g.slots)) : StoreHeld txn (b.setDoc n f) := by
  have hmask : f.mask = d.mask := by
    have := congrArg (List.map (List.map (fun v => v == LeafSlot.released))) hf
    rw [List.map_map, List.map_map] at this
    exact this
  refine h.still hc rfl rfl rfl rfl rfl (fun _ => ⟨rfl, rfl, rfl⟩) (fun q v _ => by rw [Body.setDoc_slotAt_same hd hf])
    fun k m e _ he _ _ => ?_
  rw [Body.setDoc_doc]
  split_ifs with hm
  · rw [hm, hd] at he
    cases he
    exact ⟨f, rfl, hmask⟩
  · exact ⟨e, he, rfl⟩

theorem StoreHeld.growPage (h : StoreHeld txn b) (hc : OpenCalls txn b) (hd : b.doc n = some d) {g : Page}
    (hg : d.pages.getLast? = some g) (count : Nat) : StoreHeld txn (b.growPage n count) := by
  rw [Body.growPage_eq count hd hg]
  exact h.storePage hc hd (Document.withLastPage_slots hg rfl)

/-- The buffer before the tail becomes READY, when its APPEND has been settled. -/
theorem StoreHeld.makeReady (h : StoreHeld txn b) (hst : (b.buffer i).state = .filling)
    (htail : ∀ j, (b.session j).state = .inPage → (b.session j).queue.getLast? ≠ some i) : StoreHeld .none (b.makeReady i) := by
  obtain ⟨l, hl⟩ := h.parts.filling hst
  obtain ⟨p, _, hbl, _⟩ := h.parts.behind (by rw [hst]; rfl) hl
  refine ⟨h.parts.ready (data := (b.buffer i).data) hst hl ?_ (fun m => ?_) (Body.makeReady_buffer b i) (fun q v _ => ?_) fun j => ?_,
    h.lists.makeReady hst hl (by rw [hbl]), ⟨fun j hin => ?_, fun a ha => by cases ha⟩⟩
  · exact Body.leaves_of_write h.parts.canonical (by rw [Body.makeReady_leaf_eq hl])
  · rw [Body.makeReady_leaf, hl]
    by_cases hm : m = l
    · rw [hm, if_pos rfl, if_pos rfl]
    · rw [if_neg hm, if_neg fun he => hm (Option.some.inj he).symm]
  · rw [Body.slotAt_congr (b := b) (by simp)]
  · rw [Body.bank_congr (c := b) (by simp)]; exact ⟨rfl, rfl⟩
  · have hses := Body.session_congr (b := b.makeReady i) (c := b) (by simp) j
    rw [hses] at hin ⊢
    have hf := h.tails.tail j hin
    refine hf.transport (by rw [hses]) (fun n d _ hd => ⟨d, (Body.doc_congr (by simp) n).trans hd, rfl⟩) fun x hx hxs => ⟨hx, ?_⟩
    rw [Body.makeReady_buffer, if_neg fun he : x = i => htail j hin (he ▸ hx)]
    exact ⟨hxs, rfl⟩

/-! ### The end of an APPEND's data block -/

/-- A slot that an APPEND reserved is returned (R56, R69, R85). -/
theorem StoreHeld.returnReserved (h : StoreHeld txn b) (hc : ChargesHeld txn b) (hin : (b.session k).state = .inPage)
    (hdoc : (b.session k).doc = some n) (hd : b.doc n = some d) {g : Page} (hg : d.pages.getLast? = some g)
    {before : List Nat} {old new : Nat} (hq : (b.session k).queue = before ++ [old, new])
    (hold : (b.buffer old).state = .filling)
    (hplace : (b.buffer old).place = some ⟨n, d.pages.length, g.slots.length - 2⟩) : StoreHeld .none (b.returnReserved n new) := by
  obtain ⟨m, e, r, hm, he, hrec, hses, hr, hne⟩ := hc.calls.inPage hin
  rw [hdoc] at hm
  cases hm
  rw [hd] at he
  cases he
  rw [hg] at hr
  cases hr
  obtain ⟨lead, rest, ho⟩ := List.exists_cons_of_ne_nil ((hc.charges.documents n d hd).receiving hrec).2.1
  have hlast : (b.session k).queue.getLast? = some new := by rw [hq]; simp
  obtain ⟨m, e, r, j, hm, he, hr, hj, hnew, hpl⟩ := h.tails.tail k hin
  rw [hdoc] at hm
  cases hm
  rw [hd] at he
  cases he
  rw [hg] at hr
  cases hr
  rw [hlast] at hj
  cases hj
  have hheld : (b.buffer new).holder = some (.session k) := h.lists.mem_queue.mp (List.mem_of_getLast? hlast)
  have hne' : old ≠ new := fun heq => by
    have hnd := (h.lists.queues k).1
    rw [hq, heq] at hnd
    have := (List.nodup_append.mp hnd).2.1
    simp at this
  obtain ⟨l, hl⟩ := h.parts.filling hnew
  obtain ⟨p, hp, hbl, hslot, hbound, hi, _⟩ := h.parts.behind (by rw [hnew]; rfl) hl
  rw [hpl] at hp
  cases hp
  have hlen : 0 < g.slots.length := List.length_pos_iff.mpr hne
  have hlists : (b.returnReserved n new).ListsFit := by
    have hrel := (h.lists.releaseBuffer new).returnLeaf (l := l) hbound
      (by rw [Body.leaf_congr (b := b) (by simp), hbl]; nofun) (by rw [Body.leaf_congr (b := b) (by simp), hbl]; nofun)
    rw [Body.releaseBuffer_held hheld] at hrel
    rw [Body.returnReserved_eq hd hg ho hl hheld]
    exact hrel.congr (fun _ => rfl) (fun _ => rfl) (fun _ => rfl) rfl rfl fun _ => rfl
  have heq := Body.returnReserved_eq hd hg ho hl hheld
  generalize b.returnReserved n new = c at hlists heq
  have hcat : c.catalog = (b.setDoc n { d.withLastPage { g with slots := g.slots.dropLast } with
      obligations := { lead with charge := lead.charge - 1 } :: rest }).catalog := by rw [heq]; rfl
  have hleaf : ∀ m, c.leaf m = if m = l then Leaf.blank else b.leaf m := Body.leaf_of_write (by rw [heq])
  have hbuf : ∀ j, c.buffer j = if j = new then Buffer.free else b.buffer j := Body.buffer_of_write (by rw [heq])
  have hsession : ∀ j, c.session j = if j = k then { b.session k with queue := (b.session k).queue.filter (fun j => j ≠ new) }
      else b.session j := Body.session_of_write (by rw [heq])
  have hbank : ∀ j, (c.bank j).op = (b.bank j).op ∧ (c.bank j).fetchQueue = (b.bank j).fetchQueue := fun j => by
    have : c.bank j = if j = l % 4 then { b.bank (l % 4) with blank := l :: (b.bank (l % 4)).blank } else b.bank j :=
      Body.bank_of_write (by rw [heq]) j
    rw [this]
    split_ifs with hjl
    · rw [hjl]; exact ⟨rfl, rfl⟩
    · exact ⟨rfl, rfl⟩
  have hslots : ∀ q, c.slotAt q = if q = ⟨n, d.pages.length, g.slots.length - 1⟩ then none else b.slotAt q := by
    rintro ⟨m, x, y⟩
    rw [Body.slotAt_congr hcat, Body.setDoc_slotAt]
    by_cases hm : m = n
    · subst hm
      rw [if_pos rfl, Body.slotAt_doc hd]
      simp only [Place.mk.injEq, true_and]
      refine (Document.slotAt_pages (d := d.withLastPage { g with slots := g.slots.dropLast }) rfl x y).trans ?_
      rw [Document.slotAt_withLastPage hg]
      by_cases hx : x = d.pages.length
      · rw [if_pos hx, hx, Document.slotAt_last hg, List.getElem?_dropLast]
        by_cases hy : y = g.slots.length - 1
        · rw [if_neg (by omega), if_pos ⟨rfl, hy⟩]
        · rw [if_neg (c := _ ∧ _) fun hxy => hy hxy.2]
          split_ifs with hlt
          · rfl
          · exact (List.getElem?_eq_none (by omega)).symm
      · rw [if_neg hx, if_neg fun hxy => hx hxy.1]
    · rw [if_neg hm, if_neg fun he => hm (congrArg Place.slot he)]
  have ht : Touches b c (some l) (some new) (some ⟨n, d.pages.length, g.slots.length - 1⟩) :=
    ⟨Body.leaves_of_write h.parts.canonical (by rw [heq]), fun m hm => by rw [hleaf, if_neg (ne_of_some hm)],
      fun j hj => by rw [hbuf, if_neg (ne_of_some hj)], fun q hq v _ => by rw [hslots, if_neg (ne_of_some hq)]⟩
  have hdocn : c.doc n = some { d.withLastPage { g with slots := g.slots.dropLast } with
      obligations := { lead with charge := lead.charge - 1 } :: rest } := by
    rw [Body.doc_congr hcat, Body.setDoc_doc, if_pos rfl]
  refine ⟨h.parts.part (st := .filling) (by rw [hnew]; rfl) hl hpl ht.canonical hleaf hbuf
      (fun q hq v _ => by rw [hslots, if_neg hq]) (.inl ⟨rfl, rfl, fun m => by rw [hslots, if_pos rfl]; nofun⟩)
      fun j hj => (h.parts.bank j hj).touch ht (hbank j).1 (hbank j).2 ?_ ?_, hlists,
    h.tails.update hc.calls h.lists (n := n) (k := k) ?_ (fun j hj => by rw [hsession, if_neg hj])
      (fun m hm => by rw [Body.doc_congr hcat, Body.setDoc_doc, if_neg hm]) (fun j hj hjs => ?_) (fun _ => ?_)
      fun a ha => by cases ha⟩
  · rintro _ ⟨⟩
    rw [hleaf, if_pos rfl, hbl]
    exact ⟨rfl, nofun⟩
  · rintro _ ⟨⟩
    rw [hbuf, if_pos rfl, hnew]
    exact ⟨nofun, nofun⟩
  · intro e he; rw [hd] at he; cases he; exact hses
  · rw [hbuf, if_neg fun hjn : j = new => hj (hjn ▸ hheld)]
    exact ⟨hjs, rfl⟩
  · refine ⟨n, _, _, old, ?_, hdocn, Document.withLastPage_last .., ?_, ?_, ?_⟩
    · rw [hsession, if_pos rfl]; exact hdoc
    · rw [hsession, if_pos rfl, hq]
      dsimp only
      rw [List.filter_append, List.filter_cons_of_pos (by simpa using hne'), List.filter_cons_of_neg (by simp)]
      exact List.getLast?_concat
    · rw [hbuf, if_neg hne']; exact hold
    · rw [hbuf, if_neg hne', hplace]
      dsimp only
      rw [Document.withLastPage_length hg, List.length_dropLast, Nat.sub_sub]

/-- The bytes of an APPEND's data block are settled (R52, R55, R56). -/
theorem StoreHeld.settleAppend {a : AppendInFlight} (h : StoreHeld (.appending a) b) (hc : ChargesHeld (.appending a) b)
    (bytes : List Byte) : StoreHeld .none (b.settleAppend a bytes) := by
  obtain ⟨hin, _⟩ := hc.calls.append a rfl
  obtain ⟨n, d, g, hdoc, hd, hrec, hses, hg, hne⟩ := hc.calls.inPage hin
  obtain ⟨m, e, r, new, hm, he, hr, hlast, hnew, hpl⟩ := h.tails.tail a.session hin
  rw [hdoc] at hm
  cases hm
  rw [hd] at he
  cases he
  rw [hg] at hr
  cases hr
  have htail := Session.tail_eq hlast
  have hgrown : ∀ {c : Body} {v : Transaction} (count : Nat), c.catalog = b.catalog → StoreHeld v c → OpenCalls v c →
      StoreHeld v (c.growPage n count) := fun count hcat hs hcalls =>
    hs.growPage hcalls ((Body.doc_congr hcat n).trans hd) hg count
  unfold Body.settleAppend
  dsimp only
  rw [hdoc, Option.getD_some, htail]
  by_cases hrolled : a.rolled = true
  · obtain ⟨m, e, r, old, hm, he, hr, holdq, hold, hplace⟩ := h.tails.rolled a rfl hrolled
    rw [hdoc] at hm
    cases hm
    rw [hd] at he
    cases he
    rw [hg] at hr
    cases hr
    obtain ⟨q, hq⟩ := List.getLast?_eq_some_iff.mp hlast
    rw [hq, List.dropLast_concat] at holdq
    obtain ⟨before, rfl⟩ := List.getLast?_eq_some_iff.mp holdq
    rw [List.append_assoc] at hq
    have hne' : old ≠ new := fun heq => by
      have hnd := (h.lists.queues a.session).1
      rw [hq, heq] at hnd
      have := (List.nodup_append.mp hnd).2.1
      simp at this
    have holdget : (b.session a.session).queue.dropLast.getLast?.getD 0 = old := by
      rw [hq, ← List.append_assoc]
      simp
    rw [if_pos hrolled, holdget]
    split_ifs with hfit
    · have hfilled := h.fill hc.calls hold bytes
      have hcf := hc.fill old bytes
      have hgrow := hgrown (c := b.fill old bytes) bytes.length rfl hfilled hcf.calls
      have hgrowc := hcf.growPage n bytes.length
      have hshape := Body.growPage_eq (b := b.fill old bytes) (n := n) (d := d) bytes.length hd hg
      have hdocn : ((b.fill old bytes).growPage n bytes.length).doc n =
          some (d.withLastPage { g with byteLength := g.byteLength + bytes.length }) := by
        rw [hshape, Body.setDoc_doc, if_pos rfl]
      have hoffset : ((b.fill old bytes).growPage n bytes.length).buffer old =
          { b.buffer old with data := (b.buffer old).data ++ bytes } := by
        rw [hshape]
        exact (Body.setBuffer_buffer ..).trans (if_pos rfl)
      have hsession : ((b.fill old bytes).growPage n bytes.length).session a.session = b.session a.session := by
        rw [hshape]; rfl
      refine hgrow.returnReserved hgrowc (k := a.session) (old := old) (by rw [hsession]; exact hin) (by rw [hsession]; exact hdoc) hdocn
        (Document.withLastPage_last ..) (before := before) (by rw [hsession]; exact hq) (by rw [hoffset]; exact hold) ?_
      rw [hoffset, Document.withLastPage_length hg]
      exact hplace
    · have hfilled := h.fill hc.calls hold (bytes.take a.room)
      have hcf := hc.fill old (bytes.take a.room)
      have hstate : ((b.fill old (bytes.take a.room)).buffer old).state = .filling := by
        unfold Body.fill
        rw [Body.setBuffer_buffer, if_pos rfl]
        exact hold
      have hheld := (h.lists.mem_queue (i := old) (k := a.session)).mp (by rw [hq]; simp)
      have hready := hfilled.makeReady hstate fun j hj hjl => by
        have hjheld := (h.lists.mem_queue (k := j)).mp (List.mem_of_getLast? hjl)
        rw [hheld] at hjheld
        cases hjheld
        have : (b.session a.session).queue.getLast? = some old := hjl
        rw [hlast] at this
        cases this
        exact hne' rfl
      have hcr : ChargesHeld .none ((b.fill old (bytes.take a.room)).makeReady old) :=
        ⟨(hcf.makeReady old).charges, (hcf.makeReady old).calls.free⟩
      have hnewState : (((b.fill old (bytes.take a.room)).makeReady old).buffer new).state = .filling := by
        rw [Body.makeReady_buffer, if_neg (Ne.symm hne')]
        unfold Body.fill
        rw [Body.setBuffer_buffer, if_neg (Ne.symm hne')]
        exact hnew
      refine hgrown _ ?_ (hready.fill hcr.calls hnewState _) (hcr.fill new _).calls
      exact Body.makeReady_catalog ..
  · rw [if_neg hrolled]
    have hfree : OpenCalls .none (b.fill new bytes) := (hc.fill new bytes).calls.free
    exact hgrown _ rfl (h.fill hc.calls hnew bytes).free hfree

/-! ### A page ends -/

/-- The page of a session is put away with its slots, its buffer READY, and the session leaves it (R53, R54, R57). -/
theorem StoreHeld.leavePage (h : StoreHeld txn b) (hc : OpenCalls txn b) (hclear : txn.clear k)
    (hin : (b.session k).state = .inPage) (hdoc : (b.session k).doc = some n) (hd : b.doc n = some d) {g q : Page}
    (hg : d.pages.getLast? = some g) (hq : q.slots = g.slots) {tail l : Nat}
    (ht : (b.session k).queue.getLast? = some tail) (hl : (b.buffer tail).leaf = some l) {st : SessState}
    (hst : st ≠ .idle ∧ st ≠ .inPage)
    (hshape : c = { b with
      catalog := Table.write Slot.free b.catalog n { b.slot n with doc := some (d.withLastPage q) },
      leaves := Table.write Leaf.blank b.leaves l { b.leaf l with state := .ready },
      buffers := Table.write Buffer.free b.buffers tail { b.buffer tail with state := .ready },
      ready := b.ready ++ [tail],
      sessions := Table.write Session.idle b.sessions k { b.session k with state := st } }) : StoreHeld txn c := by
  obtain ⟨m, e, hm, he, hrec, hses, _⟩ := hc.sessions k (by rw [hin]; nofun)
  rw [hdoc] at hm
  cases hm
  rw [hd] at he
  cases he
  obtain ⟨_, _, _, j, _, _, _, hj, hfill, _⟩ := h.tails.tail k hin
  rw [ht] at hj
  cases hj
  obtain ⟨p, _, hbl, _⟩ := h.parts.behind (by rw [hfill]; rfl) hl
  have hheld := (h.lists.mem_queue (k := k)).mp (List.mem_of_getLast? ht)
  have hready := h.lists.makeReady hfill hl (by rw [hbl])
  rw [Body.makeReady_leaf_eq hl] at hready
  have hbuf : ∀ j, c.buffer j = if j = tail then { b.buffer tail with state := .ready } else b.buffer j :=
    Body.buffer_of_write (by rw [hshape])
  have hsession : ∀ j, c.session j = if j = k then { b.session k with state := st } else b.session j :=
    Body.session_of_write (by rw [hshape])
  have hcat : c.catalog = (b.setDoc n (d.withLastPage q)).catalog := by rw [hshape]; rfl
  refine ⟨h.parts.ready (data := (b.buffer tail).data) hfill hl ?_ (fun m => ?_) hbuf (fun x v _ => ?_) fun j => ?_,
    hready.keep (fun m => ?_) (fun j => ?_) (fun j => ?_) ?_ ?_ (fun j => ?_) fun j hj => ?_,
    h.tails.update hc h.lists (n := n) (k := k) ?_ (fun j hj => by rw [hsession, if_neg hj])
      (fun m hm => by rw [Body.doc_congr hcat, Body.setDoc_doc, if_neg hm]) (fun j hj hjs => ?_) (fun hk => ?_)
      fun a ha _ => .inl ⟨ha, hclear a ha⟩⟩
  · exact Body.leaves_of_write h.parts.canonical (by rw [hshape])
  · exact Body.leaf_of_write (by rw [hshape]) m
  · rw [Body.slotAt_congr hcat, Body.setDoc_slotAt_same hd (Document.withLastPage_slots hg hq)]
  · rw [hshape]; exact ⟨rfl, rfl⟩
  · rw [hshape]; exact ⟨.rfl, .rfl⟩
  · rw [hshape]; exact ⟨.rfl, .rfl, rfl⟩
  · rw [hshape]; exact ⟨rfl, rfl⟩
  · rw [hshape]
  · rw [hshape]
  · rw [hsession]
    split_ifs with hj
    · rw [hj]; rfl
    · rfl
  · rw [hsession] at hj
    split_ifs at hj with hjk
    · exact absurd hj hst.1
    · exact hj
  · intro e he; rw [hd] at he; cases he; exact hses
  · rw [hbuf, if_neg fun hjt : j = tail => hj (hjt ▸ hheld)]
    exact ⟨hjs, rfl⟩
  · rw [hsession, if_pos rfl] at hk
    exact absurd hk hst.2

theorem StoreHeld.cutPage (h : StoreHeld txn b) (hc : OpenCalls txn b) (hclear : txn.clear k)
    (hin : (b.session k).state = .inPage) {st : SessState} (hst : st = .admitted ∨ st = .stopped) :
    StoreHeld txn (b.cutPage k st) := by
  obtain ⟨n, d, g, i, hdoc, hd, hg, ht, hfill, _⟩ := h.tails.tail k hin
  obtain ⟨l, hl⟩ := h.parts.filling hfill
  exact h.leavePage hc hclear hin hdoc hd hg (Page.cut_slots g) ht hl (by rcases hst with rfl | rfl <;> exact ⟨nofun, nofun⟩)
    (Body.cutPage_eq st hdoc hd hg ht hl)

theorem StoreHeld.endPage (h : StoreHeld txn b) (hc : OpenCalls txn b) (hclear : txn.clear k)
    (hin : (b.session k).state = .inPage) (hdoc : (b.session k).doc = some n) (x y : Nat) :
    StoreHeld txn (b.endPage k n x y) := by
  obtain ⟨m, d, g, i, hm, hd, hg, ht, hfill, _⟩ := h.tails.tail k hin
  rw [hdoc] at hm
  cases hm
  obtain ⟨l, hl⟩ := h.parts.filling hfill
  exact h.leavePage hc hclear hin hdoc hd hg (q := { g with state := .closed, counts := some (x, y) }) rfl ht hl
    (st := .admitted) ⟨nofun, nofun⟩ (Body.endPage_eq x y hd hg ht hl)

/-! ### A session closes -/

/-- A close leaves every slot with what it names. -/
theorem Body.closeDocument_slotAt (hd : b.doc n = some d) (t : Tables) (tb : Timebase) (ending : Ending) (q : Place) :
    (b.closeDocument t tb n ending).slotAt q = b.slotAt q := by
  by_cases hz : d.leafCount = 0
  · rw [Body.closeDocument_discards hd hz, Body.freeSlot_slotAt]
    split_ifs with hq
    · unfold Body.slotAt
      rw [hq, hd]
      cases hp : d.page q.page with
      | none => rw [Option.bind_some, hp]; rfl
      | some g =>
        have hmem : g ∈ d.pages := by
          unfold Document.page at hp
          split_ifs at hp
          exact List.mem_of_getElem? hp
        have hlen : g.slots.length = 0 := by
          have := List.le_sum_of_mem (List.mem_map_of_mem (f := fun p : Page => p.slots.length) hmem)
          unfold Document.leafCount at hz
          omega
        rw [Option.bind_some, hp, Option.bind_some, List.length_eq_zero_iff.mp hlen]
        rfl
    · rfl
  · rw [Body.closeDocument_keeps hd hz, Body.slotAt_congr (Body.moveAccounts_catalog ..)]
    refine Body.setDoc_slotAt_same hd ?_ q
    rw [Document.kept_pages]
    conv_rhs => rw [← List.getLast?_toList_append_dropLast d.pages]
    rw [List.map_append, List.map_append]
    cases d.pages.getLast? with
    | none => rfl
    | some g => exact congrArg (List.map (fun p : Page => p.slots) d.pages.dropLast ++ [·]) (Page.cut_slots g)

/-- The buffers of a list become orphans (R70). -/
theorem Body.PartsFit.orphans (h : b.PartsFit) {q : List Nat}
    (hq : ∀ i ∈ q, ∃ st, (b.buffer i).state.leafState = some st) : (q.foldl Body.orphan b).PartsFit := by
  induction q generalizing b with
  | nil => exact h
  | cons i q ih =>
    obtain ⟨st, hst⟩ := hq i List.mem_cons_self
    have horphan : (b.orphan i).PartsFit := h.refill hst (some .orphan) (b.buffer i).data
    refine ih horphan fun j hj => ?_
    unfold Body.orphan
    rw [Body.setBuffer_buffer]
    split_ifs with hji
    · exact ⟨st, hst⟩
    · exact hq j (List.mem_cons_of_mem _ hj)

/-- A session closes (R59). -/
theorem StoreHeld.closeSession (h : StoreHeld txn b) (hc : OpenCalls txn b) (hclear : txn.clear k) (t : Tables)
    (tb : Timebase) (ending : Ending) : StoreHeld txn (b.closeSession t tb k ending) := by
  by_cases hst : (b.session k).state = .idle
  · rw [Body.closeSession_idle hst]; exact h
  obtain ⟨n, d, hdoc, hd, hrec, hses, _⟩ := hc.sessions k hst
  have hqueue : (b.session k).state = .inPage → (b.session k).queue ≠ [] := fun hin hn => by
    obtain ⟨_, _, _, _, _, _, _, hj, _⟩ := h.tails.tail k hin
    rw [hn] at hj
    cases hj
  have hheld : ∀ i, i ∈ (b.session k).queue ↔ (b.buffer i).holder = some (.session k) := fun _ => h.lists.mem_queue
  have hfilled : (b.filledBy k).PartsFit ∧ (b.filledBy k).ListsFit := by
    unfold Body.filledBy
    split_ifs with hin
    · obtain ⟨_, _, _, i, _, _, _, hj, hfill, _⟩ := h.tails.tail k hin
      obtain ⟨l, hl⟩ := h.parts.filling hfill
      obtain ⟨p, _, hbl, _⟩ := h.parts.behind (by rw [hfill]; rfl) hl
      rw [Session.tail_eq hj]
      refine ⟨h.parts.ready (data := (b.buffer i).data) hfill hl ?_ (fun m => ?_) (Body.makeReady_buffer b i) (fun q v _ => ?_)
        fun j => ?_, h.lists.makeReady hfill hl (by rw [hbl])⟩
      · exact Body.leaves_of_write h.parts.canonical (by rw [Body.makeReady_leaf_eq hl])
      · rw [Body.makeReady_leaf, hl]
        by_cases hm : m = l
        · rw [hm, if_pos rfl, if_pos rfl]
        · rw [if_neg hm, if_neg fun he => hm (Option.some.inj he).symm]
      · rw [Body.slotAt_congr (b := b) (by simp)]
      · rw [Body.bank_congr (c := b) (by simp)]; exact ⟨rfl, rfl⟩
    · exact ⟨h.parts, h.lists⟩
  have hparts := Body.closeSession_parts (t := t) (tb := tb) (ending := ending) hst
  have hclose : b.closeDocOf t tb (b.session k).doc ending = b.closeDocument t tb n ending := by rw [hdoc]; rfl
  rw [hclose] at hparts
  have hsession := Body.closeSession_session (t := t) (tb := tb) (ending := ending) hst
  have hbuffer := Body.closeSession_buffer (t := t) (tb := tb) (ending := ending) hst hqueue
  generalize b.closeSession t tb k ending = c at hparts hsession hbuffer
  have hcat : c.catalog = (b.closeDocument t tb n ending).catalog := by rw [hparts]
  have hfbuf := fun i => Body.filledBy_buffer hqueue i
  have hframe := b.filledBy_eq k
  have horphans := hfilled.1.orphans (q := (b.session k).queue) fun i hi =>
    hfilled.1.heldBehind (k := k) (by rw [hfbuf]; exact (hheld i).mp hi)
  have hbuf : ∀ j, c.buffer j = { (b.filledBy k).buffer j with
      holder := if j ∈ (b.session k).queue then some .orphan else ((b.filledBy k).buffer j).holder } := fun j => by
    rw [← foldl_orphan_buffer]
    unfold Body.buffer
    rw [hparts]
  have hocat : ((b.session k).queue.foldl Body.orphan (b.filledBy k)).catalog = b.catalog :=
    (congrArg Body.catalog (foldl_orphan_eq ..)).trans (show (b.filledBy k).catalog = b.catalog by rw [hframe])
  have hobanks : ((b.session k).queue.foldl Body.orphan (b.filledBy k)).banks = (b.filledBy k).banks :=
    (congrArg Body.banks (foldl_orphan_eq ..)).trans rfl
  have hleaf : ∀ m, c.leaf m = (b.filledBy k).leaf m := Body.leaf_congr (by rw [hparts])
  have hbank : ∀ j, c.bank j = (b.filledBy k).bank j := Body.bank_congr (by rw [hparts, hframe])
  refine ⟨horphans.congr ?_ (fun m => ?_) (fun j => ?_) (fun q v _ => ?_) fun j => ?_,
    ⟨fun j hj => ?_, fun j hj => ?_, ?_, ?_, fun j => ?_, fun j => ?_⟩,
    h.tails.update hc h.lists (n := n) (k := k) ?_ (fun j hj => by rw [hsession, if_neg hj])
      (fun m hm => by rw [Body.doc_congr hcat, Body.closeDocument_doc_of_ne t tb ending hm]) (fun j hj hjs => ?_)
      (fun hk => ?_) fun a ha _ => .inl ⟨ha, hclear a ha⟩⟩
  · rw [show c.leaves = (b.filledBy k).leaves by rw [hparts]]; exact hfilled.1.canonical
  · rw [hleaf]; exact (Body.leaf_congr (by rw [foldl_orphan_eq]) m).symm
  · rw [hbuf, foldl_orphan_buffer]
  · rw [Body.slotAt_congr hcat, Body.closeDocument_slotAt hd, Body.slotAt_congr hocat]
  · rw [hbank, Body.bank_congr hobanks]; exact ⟨rfl, rfl⟩
  · rw [hbank]; exact (hfilled.2.blank j hj).congr fun x => by rw [hleaf]
  · rw [hbank]; exact (hfilled.2.erase j hj).congr fun x => by rw [hleaf]
  · rw [show c.ready = (b.filledBy k).ready by rw [hparts]]
    exact hfilled.2.ready.congr fun x => by rw [hbuf]
  · rw [show c.windows = (b.filledBy k).windows by rw [hparts, hframe]]
    exact hfilled.2.windows.congr fun x => by rw [hbuf]
  · rw [hsession]
    split_ifs with hj
    · refine Listing.nil fun x => ?_
      rw [hbuffer, hj]
      dsimp only
      split_ifs with hx
      · nofun
      · exact fun hh => hx ((hheld x).mpr hh)
    · refine (h.lists.queues j).congr fun x => ?_
      rw [hbuffer]
      dsimp only
      split_ifs with hx
      · rw [(hheld x).mp hx]
        exact ⟨nofun, fun he => by cases he; exact absurd rfl hj⟩
      · exact .rfl
  · rw [hsession]
    split_ifs with hj
    · exact ⟨Nat.zero_le 4, fun _ => rfl⟩
    · exact h.lists.short j
  · intro e he; rw [hd] at he; cases he; exact hses
  · have hnot : j ∉ (b.session k).queue := fun hm => hj ((hheld j).mp hm)
    rw [hbuffer]
    exact ⟨(if_neg fun hl => hnot (List.mem_of_getLast? hl.2)).trans hjs, rfl⟩
  · rw [hsession, if_pos rfl] at hk
    cases hk

end

end Sys2Proof.Machine
end

section
/-! Deliveries and purges keep the store: windows touched, fetched into and freed, slots of a purge released, the cursor
moved on (R73, R75 to R79, R95, R150). -/

namespace Sys2Proof.Machine

section
variable {txn : Transaction} {b c : Body} {n k i l page index : Nat} {d f : Document} {p : Place}

/-! ### Windows -/

theorem StoreHeld.touchWindow (h : StoreHeld txn b) (hc : OpenCalls txn b) (hi : i ∈ b.windows) :
    StoreHeld txn (b.touchWindow i) :=
  ⟨h.parts.congr h.parts.canonical (fun _ => rfl) (fun _ => rfl) (fun _ _ _ => .rfl) fun _ => ⟨rfl, rfl⟩,
    h.lists.touchWindow hi,
    h.tails.sameQueues hc (.of_eq rfl) (fun _ _ d _ hd _ _ => ⟨d, hd, rfl⟩) (fun _ => rfl) fun _ hj => ⟨hj, rfl⟩⟩

/-- The buffer that a miss obtains is FREE or a window (R75). -/
theorem StoreHeld.windowBuffer (h : StoreHeld txn b) (hi : b.windowBuffer = some i) :
    ((b.buffer i).state = .free ∨ (b.buffer i).state = .window) ∧ i < 144 := by
  unfold Body.windowBuffer at hi
  split_ifs at hi
  · obtain ⟨hfree, _, hlt, _⟩ := firstFrom_some hi
    rw [decide_eq_true_eq] at hfree
    rw [Nat.zero_add] at hlt
    exact ⟨.inl hfree, hlt⟩
  · have hst := List.find?_some hi
    rw [decide_eq_true_eq] at hst
    refine ⟨.inr hst, ?_⟩
    by_contra hb
    rw [(h.parts.buffer i).bounded (by omega)] at hst
    cases hst

theorem StoreHeld.fetchInto (h : StoreHeld txn b) (hc : OpenCalls txn b) (hi : b.windowBuffer = some i) (l : Nat) :
    StoreHeld txn (b.fetchInto i l) := by
  obtain ⟨hst, hlt⟩ := h.windowBuffer hi
  have hbuf : ∀ j, j ≠ i → (b.fetchInto i l).buffer j = b.buffer j := fun j hj =>
    (Body.setBuffer_buffer b i ⟨.fetching, some l, none, some .delivery, [], false⟩ j).trans (if_neg hj)
  refine ⟨h.parts.fetchInto hst hlt l, h.lists.fetchInto hst (fun j hj => ?_) l,
    h.tails.sameQueues hc (.of_eq rfl) (fun _ _ d _ hd _ _ => ⟨d, hd, rfl⟩) (fun _ => rfl) fun j hj => ?_⟩
  · obtain ⟨st, hs⟩ := h.parts.heldBehind hj
    rcases hst with he | he <;> rw [he] at hs <;> cases hs
  · rw [hbuf j fun he => ?_]
    · exact ⟨hj, rfl⟩
    · rw [he] at hj
      rcases hst with hs | hs <;> rw [hs] at hj <;> cases hj

/-- A buffer that no leaf has and that neither fills nor fetches is freed. -/
theorem StoreHeld.freeBuffer (h : StoreHeld txn b) (hc : OpenCalls txn b) (hown : ∀ m, (b.leaf m).buffer ≠ some i)
    (hfetch : (b.buffer i).state ≠ .fetching) (hfill : (b.buffer i).state ≠ .filling) : StoreHeld txn (b.releaseBuffer i) := by
  refine ⟨h.parts.freeBuffer hown hfetch, h.lists.releaseBuffer i,
    h.tails.transport hc (.releaseBuffer b i) (fun _ n d _ hd _ _ => ⟨d, (Body.doc_congr (by simp) n).trans hd, rfl⟩)
      (keep := fun k j => ¬ (j = i ∧ (b.buffer j).holder = some (.session k))) (fun k => ?_) (fun k j hj => ?_) fun j hj => ?_⟩
  · rw [Body.releaseBuffer_session]
  · exact decide_eq_true fun he => hfill (he.1 ▸ hj)
  · rw [Body.releaseBuffer_buffer, if_neg fun he : j = i => hfill (he ▸ hj)]
    exact ⟨hj, rfl⟩

theorem StoreHeld.freeWindow (h : StoreHeld txn b) (hc : OpenCalls txn b) (hst : (b.buffer i).state = .window) :
    StoreHeld txn (b.releaseBuffer i) :=
  h.freeBuffer hc (h.parts.unowned (.inr (by rw [hst]; rfl))) (by rw [hst]; nofun) (by rw [hst]; nofun)

theorem StoreHeld.discard (h : StoreHeld txn b) (hc : OpenCalls txn b) (hst : (b.buffer i).state = .fetching) :
    StoreHeld txn (b.setBuffer i { b.buffer i with discard := true }) := by
  refine ⟨h.parts.discard hst, h.lists.setBuffer _ .rfl .rfl rfl,
    h.tails.sameQueues hc (.of_eq rfl) (fun _ _ d _ hd _ _ => ⟨d, hd, rfl⟩) (fun _ => rfl) fun j hj => ?_⟩
  rw [Body.setBuffer_buffer, if_neg fun he => ?_]
  · exact ⟨hj, rfl⟩
  · rw [he, hst] at hj; cases hj

theorem StoreHeld.windowState (h : StoreHeld txn b) (hi : i ∈ b.windows) (hst : (b.buffer i).state ≠ .window) :
    (b.buffer i).state = .fetching := ((h.lists.windows.2 i).mp hi).resolve_right hst

/-- The window of a leaf whose void mark starts goes (R78). -/
theorem StoreHeld.dropWindow (h : StoreHeld txn b) (hc : OpenCalls txn b) (l : Nat) : StoreHeld txn (b.dropWindow l) := by
  cases hw : b.windowOf l with
  | none => rw [Body.dropWindow_none hw]; exact h
  | some i =>
    by_cases hst : (b.buffer i).state = .window
    · rw [Body.dropWindow_frees hw hst]
      exact h.freeWindow hc hst
    · rw [Body.dropWindow_discards hw hst]
      exact h.discard hc (h.windowState (List.mem_of_find?_eq_some hw) hst)

theorem Body.resetWindow_window (hst : (b.buffer i).state = .window) : b.resetWindow i = b.releaseBuffer i := if_pos hst

theorem Body.resetWindow_fetching (hst : (b.buffer i).state = .fetching) :
    b.resetWindow i = b.setBuffer i { b.buffer i with discard := true } := if_neg (by rw [hst]; nofun)

/-- The windows are released at a bus reset (R79). -/
theorem StoreHeld.resetWindows (h : StoreHeld txn b) (hc : ChargesHeld txn b) (q : List Nat) (hn : q.Nodup)
    (hq : ∀ i ∈ q, (b.buffer i).state = .fetching ∨ (b.buffer i).state = .window) :
    StoreHeld txn (q.foldl Body.resetWindow b) := by
  induction q generalizing b with
  | nil => exact h
  | cons i q ih =>
    obtain ⟨hi, hn⟩ := List.nodup_cons.mp hn
    have hother : ∀ j ∈ q, (b.resetWindow i).buffer j = b.buffer j := fun j hj => by
      have hji : j ≠ i := fun he => hi (he ▸ hj)
      unfold Body.resetWindow
      split_ifs
      · rw [Body.releaseBuffer_buffer, if_neg hji]
      · rw [Body.setBuffer_buffer, if_neg hji]
    refine ih ?_ (hc.resetWindows [i]) hn fun j hj => by rw [hother j hj]; exact hq j (List.mem_cons_of_mem _ hj)
    rcases hq i List.mem_cons_self with hst | hst
    · rw [Body.resetWindow_fetching hst]; exact h.discard hc.calls hst
    · rw [Body.resetWindow_window hst]; exact h.freeWindow hc.calls hst

/-! ### Purges -/

/-- A slot of a document changes while leaves and buffers stay: what else the store sees. -/
theorem Body.setLeafSlot_slotAt {retained : Nat} (hd : b.doc n = some d) (hp : page ≠ 0) {v : LeafSlot}
    (hv : b.slotAt ⟨n, page, index⟩ ≠ none) (q : Place) :
    (b.setDoc n { d.setLeafSlot page index v with retained := retained }).slotAt q =
      if q = ⟨n, page, index⟩ then some v else b.slotAt q := by
  have hsame : (b.setDoc n { d.setLeafSlot page index v with retained := retained }).slotAt q =
      (b.setDoc n (d.setLeafSlot page index v)).slotAt q := by
    rw [Body.setDoc_slotAt, Body.setDoc_slotAt]
    split_ifs
    · exact Document.slotAt_pages rfl _ _
    · rfl
  rw [hsame]
  unfold Document.setLeafSlot
  rw [Body.updLeafSlot_slotAt hd hp]
  split_ifs with hq
  · rw [hq]
    cases hb : b.slotAt ⟨n, page, index⟩ with
    | none => exact absurd hb hv
    | some w => rfl
  · rfl

/-- Documents that are received go on where a PURGING one is replaced. -/
theorem TailsFit.purging (h : TailsFit txn b) (hc : OpenCalls txn b) (hd : b.doc n = some d) (hst : d.state = .purging)
    (hcat : ∀ m, m ≠ n → c.doc m = b.doc m) (hses : c.sessions = b.sessions) (hbuf : ∀ j, (b.buffer j).state = .filling →
      (c.buffer j).state = .filling ∧ (c.buffer j).place = (b.buffer j).place) : TailsFit txn c := by
  refine h.sameQueues hc (.of_eq hses) (fun _ m e _ he hrec _ => ⟨e, (hcat m fun hm => ?_).trans he, rfl⟩)
    (fun k => by rw [Body.session_congr hses]) hbuf
  rw [hm, hd] at he
  cases he
  rw [hst] at hrec
  cases hrec

/-- An unplaced slot of a PURGING document behind which nothing waits is released. -/
theorem StoreHeld.passSlot (h : StoreHeld txn b) (hc : OpenCalls txn b) (hd : b.doc n = some d) (hst : d.state = .purging)
    (hs : b.slotAt ⟨n, page, index⟩ = some .unplaced) (hw : ∀ j, ¬ b.Waits j ⟨n, page, index⟩) {retained : Nat}
    (hshape : c = { b with catalog :=
      (b.setDoc n { d.setLeafSlot page index .released with retained := retained }).catalog }) : StoreHeld txn c := by
  have hcat : c.catalog = (b.setDoc n { d.setLeafSlot page index .released with retained := retained }).catalog := by
    rw [hshape]
  have hslot : ∀ q, c.slotAt q = if q = ⟨n, page, index⟩ then some .released else b.slotAt q := fun q => by
    rw [Body.slotAt_congr hcat, Body.setLeafSlot_slotAt hd (Body.slotAt_page hs) (by rw [hs]; nofun)]
  refine ⟨h.parts.release hs hw (by rw [hshape]) (fun j => by rw [hshape]; rfl) hslot (fun j => by rw [hshape]; rfl),
    h.lists.congr (fun m => by rw [hshape]; rfl) (fun j => by rw [hshape]; rfl) (fun j => by rw [hshape]; rfl)
      (by rw [hshape]) (by rw [hshape]) fun j => by rw [hshape]; rfl,
    h.tails.purging hc hd hst (fun m hm => ?_) (by rw [hshape]) fun j hj => by rw [hshape]; exact ⟨hj, rfl⟩⟩
  rw [Body.doc_congr hcat, Body.setDoc_doc, if_neg hm]

/-- A buffer that waits is the one found to wait. -/
theorem StoreHeld.waitingBuffer (h : StoreHeld txn b) (hw : b.Waits i p) : b.waitingBuffer p = some i := by
  have hready : i ∈ b.ready := (h.lists.ready.2 i).mpr (.inl ((h.parts.buffer i).waits hw).1)
  cases hf : b.waitingBuffer p with
  | none =>
    have := List.find?_eq_none.mp hf i hready
    rw [hw.1, hw.2] at this
    simp at this
  | some j =>
    obtain ⟨_, hp, hl⟩ := Body.waitingBuffer_some hf
    rw [h.parts.alone i j p hw ⟨hp, hl⟩]

/-- An unplaced slot of a PURGING document is released, with the buffer that waits behind it (R73, R119). -/
theorem StoreHeld.releaseSlot (h : StoreHeld txn b) (hc : OpenCalls txn b) (hd : b.doc n = some d) (hst : d.state = .purging)
    (hs : b.slotAt ⟨n, page, index⟩ = some .unplaced) : StoreHeld txn (b.releaseSlot n page index) := by
  rw [Body.releaseSlot_eq, Body.updDoc_eq _ hd]
  cases hw : b.waitingBuffer ⟨n, page, index⟩ with
  | none =>
    exact h.passSlot hc hd hst hs (fun j hj => by rw [h.waitingBuffer hj] at hw; cases hw) rfl
  | some i =>
    obtain ⟨_, hp, hl⟩ := Body.waitingBuffer_some hw
    have hwait : b.Waits i ⟨n, page, index⟩ := ⟨hp, hl⟩
    have hready := ((h.parts.buffer i).waits hwait).1
    have hfree := h.freeBuffer hc (h.parts.unowned (.inl hl)) (by rw [hready]; nofun) (by rw [hready]; nofun)
    have hcat : (b.releaseBuffer i).catalog = b.catalog := by simp
    refine hfree.passSlot (d := d) (hc.still hcat (SessionsKept.releaseBuffer b i)) ((Body.doc_congr hcat n).trans hd) hst
      ((Body.slotAt_congr hcat _).trans hs) (fun j hj => ?_) (retained := d.retained - 1) ?_
    · unfold Body.Waits at hj
      rw [Body.releaseBuffer_buffer] at hj
      split_ifs at hj with hji
      · cases hj.1
      · exact hji (h.parts.alone j i _ hj hwait)
    · rw [Body.setDoc_catalog_congr hcat]
      rfl

/-- The unplaced slots of a list of a PURGING document are released one after another. -/
theorem StoreHeld.releaseSlots (h : StoreHeld txn b) (hc : ChargesHeld txn b) (hd : b.doc n = some d) (hst : d.state = .purging)
    {q : List (Nat × Nat × LeafSlot)} (hn : (q.map slotPlace).Nodup) (hq : ∀ s ∈ q, s ∈ d.leafSlots ∧ s.2.2 = .unplaced) :
    StoreHeld txn (b.releaseSlots n q) := by
  induction q generalizing b d with
  | nil => exact h
  | cons s q ih =>
    obtain ⟨x, y, v⟩ := s
    rw [List.map_cons] at hn
    obtain ⟨hs, hnq⟩ := List.nodup_cons.mp hn
    obtain ⟨hmem, hv⟩ := hq _ List.mem_cons_self
    dsimp only at hv
    subst hv
    rw [Body.releaseSlots_cons]
    have hdoc : (b.releaseSlot n x y).doc n =
        some { d.setLeafSlot x y .released with retained := d.retained - 1 } := by
      unfold Body.doc
      rw [Body.releaseSlot_slot hd, if_pos rfl]
    refine ih (h.releaseSlot hc.calls hd hst ((Body.mem_leafSlots hd).mp hmem)) (hc.releaseSlot hd hst hmem nofun) hdoc hst hnq
      fun t ht => ?_
    obtain ⟨htm, htv⟩ := hq t (List.mem_cons_of_mem _ ht)
    exact ⟨Document.mem_leafSlots_release (Document.page_pos_of_mem hmem) htm
      fun he => hs (List.mem_map.mpr ⟨t, ht, he⟩), htv⟩

/-- A PURGING document whose slots are all released is freed (R14). -/
theorem StoreHeld.freeSlot (h : StoreHeld txn b) (hc : OpenCalls txn b) (hd : b.doc n = some d) (hst : d.state = .purging)
    (hrel : d.cursor.isNone = true) : StoreHeld txn (b.freeSlot n) := by
  refine ⟨h.parts.congr h.parts.canonical (fun _ => rfl) (fun _ => rfl) (fun q v hv => ?_) fun _ => ⟨rfl, rfl⟩,
    h.lists.congr (fun _ => rfl) (fun _ => rfl) (fun _ => rfl) rfl rfl fun _ => rfl,
    h.tails.purging hc hd hst (fun m hm => by rw [Body.freeSlot_doc, if_neg hm]) rfl fun j hj => ⟨hj, rfl⟩⟩
  rw [Body.freeSlot_slotAt]
  split_ifs with hq
  · refine ⟨nofun, fun hs => absurd ?_ hv⟩
    obtain ⟨m, x, y⟩ := q
    dsimp only at hq
    subst hq
    have hmem := (Body.mem_leafSlots hd).mpr hs
    unfold Document.cursor at hrel
    have := List.find?_eq_none.mp (Option.isNone_iff_eq_none.mp hrel) _ hmem
    simpa using this
  · exact .rfl

/-- The cursor of a PURGING document moves on (R95). -/
theorem StoreHeld.advancePurge (h : StoreHeld txn b) (hc : ChargesHeld txn b) (hd : b.doc n = some d) (hst : d.state = .purging) :
    StoreHeld txn (b.advancePurge n) := by
  have hmem : ∀ s ∈ d.unplacedAtCursor, s ∈ d.leafSlots ∧ s.2.2 = .unplaced := fun s hs => by
    obtain ⟨hp, hu⟩ := Document.mem_unplacedAtCursor.mp hs
    exact ⟨Document.mem_of_passed hp, hu⟩
  have hset := h.releaseSlots hc hd hst d.unplacedAtCursor_nodup hmem
  have hcset := hc.releaseSlots hd hst d.unplacedAtCursor_nodup fun s hs =>
    ⟨(hmem s hs).1, by rw [(hmem s hs).2]; nofun⟩
  have hdoc : (b.releaseSlots n d.unplacedAtCursor).doc n = some (d.releasing d.unplacedAtCursor) := by
    unfold Body.doc
    rw [Body.releaseSlots_slot hd, if_pos rfl]
  rw [Body.advancePurge_eq hd]
  split_ifs with hcur
  · exact hset.freeSlot hcset.calls hdoc (by rw [Document.releasing_eq]; exact hst) hcur
  · exact hset

/-- The purge of a RETAINED document starts (R150). -/
theorem StoreHeld.startPurge (h : StoreHeld txn b) (hc : ChargesHeld txn b) (hd : b.doc n = some d) (hst : d.state = .retained) :
    StoreHeld txn (b.startPurge n) := by
  have hslot : ∀ q, (b.purgeListed n d).slotAt q = b.slotAt q := fun q =>
    (Body.slotAt_congr (b := b.setDoc n { d with state := .purging }) rfl q).trans
      (Body.setDoc_slotAt_same (f := { d with state := .purging }) hd rfl q)
  have hlisted : StoreHeld txn (b.purgeListed n d) := by
    refine h.still hc.calls rfl rfl rfl rfl rfl (fun _ => ⟨rfl, rfl, rfl⟩) (fun q v _ => by rw [hslot])
      fun k m e _ he hrec _ => ⟨e, ?_, rfl⟩
    rw [Body.purgeListed_doc, if_neg fun hm => ?_]
    · exact he
    · rw [hm, hd] at he
      cases he
      rw [hst] at hrec
      cases hrec
  rw [Body.startPurge_listed hd]
  exact hlisted.advancePurge (hc.purgeListed hd hst) (by rw [Body.purgeListed_doc, if_pos rfl]) rfl

end

end Sys2Proof.Machine
end

section
/-! The operations of the banks keep the store where they start (R72, R90, R93 to R97). -/

namespace Sys2Proof.Machine

section
variable {txn : Transaction} {b c : Body} {n k i l page index : Nat} {d f : Document} {p : Place}

theorem Body.startProgram_leaf (b : Body) (k i l m : Nat) : (b.startProgram k i l).leaf m =
    if m = l then { b.leaf l with state := .programming } else b.leaf m :=
  Body.setLeaf_leaf b l { b.leaf l with state := .programming } m

theorem Body.startProgram_buffer (b : Body) (k i l j : Nat) : (b.startProgram k i l).buffer j =
    if j = i then { b.buffer i with state := .programming } else b.buffer j :=
  Body.setBuffer_buffer b i { b.buffer i with state := .programming } j

theorem Body.startProgram_wf (hw : Table.wf Leaf.blank b.leaves) (k i l : Nat) :
    Table.wf Leaf.blank (b.startProgram k i l).leaves :=
  Table.wf_write l ({ b.leaf l with state := .programming } : Leaf) hw

theorem Body.replaced_leaf (b : Body) (k i l : Nat) (p : Place) (d : Document) (m : Nat) : (b.replaced k i l p d).leaf m =
    if m = l then ⟨.blank, some p, some i⟩ else b.leaf m :=
  Body.setLeaf_leaf (b.popBlank k) l ⟨.blank, some p, some i⟩ m

theorem Body.replaced_buffer (b : Body) (k i l : Nat) (p : Place) (d : Document) (j : Nat) :
    (b.replaced k i l p d).buffer j = if j = i then { b.buffer i with leaf := some l } else b.buffer j :=
  Body.setBuffer_buffer b i { b.buffer i with leaf := some l } j

theorem Body.popBlank_bank (b : Body) (k j : Nat) : (b.popBlank k).bank j =
    if j = k then { b.bank k with blank := (b.bank k).blank.tail } else b.bank j :=
  Body.setBank_bank ..

theorem Body.replaced_bank (b : Body) (k i l : Nat) (p : Place) (d : Document) (j : Nat) : (b.replaced k i l p d).bank j =
    if j = k then { b.bank k with blank := (b.bank k).blank.tail } else b.bank j := b.popBlank_bank k j

/-- The program of a placed leaf starts (R72, R90). -/
theorem StoreHeld.startProgram (h : StoreHeld txn b) (hc : OpenCalls txn b) (hst : (b.buffer i).state = .ready)
    (hl : (b.buffer i).leaf = some l) (hk : l % 4 = k) (hop : (b.bank k).op = .none) :
    StoreHeld txn (b.startProgram k i l) := by
  have hbehind : (b.buffer i).state.leafState = some .ready := by rw [hst]; rfl
  obtain ⟨p, hp, hbl, _⟩ := h.parts.behind hbehind hl
  have hleaf : ∀ m, (b.startProgram k i l).leaf m = if m = l then ⟨.programming, some p, some i⟩ else b.leaf m := fun m => by
    rw [Body.startProgram_leaf, hbl]
  have hbuf : ∀ j, (b.startProgram k i l).buffer j =
      if j = i then { b.buffer i with state := .programming } else b.buffer j :=
    b.startProgram_buffer k i l
  have hbank := fun j => Body.startProgram_bank (b := b) (k := k) i l j
  have hself := hbank k
  rw [if_pos rfl] at hself
  have ht : Touches b (b.startProgram k i l) (some l) (some i) none :=
    ⟨Body.startProgram_wf h.parts.canonical k i l, fun m hm => by rw [hleaf, if_neg (ne_of_some hm)],
      fun j hj => by rw [hbuf, if_neg (ne_of_some hj)], fun _ _ _ _ => .rfl⟩
  refine ⟨h.parts.advance hbehind hl hp (new := .programming) (v := { b.buffer i with state := .programming }) rfl rfl
      ht.canonical hleaf hbuf (fun _ _ _ => .rfl)
      (h.parts.turn ht hk (fun j hj => by rw [hbank, if_neg hj]) (fun j => ?_) (.inl hop) (.inr (.inl ⟨i, _, by rw [hself]⟩)) ?_
        (fun j g hg => ?_) ?_),
    ?_, h.tails.sameQueues hc (.of_eq rfl) (fun _ _ d _ hd _ _ => ⟨d, hd, rfl⟩) (fun _ => rfl) fun j hj => ?_⟩
  · rw [hbank]
    split_ifs with hj
    · rw [hj]
    · rfl
  · rw [hleaf, if_pos rfl, hself]; exact (if_pos rfl).symm
  · rw [hself] at hg; cases hg; rw [hleaf, if_pos rfl]
  · rintro _ ⟨⟩
    rw [hbuf, if_pos rfl, hst]
    exact ⟨nofun, nofun⟩
  · have hset : (b.programming i l).ListsFit :=
      (h.lists.setLeaf _ (by simp [hbl]) (by simp [hbl])).setBuffer _ (by simp [hst]) (by simp [hst]) rfl
    exact hset.setBank _ rfl rfl
  · rw [hbuf, if_neg fun he : j = i => ?_]
    · exact ⟨hj, rfl⟩
    · rw [he, hst] at hj; cases hj

/-- The program of a replacement starts (R93). -/
theorem StoreHeld.startReplace (h : StoreHeld txn b) (hc : OpenCalls txn b) (hst : (b.buffer i).state = .ready)
    (hl : (b.buffer i).leaf = none) (hk : k < 4) (hop : (b.bank k).op = .none) : StoreHeld txn (b.startReplace k i) := by
  rcases Body.startReplace_cases (b := b) (k := k) i with ⟨_, he⟩ | ⟨l, rest, p, hblank, hp, _⟩
  · rw [he]; exact h
  have hwait : b.Waits i p := ⟨hp, hl⟩
  obtain ⟨_, hslot⟩ := (h.parts.buffer i).waits hwait
  obtain ⟨d, hd, _⟩ := Body.slotAt_some hslot
  have hhead : (b.bank k).blank.head? = some l := by rw [hblank]; rfl
  obtain ⟨hbound, hlk, hlst⟩ := ((h.lists.blank k hk).2 l).mp (List.mem_of_mem_head? hhead)
  have hpage := Body.slotAt_page hslot
  rw [Body.startReplace_eq hblank hp hd]
  have hcat : ((b.replaced k i l p d).startProgram k i l).catalog =
      (b.setDoc p.slot (d.updLeafSlot p.page p.index (LeafSlot.filled l))).catalog := by rw [Document.filledAt_eq]; rfl
  have hleaf : ∀ m, ((b.replaced k i l p d).startProgram k i l).leaf m =
      if m = l then ⟨.programming, some p, some i⟩ else b.leaf m := fun m => by
    rw [Body.startProgram_leaf, Body.replaced_leaf, Body.replaced_leaf, if_pos rfl]
    split_ifs <;> rfl
  have hbuf : ∀ j, ((b.replaced k i l p d).startProgram k i l).buffer j =
      if j = i then { b.buffer i with state := .programming, leaf := some l } else b.buffer j := fun j => by
    rw [Body.startProgram_buffer, Body.replaced_buffer, Body.replaced_buffer, if_pos rfl]
    split_ifs <;> rfl
  have hbank : ∃ g, ∀ j, ((b.replaced k i l p d).startProgram k i l).bank j =
      if j = k then { b.bank k with blank := (b.bank k).blank.tail, op := .program i l g } else b.bank j := by
    refine ⟨((b.replaced k i l p d).programming i l).headerFor i, fun j => (Body.startProgram_bank i l j).trans ?_⟩
    rw [Body.replaced_bank, Body.replaced_bank, if_pos rfl]
    split_ifs <;> rfl
  have hwf : Table.wf Leaf.blank ((b.replaced k i l p d).startProgram k i l).leaves :=
    Body.startProgram_wf (Table.wf_write l ⟨.blank, some p, some i⟩ h.parts.canonical) k i l
  have hses : ((b.replaced k i l p d).startProgram k i l).sessions = b.sessions := rfl
  have hready : ((b.replaced k i l p d).startProgram k i l).ready = b.ready := rfl
  have hwin : ((b.replaced k i l p d).startProgram k i l).windows = b.windows := rfl
  generalize (b.replaced k i l p d).startProgram k i l = c at hcat hleaf hbuf hbank hwf hses hready hwin
  obtain ⟨g, hbank⟩ := hbank
  have hslots : ∀ q, c.slotAt q = if q = p then some (.placed l) else b.slotAt q := fun q => by
    rw [Body.slotAt_congr hcat, Body.updLeafSlot_slotAt hd hpage]
    split_ifs with hq
    · rw [hq, hslot]; rfl
    · rfl
  have hlists : c.ListsFit := by
    have hpop := h.lists.popLeaf (v := ⟨.programming, some p, some i⟩) hk hhead nofun nofun
    have hbi : (((b.popBlank k).setLeaf l ⟨.programming, some p, some i⟩).buffer i).state = .ready := hst
    have hset := hpop.setBuffer (i := i) { b.buffer i with state := .programming, leaf := some l }
      (by rw [hbi]; simp) (by rw [hbi]; simp) rfl
    have hstart := hset.setOp (k := k) (.program i l g)
    refine hstart.congr (fun m => (hleaf m).trans (Body.setLeaf_leaf (b.popBlank k) l ⟨.programming, some p, some i⟩ m).symm)
      (fun j => (hbuf j).trans (Body.setBuffer_buffer b i _ j).symm) (fun j => ?_) hready hwin fun j => ?_
    · refine (hbank j).trans (Eq.symm ((Body.setOp_bank ..).trans ?_))
      have hfirst := b.popBlank_bank k j
      split_ifs with hj
      · rw [if_pos hj] at hfirst
        exact congrArg (fun v : Bank => { v with op := .program i l g }) hfirst
      · rw [if_neg hj] at hfirst
        exact hfirst
    · exact Body.session_congr hses j
  refine ⟨h.parts.replace (g := g) hst hwait hbound hlst hlk hop hwf hleaf hbuf hslots fun j => ?_, hlists,
    h.tails.sameQueues hc (.of_eq hses) (fun _ m e _ hm _ _ => ?_) (fun j => by rw [Body.session_congr hses]) fun j hj => ?_⟩
  · rw [hbank]
    split_ifs with hj
    · rw [hj]; exact ⟨rfl, rfl⟩
    · exact ⟨rfl, rfl⟩
  · rw [Body.doc_congr hcat, Body.setDoc_doc]
    split_ifs with hmp
    · rw [hmp, hd] at hm
      cases hm
      exact ⟨_, rfl, d.updLeafSlot_mask _ _ (LeafSlot.filled_released l)⟩
    · exact ⟨e, hm, rfl⟩
  · rw [hbuf, if_neg fun he : j = i => ?_]
    · exact ⟨hj, rfl⟩
    · rw [he, hst] at hj; cases hj

/-- The erase at the front of the queue starts (R97). -/
theorem StoreHeld.startErase (h : StoreHeld txn b) (hc : OpenCalls txn b) (hk : k < 4) {rest : List Nat}
    (hq : (b.bank k).eraseQueue = l :: rest) (hop : (b.bank k).op = .none) : StoreHeld txn (b.startErase k l) := by
  have hhead : (b.bank k).eraseQueue.head? = some l := by rw [hq]; rfl
  obtain ⟨hbound, hlk, hst⟩ := ((h.lists.erase k hk).2 l).mp (List.mem_of_mem_head? hhead)
  have hbank : ∀ j, (b.startErase k l).bank j =
      if j = k then { b.bank k with eraseQueue := (b.bank k).eraseQueue.tail, op := .erase l } else b.bank j := fun j =>
    Body.setBank_bank (b.setLeaf l ⟨.erasing, none, none⟩) k _ j
  have hself := hbank k
  rw [if_pos rfl] at hself
  refine ⟨h.parts.bareLeaf (by rw [hst]; rfl) hbound (new := .erasing) rfl hlk (Table.wf_write l (⟨.erasing, none, none⟩ : Leaf) h.parts.canonical)
      (fun m => Body.setLeaf_leaf b l ⟨.erasing, none, none⟩ m) (fun _ => rfl) (fun _ => rfl)
      (fun j hj => by rw [hbank, if_neg hj]) (fun j => ?_) (.inl hop) (.inr (.inr (.inr (by rw [hself])))) ?_ (fun j g hg => ?_),
    h.lists.startErase hk hhead,
    h.tails.sameQueues hc (.of_eq rfl) (fun _ _ d _ hd _ _ => ⟨d, hd, rfl⟩) (fun _ => rfl) fun _ hj => ⟨hj, rfl⟩⟩
  · rw [hbank]
    split_ifs with hj
    · rw [hj]
    · rfl
  · rw [hself]; exact (if_pos rfl).symm
  · rw [hself] at hg; cases hg

/-- The fetch at the front of the queue starts (R94). -/
theorem StoreHeld.startFetch (h : StoreHeld txn b) (hc : OpenCalls txn b) {rest : List Nat}
    (hq : (b.bank k).fetchQueue = i :: rest) (hop : (b.bank k).op = .none) : StoreHeld txn (b.startFetch k i) :=
  ⟨h.parts.startFetch hq hop, h.lists.setBank _ rfl rfl,
    h.tails.sameQueues hc (.of_eq rfl) (fun _ _ d _ hd _ _ => ⟨d, hd, rfl⟩) (fun _ => rfl) fun _ hj => ⟨hj, rfl⟩⟩

/-- The void mark of the leaf at a PURGING document's cursor has started, before its window goes (R95). -/
theorem StoreHeld.unslotted (h : StoreHeld txn b) (hc : OpenCalls txn b) (hd : b.doc n = some d) (hst : d.state = .purging)
    (hs : b.slotAt ⟨n, page, index⟩ = some (.placed l)) (hl : (b.leaf l).state = .programmed) (hk : l % 4 = k)
    (hop : (b.bank k).op = .none) : StoreHeld txn (b.unslotted k n page index l) := by
  have hshape : b.unslotted k n page index l = ((b.setLeaf l ⟨.voiding, none, none⟩).setOp k (.voidMark l)).setDoc n
      { d.setLeafSlot page index .released with retained := d.retained - 1 } := by
    unfold Body.unslotted
    exact Body.updDoc_eq _ hd
  have hslot : ∀ q, (b.unslotted k n page index l).slotAt q =
      if q = ⟨n, page, index⟩ then some .released else b.slotAt q := fun q => by
    rw [hshape]
    exact Body.setLeafSlot_slotAt (b := (b.setLeaf l ⟨.voiding, none, none⟩).setOp k (.voidMark l)) hd (Body.slotAt_page hs)
      (fun hn => by cases hs.symm.trans hn) q
  have hlists := (h.lists.setLeaf (l := l) ⟨.voiding, none, none⟩ (by simp [hl]) (by simp [hl])).setOp (k := k) (.voidMark l)
  refine ⟨h.parts.mark hl hs hk hop ?_ (fun m => ?_) (fun j => ?_) hslot (fun j => ?_),
    hlists.congr (fun m => ?_) (fun j => ?_) (fun j => ?_) ?_ ?_ fun j => ?_,
    h.tails.purging hc hd hst (fun m hm => ?_) ?_ fun j hj => ?_⟩
  all_goals rw [hshape]
  · exact Table.wf_write l (⟨.voiding, none, none⟩ : Leaf) h.parts.canonical
  · exact Body.setLeaf_leaf b l ⟨.voiding, none, none⟩ m
  · rfl
  · exact Body.setOp_bank (b.setLeaf l ⟨.voiding, none, none⟩) k (.voidMark l) j
  all_goals try rfl
  · exact (Body.setDoc_doc ..).trans (if_neg hm)
  · exact ⟨hj, rfl⟩

theorem StoreHeld.startVoidMark (h : StoreHeld txn b) (hc : ChargesHeld txn b) (hd : b.doc n = some d) (hst : d.state = .purging)
    (hs : (page, index, LeafSlot.placed l) ∈ d.leafSlots) (hl : (b.leaf l).state = .programmed) (hk : l % 4 = k)
    (hop : (b.bank k).op = .none) : StoreHeld txn (b.startVoidMark k n page index l) := by
  have hslot := (Body.mem_leafSlots hd).mp hs
  have hnowait : b.waitingBuffer ⟨n, page, index⟩ = none := by
    cases hw : b.waitingBuffer ⟨n, page, index⟩ with
    | none => rfl
    | some i =>
      obtain ⟨_, hp, hleaf⟩ := Body.waitingBuffer_some hw
      rw [((h.parts.buffer i).waits ⟨hp, hleaf⟩).2] at hslot
      cases hslot
  have hmark : ChargesHeld txn ((b.setLeaf l ⟨.voiding, none, none⟩).setOp k (.voidMark l)) :=
    hc.still rfl rfl rfl (.of_eq rfl)
  have hcharges : ChargesHeld txn (b.marked k n page index l) := (hmark.releaseSlot hd hst hs nofun).dropWindow l
  have hdoc : (b.marked k n page index l).doc n =
      some { d.setLeafSlot page index .released with retained := d.retained - 1 } := by
    unfold Body.doc
    rw [Body.marked_slot hd, if_pos rfl]
  have hun : ChargesHeld txn (b.unslotted k n page index l) := by
    have hrel := hmark.releaseSlot hd hst hs nofun
    have hw : ((b.setLeaf l ⟨.voiding, none, none⟩).setOp k (.voidMark l)).waitingBuffer ⟨n, page, index⟩ = none := hnowait
    unfold Body.releaseSlot at hrel
    dsimp only at hrel
    rw [hw] at hrel
    exact hrel
  have hmarked : StoreHeld txn (b.marked k n page index l) := by
    rw [Body.marked_eq hnowait]
    exact (h.unslotted hc.calls hd hst hslot hl hk hop).dropWindow hun.calls l
  rw [Body.startVoidMark_eq]
  exact hmarked.advancePurge hcharges hdoc hst

/-- What a bank has chosen starts (R88). -/
theorem StoreHeld.startWork (h : StoreHeld txn b) (hc : ChargesHeld txn b) {part : PartState} {floor : Nat} {w : Work}
    (hk : k < 4) (hop : (b.bank k).op = .none) (hw : b.choose part floor k = some w) : StoreHeld txn (b.startWork k w) := by
  rcases Body.choose_source hw with ⟨i, _, hready, hsource⟩ | ⟨_, ⟨l, rest, hq, rfl⟩ | ⟨i, rest, hq, rfl⟩ |
    ⟨n, hn, d, p, x, l, hd, hcur, hl, hlk, rfl⟩⟩
  · rcases hsource with ⟨l, hl, hlk, rfl⟩ | ⟨hl, ha, rfl⟩
    · exact h.startProgram hc.calls hready hl hlk hop
    · exact h.startReplace hc.calls hready hl hk hop
  · exact h.startErase hc.calls hk hq hop
  · exact h.startFetch hc.calls hq hop
  · obtain ⟨e, he, hst⟩ := hc.charges.purges n hn
    rw [hd] at he
    cases he
    exact h.startVoidMark hc hd hst (List.mem_of_find?_eq_some hcur) hl hlk hop

end

end Sys2Proof.Machine
end

section
/-! The operations of the banks keep the store where they end (R76, R91, R92, R96, R97). -/

namespace Sys2Proof.Machine

section
variable {txn : Transaction} {b c : Body} {n k i l : Nat} {d f : Document} {p : Place}

/-- The leaf and the buffer of a program under way. -/
theorem StoreHeld.programs (h : StoreHeld txn b) (hk : k < 4) {g : List Word} (hop : (b.bank k).op = .program i l g) :
    l % 4 = k ∧ (b.buffer i).state = .programming ∧ (b.buffer i).leaf = some l ∧
      ∃ p, (b.buffer i).place = some p ∧ b.leaf l = ⟨.programming, some p, some i⟩ ∧ b.slotAt p = some (.placed l) := by
  have hb := h.parts.bank k hk
  obtain ⟨hlk, hbusy⟩ := hb.op_state (BankOp.leafState_program.mpr ⟨i, g, hop⟩)
  have hst := (LeafState.busy_eq_iff (.inl rfl)).mp hbusy
  obtain ⟨hl, hbst⟩ := h.parts.known l i (hb.programBuffer i l g hop)
  rw [hst] at hbst
  obtain ⟨p, hp, hbl, hslot, _⟩ := h.parts.behind hbst hl
  refine ⟨hlk, ?_, hl, p, hp, hbl, hslot⟩
  cases hs : (b.buffer i).state <;> rw [hs] at hbst <;> cases hbst

/-- A program completes (R72, R91). -/
theorem StoreHeld.programDone (h : StoreHeld txn b) (hc : OpenCalls txn b) (hk : k < 4) {g : List Word}
    (hop : (b.bank k).op = .program i l g) : StoreHeld txn (b.programDone k i l) := by
  obtain ⟨hlk, hst, hl, p, hp, hbl, hslot⟩ := h.programs hk hop
  have hlists : (b.programDone k i l).ListsFit :=
    ((h.lists.setOp (k := k) .none).setLeaf (l := l) { b.leaf l with state := .programmed, buffer := none }
      (by rw [show ((b.setOp k .none).leaf l).state = .programming from congrArg Leaf.state hbl]; simp)
      (by rw [show ((b.setOp k .none).leaf l).state = .programming from congrArg Leaf.state hbl]; simp)).releaseBuffer i
  have hleaf : ∀ m, (b.programDone k i l).leaf m = if m = l then ⟨.programmed, some p, none⟩ else b.leaf m := fun m => by
    have hset := Body.setLeaf_leaf (b.setOp k .none) l { b.leaf l with state := .programmed, buffer := none } m
    rw [hbl] at hset
    exact (Body.leaf_congr (Body.releaseBuffer_leaves ..) m).trans ((congrArg (fun v : Leaf =>
      ((b.setOp k .none).setLeaf l { v with state := .programmed, buffer := none }).leaf m) hbl).trans hset)
  have hbuf : ∀ j, (b.programDone k i l).buffer j = if j = i then Buffer.free else b.buffer j := fun j =>
    Body.releaseBuffer_buffer ((b.setOp k .none).setLeaf l { b.leaf l with state := .programmed, buffer := none }) i j
  have hbank : ∀ j, (b.programDone k i l).bank j = if j = k then { b.bank j with op := .none } else b.bank j := fun j =>
    (Body.bank_congr (Body.releaseBuffer_banks ..) j).trans (Body.setOp_bank b k .none j)
  have hcat : (b.programDone k i l).catalog = b.catalog := Body.releaseBuffer_catalog ..
  have hself := hbank k
  rw [if_pos rfl] at hself
  have ht : Touches b (b.programDone k i l) (some l) (some i) (some p) := by
    refine ⟨?_, fun m hm => by rw [hleaf, if_neg (ne_of_some hm)], fun j hj => by rw [hbuf, if_neg (ne_of_some hj)],
      fun q _ v _ => by rw [Body.slotAt_congr hcat]⟩
    rw [show (b.programDone k i l).leaves = _ from Body.releaseBuffer_leaves ..]
    exact Table.wf_write l ({ b.leaf l with state := .programmed, buffer := none } : Leaf) h.parts.canonical
  refine ⟨h.parts.part (st := .programming) (by rw [hst]; rfl) hl hp ht.canonical hleaf hbuf
      (fun q _ v _ => by rw [Body.slotAt_congr hcat]) (.inr ⟨rfl, by rw [Body.slotAt_congr hcat]; exact hslot⟩)
      (h.parts.turn ht hlk (fun j hj => by rw [hbank, if_neg hj]) (fun j => ?_) (.inr (.inl ⟨i, g, hop⟩)) (.inl (by rw [hself]))
        ?_ (fun j g' hg => ?_) ?_), hlists,
    h.tails.transport hc (.releaseBuffer ((b.setOp k .none).setLeaf l { b.leaf l with state := .programmed, buffer := none }) i)
      (fun _ n d _ hd _ _ => ⟨d, (Body.doc_congr hcat n).trans hd, rfl⟩)
      (keep := fun k j => ¬ (j = i ∧ (b.buffer j).holder = some (.session k))) (fun j => ?_) (fun j x hx => ?_) fun j hj => ?_⟩
  · rw [hbank]; split_ifs <;> rfl
  · rw [hleaf, if_pos rfl, hself]; rfl
  · rw [hself] at hg; cases hg
  · rintro _ ⟨⟩
    rw [hbuf, if_pos rfl, hst]
    exact ⟨nofun, nofun⟩
  · exact congrArg Session.queue (Body.releaseBuffer_session
      ((b.setOp k .none).setLeaf l { b.leaf l with state := .programmed, buffer := none }) i j)
  · exact decide_eq_true fun he => by rw [he.1, hst] at hx; cases hx
  · rw [hbuf, if_neg fun he : j = i => ?_]
    · exact ⟨hj, rfl⟩
    · rw [he, hst] at hj; cases hj

/-- A program fails, before a purge's cursor moves past the slot it leaves (R73, R92). -/
theorem StoreHeld.programUnplaced (h : StoreHeld txn b) (hc : OpenCalls txn b) (hk : k < 4) {g : List Word}
    (hop : (b.bank k).op = .program i l g) (hp : (b.buffer i).place = some p) (hd : b.doc p.slot = some d) :
    StoreHeld txn (b.programUnplaced k i l p d) := by
  obtain ⟨hlk, hst, hl, q, hq, hbl, hslot⟩ := h.programs hk hop
  rw [hp] at hq
  cases hq
  have hpage := Body.slotAt_page hslot
  have hbank : ∀ j, (b.programUnplaced k i l p d).bank j = if j = k then { b.bank j with op := .none } else b.bank j :=
    Body.setOp_bank b k .none
  have hbuf : ∀ j, (b.programUnplaced k i l p d).buffer j =
      if j = i then { b.buffer i with state := .ready, leaf := none } else b.buffer j := fun j =>
    Body.setBuffer_buffer ((b.setOp k .none).setLeaf l ⟨.retired, none, none⟩) i { b.buffer i with state := .ready, leaf := none } j
  have hslots : ∀ q, (b.programUnplaced k i l p d).slotAt q = if q = p then some .unplaced else b.slotAt q := fun q => by
    have hshape : (b.programUnplaced k i l p d).slotAt q = (b.setDoc p.slot (d.updLeafSlot p.page p.index LeafSlot.lost)).slotAt q := by
      rw [Document.unplacedAt_eq]
      exact Body.slotAt_congr (Body.setDoc_catalog_congr rfl _ _) q
    rw [hshape, Body.updLeafSlot_slotAt hd hpage]
    split_ifs with hq
    · rw [hq, hslot]; rfl
    · rfl
  have hlists : (b.programMissed k i l).ListsFit := by
    have hleaf := (h.lists.setOp (k := k) .none).setLeaf (l := l) ⟨.retired, none, none⟩
      (by rw [show ((b.setOp k .none).leaf l).state = .programming from congrArg Leaf.state hbl]; simp)
      (by rw [show ((b.setOp k .none).leaf l).state = .programming from congrArg Leaf.state hbl]; simp)
    have hbi : (((b.setOp k .none).setLeaf l ⟨.retired, none, none⟩).buffer i).state = .programming := hst
    exact hleaf.setBuffer (i := i) _ (by rw [hbi]; simp) (by rw [hbi]; simp) rfl
  refine ⟨h.parts.lose hst hl hp hlk hop (Table.wf_write l (⟨.retired, none, none⟩ : Leaf) h.parts.canonical)
      (fun m => Body.setLeaf_leaf (b.setOp k .none) l ⟨.retired, none, none⟩ m) hbuf hslots hbank,
    hlists.congr (fun _ => rfl) (fun _ => rfl) (fun _ => rfl) rfl rfl fun _ => rfl,
    h.tails.sameQueues hc (.of_eq rfl) (fun _ m e _ hm _ _ => ?_) (fun _ => rfl) fun j hj => ?_⟩
  · rw [show (b.programUnplaced k i l p d).doc m = if m = p.slot then some (d.unplacedAt p) else b.doc m from
      Body.setDoc_doc (b.programMissed k i l) ..]
    split_ifs with hmp
    · rw [hmp, hd] at hm
      cases hm
      exact ⟨_, rfl, by rw [← Document.unplacedAt_eq]; exact d.updLeafSlot_mask _ _ LeafSlot.lost_released⟩
    · exact ⟨e, hm, rfl⟩
  · rw [hbuf, if_neg fun he : j = i => ?_]
    · exact ⟨hj, rfl⟩
    · rw [he, hst] at hj; cases hj

/-- A program fails (R92). -/
theorem StoreHeld.programLost (h : StoreHeld txn b) (hc : ChargesHeld txn b) (hk : k < 4) {g : List Word}
    (hop : (b.bank k).op = .program i l g) : StoreHeld txn (b.programLost k i l) := by
  obtain ⟨_, _, _, p, hp, _, hslot⟩ := h.programs hk hop
  obtain ⟨d, hd, _⟩ := Body.slotAt_some hslot
  have hheld := h.programUnplaced hc.calls hk hop hp hd
  rw [Body.programLost_eq hp hd]
  split_ifs with hst
  · have hcharges : ChargesHeld txn (b.programUnplaced k i l p d) := by
      have hmiss : ChargesHeld txn (b.programMissed k i l) := hc.still rfl rfl rfl (.of_eq rfl)
      have := hmiss.updSlot p.slot p.page p.index LeafSlot.lost_released
      rwa [Body.updDoc_eq (b := b.programMissed k i l) (d := d) _ hd, Document.unplacedAt_eq] at this
    exact hheld.advancePurge hcharges ((Body.setDoc_doc ..).trans (if_pos rfl)) hst
  · exact hheld

/-- A fetch completes (R76, R94). -/
theorem StoreHeld.fetchDone (h : StoreHeld txn b) (hc : OpenCalls txn b) (hk : k < 4) (hop : (b.bank k).op = .fetch i)
    (f : Flash) : StoreHeld txn (b.fetchDone f k i) := by
  obtain ⟨hst, l, hl, _⟩ := ((h.parts.bank k hk).fetches.2.2 i).mp (.inr hop)
  obtain ⟨_, hplace, hhold, _⟩ := (h.parts.buffer i).windowed (.inl hst)
  have hset := h.lists.setOp (k := k) .none
  cases hdis : (b.buffer i).discard with
  | true =>
    rw [Body.fetchDone_discards hdis]
    have hbuf := Body.releaseBuffer_buffer (b.setOp k .none) i
    have hcat : ((b.setOp k .none).releaseBuffer i).catalog = b.catalog := Body.releaseBuffer_catalog ..
    refine ⟨h.parts.endFetch hk hop (Body.releaseBuffer_leaves ..) (.inl rfl) hbuf (Body.slotAt_congr hcat) (fun j => ?_),
      hset.releaseBuffer i, h.tails.transport hc (.releaseBuffer (b.setOp k .none) i)
        (fun _ n d _ hd _ _ => ⟨d, (Body.doc_congr hcat n).trans hd, rfl⟩)
        (keep := fun k j => ¬ (j = i ∧ (b.buffer j).holder = some (.session k))) (fun j => ?_) (fun j x hx => ?_) fun j hj => ?_⟩
    · exact (Body.bank_congr (Body.releaseBuffer_banks ..) j).trans (Body.setOp_bank b k .none j)
    · exact congrArg Session.queue (Body.releaseBuffer_session (b.setOp k .none) i j)
    · exact decide_eq_true fun he => by rw [he.1, hst] at hx; cases hx
    · rw [hbuf, if_neg fun he : j = i => ?_]
      · exact ⟨hj, rfl⟩
      · rw [he, hst] at hj; cases hj
  | false =>
    rw [Body.fetchDone_window hdis hl]
    have hbuf : ∀ j, ((b.setOp k .none).setBuffer i { b.buffer i with state := .window, data := f.fetched l }).buffer j =
        if j = i then { b.buffer i with state := .window, data := f.fetched l } else b.buffer j := fun j =>
      Body.setBuffer_buffer ..
    have hbi : ((b.setOp k .none).buffer i).state = .fetching := hst
    refine ⟨h.parts.endFetch (v := { b.buffer i with state := .window, data := f.fetched l }) hk hop rfl
        (.inr ⟨rfl, rfl, rfl, rfl, hdis⟩) hbuf (fun _ => rfl) fun j => Body.setOp_bank b k .none j,
      hset.setBuffer (i := i) _ (by rw [hbi]; simp) (by rw [hbi]; simp) rfl,
      h.tails.sameQueues hc (.of_eq rfl) (fun _ _ d _ hd _ _ => ⟨d, hd, rfl⟩) (fun _ => rfl) fun j hj => ?_⟩
    rw [hbuf, if_neg fun he : j = i => ?_]
    · exact ⟨hj, rfl⟩
    · rw [he, hst] at hj; cases hj

/-! ### Void marks and erases -/

/-- A void mark or an erase under way ends, and its leaf is bare in another state. -/
theorem StoreHeld.endBare (h : StoreHeld txn b) (hc : OpenCalls txn b) (hk : k < 4)
    (hop : (b.bank k).op = .voidMark l ∨ (b.bank k).op = .erase l) {new : LeafState} (hnew : new.bare = true)
    (hidle : new.busy = none) (hwf : Table.wf Leaf.blank c.leaves)
    (hleaf : ∀ m, c.leaf m = if m = l then ⟨new, none, none⟩ else b.leaf m) (hbuf : ∀ j, c.buffer j = b.buffer j)
    (hcat : c.catalog = b.catalog) (hses : c.sessions = b.sessions) (hother : ∀ j, j ≠ k → (c.bank j).op = (b.bank j).op)
    (hdone : (c.bank k).op = .none) (hq : ∀ j, (c.bank j).fetchQueue = (b.bank j).fetchQueue)
    (hlists : l < 65536 → (b.leaf l).state ≠ .blank → (b.leaf l).state ≠ .void → c.ListsFit) : StoreHeld txn c := by
  have hb := h.parts.bank k hk
  have hstate : l % 4 = k ∧ (b.leaf l).state.bare = true ∧ (b.leaf l).state ≠ .blank ∧ (b.leaf l).state ≠ .void := by
    rcases hop with hop | hop
    · obtain ⟨hlk, hbusy⟩ := hb.op_state (BankOp.leafState_voidMark.mpr hop)
      rw [(LeafState.busy_eq_iff (.inr (.inl rfl))).mp hbusy]
      exact ⟨hlk, rfl, nofun, nofun⟩
    · obtain ⟨hlk, hbusy⟩ := hb.op_state (BankOp.leafState_erase.mpr hop)
      rw [(LeafState.busy_eq_iff (.inr (.inr rfl))).mp hbusy]
      exact ⟨hlk, rfl, nofun, nofun⟩
  obtain ⟨hlk, hbare, hblank, hvoid⟩ := hstate
  have hbound : l < 65536 := by
    by_contra hl
    exact hblank (by rw [(h.parts.leaf l).bounded (by omega)]; rfl)
  refine ⟨h.parts.bareLeaf hbare hbound hnew hlk hwf hleaf hbuf (Body.slotAt_congr hcat) hother hq (.inr (.inr hop))
      (.inl hdone) (by rw [hdone]; exact hidle) (fun j g => by rw [hdone]; nofun), hlists hbound hblank hvoid,
    h.tails.sameQueues hc (.of_eq hses) (fun _ n d _ hd _ _ => ⟨d, (Body.doc_congr hcat n).trans hd, rfl⟩)
      (fun j => by rw [Body.session_congr hses]) fun j hj => by rw [hbuf]; exact ⟨hj, rfl⟩⟩

theorem StoreHeld.voidDone (h : StoreHeld txn b) (hc : OpenCalls txn b) (hk : k < 4) (hop : (b.bank k).op = .voidMark l) :
    StoreHeld txn ((b.setOp k .none).voidLeaf l) := by
  have hbank : ∀ j, ((b.setOp k .none).voidLeaf l).bank j = { (b.setOp k .none).bank j with
      eraseQueue := ((b.setOp k .none).bank j).eraseQueue ++ if j = l % 4 then [l] else [] } := Body.voidLeaf_bank _ l
  refine h.endBare hc hk (.inl hop) (new := .void) rfl rfl (Table.wf_write l (⟨.void, none, none⟩ : Leaf) h.parts.canonical)
    (fun m => Body.setLeaf_leaf (b.setOp k .none) l ⟨.void, none, none⟩ m) (fun _ => rfl) rfl rfl (fun j hj => ?_) ?_ (fun j => ?_)
    fun hl h1 h2 => (h.lists.setOp (k := k) .none).voidLeaf hl h1 h2
  all_goals rw [hbank, Body.setOp_bank]
  · rw [if_neg hj]
  · rw [if_pos rfl]
  · dsimp only; split_ifs <;> rfl

theorem StoreHeld.eraseDone (h : StoreHeld txn b) (hc : OpenCalls txn b) (hk : k < 4) (hop : (b.bank k).op = .erase l) :
    StoreHeld txn (b.eraseDone k l) := by
  have hbank : ∀ j, (b.eraseDone k l).bank j = { (b.setOp k .none).bank j with
      blank := ((b.setOp k .none).bank j).blank ++ if j = l % 4 then [l] else [] } :=
    Body.pushBlank_bank ((b.setOp k .none).setLeaf l Leaf.blank) l
  refine h.endBare hc hk (.inr hop) (new := .blank) rfl rfl (Table.wf_write l Leaf.blank h.parts.canonical)
    (fun m => Body.setLeaf_leaf (b.setOp k .none) l Leaf.blank m) (fun _ => rfl) rfl rfl (fun j hj => ?_) ?_ (fun j => ?_)
    fun hl h1 h2 => (h.lists.setOp (k := k) .none).blankLeaf hl h1 h2
  all_goals rw [hbank, Body.setOp_bank]
  · rw [if_neg hj]
  · rw [if_pos rfl]
  · dsimp only; split_ifs <;> rfl

theorem StoreHeld.eraseLost (h : StoreHeld txn b) (hc : OpenCalls txn b) (hk : k < 4) (hop : (b.bank k).op = .erase l) :
    StoreHeld txn (b.eraseLost k l) := by
  have hbank : ∀ j, (b.eraseLost k l).bank j = if j = k then { b.bank j with op := .none } else b.bank j :=
    Body.setOp_bank b k .none
  refine h.endBare hc hk (.inr hop) (new := .retired) rfl rfl (Table.wf_write l (⟨.retired, none, none⟩ : Leaf) h.parts.canonical)
    (fun m => Body.setLeaf_leaf (b.setOp k .none) l ⟨.retired, none, none⟩ m) (fun _ => rfl) rfl rfl (fun j hj => ?_) ?_ (fun j => ?_)
    fun hl h1 h2 => (h.lists.setOp (k := k) .none).setLeaf _ ⟨nofun, fun he => absurd he h1⟩ ⟨nofun, fun he => absurd he h2⟩
  all_goals rw [hbank]
  · rw [if_neg hj]
  · rw [if_pos rfl]
  · split_ifs <;> rfl

end

end Sys2Proof.Machine
end

section
/-! The law of the leaf store and the staging pool is kept by every change made while the part works, and by those that a
part at rest makes (R82, R97, R162, R163). -/

namespace Sys2Proof.Machine

section
variable {s t : State} {b c : Body} {f : Flash} {n k l : Nat}

/-! ### The law while the part works -/

theorem State.storeLawful.held (h : s.storeLawful) (hw : s.recovery.part.works = true) : StoreHeld s.txn s.body := by
  have hp := PartState.works_iff.mp hw
  obtain ⟨hpool, hbanks⟩ := h.working hp
  have hbelieved : s.body.leavesLawful := h.believed (hp.elim .inl fun hp => .inr (.inl hp))
  refine StoreHeld.of_lawful hbelieved hpool hbanks fun a ha hr => ?_
  obtain ⟨n, d, g, j, hdoc, hd, hg, hj, hst, hpl⟩ := h.rolled a ha hr
  exact ⟨n, d, g, j, hdoc, hd, hg, hj, hst, hpl⟩

theorem StoreHeld.storeLawful (h : StoreHeld t.txn t.body) (hw : t.recovery.part.works = true)
    (ha : ∀ l, 65536 ≤ l → t.flash.spareOf l = Spare.erased) : t.storeLawful := by
  obtain ⟨hl, hp, hb⟩ := h.lawful
  refine ⟨ha, fun _ => hl, fun _ => ⟨hp, hb⟩, fun hr => ?_, fun hr => absurd hr (PartState.not_rebuilding hw), fun a hat hr => ?_⟩
  · rcases hr with hr | hr | hr <;> rw [hr] at hw <;> cases hw
  · obtain ⟨n, d, g, j, hdoc, hd, hg, hj, hst, hpl⟩ := h.tails.rolled a hat hr
    exact ⟨n, d, g, j, hdoc, hd, hg, hj, hst, hpl⟩

/-! ### The law while the part is at rest -/

theorem PartState.rests {p : PartState} (h : p.works = false) : p = .off ∨ p = .starting ∨ p = .rebuilding := by
  cases p with
  | off => exact .inl rfl
  | starting => exact .inr (.inl rfl)
  | rebuilding => exact .inr (.inr rfl)
  | running => cases h
  | powerFail => cases h

theorem State.storeLawful.ofRest (hw : t.recovery.part.works = false) (hn : ∀ a, t.txn ≠ .appending a)
    (ha : ∀ l, 65536 ≤ l → t.flash.spareOf l = Spare.erased)
    (hl : t.recovery.part = .starting ∨ t.recovery.part = .off ∧ t.recovery.mark = true → t.body.leavesLawful)
    (hr : t.body.atRest) (hs : t.recovery.part = .rebuilding → t.body.scannedLawful t.flash t.recovery.scanned) :
    t.storeLawful := by
  have hidle : ∀ {p : PartState}, p.works = true → t.recovery.part ≠ p := fun hp he => by rw [he, hp] at hw; cases hw
  refine ⟨ha, fun hb => ?_, fun hb => ?_, fun _ => hr, hs, fun a hat => absurd hat (hn a)⟩
  · rcases hb with hb | hb | hb
    · exact absurd hb (hidle rfl)
    · exact absurd hb (hidle rfl)
    · exact hl hb
  · rcases hb with hb | hb <;> exact absurd hb (hidle rfl)

theorem State.storeLawful.atRest (h : s.storeLawful) (hw : s.recovery.part.works = false) : s.body.atRest :=
  h.resting (PartState.rests hw)

/-- A busy bank is one of a part that works. -/
theorem State.storeLawful.busy (h : s.storeLawful) (hk : k < 4) (hop : (s.body.bank k).op ≠ .none) :
    s.recovery.part.works = true := by
  by_contra hw
  exact hop ((h.atRest (by simpa using hw)).banks k hk).2

/-- A bank that chooses is one of a part that works. -/
theorem Body.choose_works {part : PartState} {floor : Nat} {w : Work} (h : b.choose part floor k = some w) :
    part.works = true := by
  cases part with
  | running => rfl
  | powerFail => rfl
  | off => cases h
  | starting => cases h
  | rebuilding => cases h

theorem Body.leavesLawful.congr (h : b.leavesLawful) (hl : c.leaves = b.leaves) (hc : c.catalog = b.catalog)
    (hb : ∀ k, k < 4 → (c.bank k).blank = (b.bank k).blank ∧ (c.bank k).eraseQueue = (b.bank k).eraseQueue) :
    c.leavesLawful := by
  have hleaf := Body.leaf_congr hl
  refine ⟨hl ▸ h.canonical, fun l => ?_, fun l => ?_, fun l => ?_, fun l p => ?_, fun k hk => ?_, fun k hk => ?_⟩
  · rw [hleaf]; exact h.bounded l
  · rw [hleaf]; exact h.owner l
  · rw [hleaf]; exact h.buffer l
  · rw [hleaf, Body.slotAt_congr hc]; exact h.placed l p
  · rw [(hb k hk).1]; simp only [hleaf]; exact h.blank k hk
  · rw [(hb k hk).2]; simp only [hleaf]; exact h.erase k hk

theorem Body.scannedLawful.congr {scanned : Nat} (h : b.scannedLawful f scanned) (hl : c.leaves = b.leaves)
    (hc : c.catalog = b.catalog) (hp : c.purges = b.purges) (hb : c.banks = b.banks) : c.scannedLawful f scanned := by
  have hbank := Body.bank_congr hb
  refine ⟨by rw [hc, hp]; exact h.empty, hl ▸ h.canonical, fun l => ?_, fun k hk => ?_, fun k hk => ?_⟩
  · rw [Body.leaf_congr hl]; exact h.leaves l
  · rw [hbank]; exact h.blank k hk
  · rw [hbank]; exact h.erase k hk

theorem Body.atRest.congr (h : b.atRest) (hb : c.buffers = b.buffers) (hr : c.ready = b.ready) (hw : c.windows = b.windows)
    (hk : c.banks = b.banks) : c.atRest :=
  ⟨fun i => by rw [show c.buffer i = b.buffer i by unfold Body.buffer; rw [hb]]; exact h.buffers i, hr ▸ h.ready,
    hw ▸ h.windows, fun k hlt => by rw [Body.bank_congr hk]; exact h.banks k hlt⟩

/-- A part at rest whose store stays as it is. -/
theorem State.storeLawful.still (h : s.storeLawful) (hc : s.chargesLawful) (hw : s.recovery.part.works = false)
    (hp : t.recovery.part = s.recovery.part) (hm : t.recovery.mark = s.recovery.mark)
    (hs : t.recovery.scanned = s.recovery.scanned) (ht : t.txn = s.txn ∨ ∀ a, t.txn ≠ .appending a) (hf : t.flash = s.flash)
    (hleaves : t.body.leaves = s.body.leaves) (hcat : t.body.catalog = s.body.catalog)
    (hpurges : t.body.purges = s.body.purges) (hbanks : t.body.banks = s.body.banks)
    (hbuffers : t.body.buffers = s.body.buffers) (hready : t.body.ready = s.body.ready)
    (hwindows : t.body.windows = s.body.windows) : t.storeLawful := by
  refine .ofRest (hp ▸ hw) ?_ (hf ▸ h.array) (fun hb => ?_) ((h.atRest hw).congr hbuffers hready hwindows hbanks) fun hr => ?_
  · rcases ht with ht | ht
    · rw [ht]; exact hc.noAppend hw
    · exact ht
  · rw [hp, hm] at hb
    exact (h.believed (.inr (.inr hb))).congr hleaves hcat fun k _ => by rw [Body.bank_congr hbanks]; exact ⟨rfl, rfl⟩
  · rw [hf, hs]
    exact (h.scan (hp ▸ hr)).congr hleaves hcat hpurges hbanks

/-! ### Charges and store together -/

/-- The two laws that every change keeps together. -/
structure State.storeKept (s : State) : Prop where
  charges : s.chargesLawful
  store : s.storeLawful

theorem State.storeKept.held (h : s.storeKept) (hw : s.recovery.part.works = true) : StoreHeld s.txn s.body := h.store.held hw

/-- The array keeps its size where one of its leaves changes (R77). -/
theorem State.storeLawful.array_of (h : s.storeLawful) (hl : l < 65536) (hf : ∀ m, m ≠ l → f.spareOf m = s.flash.spareOf m) :
    ∀ m, 65536 ≤ m → f.spareOf m = Spare.erased := fun m hm => (hf m (by omega)).trans (h.array m hm)

/-- The leaf of an operation under way is one of the array. -/
theorem StoreHeld.op_bounded {txn : Transaction} (h : StoreHeld txn b) (hk : k < 4) {st : LeafState}
    (hop : (b.bank k).op.leafState l = some st) : l < 65536 := by
  by_contra hl
  have hbusy := ((h.parts.bank k hk).op_state hop).2
  rw [(h.parts.leaf l).bounded (by omega)] at hbusy
  cases hbusy

theorem State.storeKept.frame (h : s.storeKept) (hb : t.body = s.body) (hf : t.flash = s.flash)
    (hp : t.recovery.part = s.recovery.part ∨ s.recovery.part.works = true ∧ t.recovery.part.works = true)
    (hm : t.recovery.mark = s.recovery.mark) (hs : t.recovery.scanned = s.recovery.scanned)
    (ht : t.txn = s.txn ∨ ∀ a, t.txn ≠ .appending a) : t.storeKept := by
  refine ⟨h.charges.frame hb hp ht, ?_⟩
  cases hw : s.recovery.part.works with
  | true =>
    have hheld := h.held hw
    refine StoreHeld.storeLawful ⟨hb ▸ hheld.parts, hb ▸ hheld.lists, hb ▸ hheld.tails.tail, fun a ha => ?_⟩ ?_ (hf ▸ h.store.array)
    · rcases ht with ht | ht
      · rw [hb]; exact hheld.tails.rolled a (ht ▸ ha)
      · exact absurd ha (ht a)
    · rcases hp with hp | hp
      · rw [hp]; exact hw
      · exact hp.2
  | false =>
    refine h.store.still h.charges hw ?_ hm hs ht hf (by rw [hb]) (by rw [hb]) (by rw [hb]) (by rw [hb]) (by rw [hb]) (by rw [hb])
      (by rw [hb])
    rcases hp with hp | hp
    · exact hp
    · rw [hw] at hp; cases hp.1

theorem State.storeLawful.calm (h : s.storeLawful) (hc : s.chargesLawful) (hm : Calm s.body b) :
    ({ s with body := b } : State).storeLawful := by
  cases hw : s.recovery.part.works with
  | true => exact StoreHeld.storeLawful ((h.held hw).calm hc.held.calls hm) hw h.array
  | false =>
    have ho := hm.others
    exact h.still hc hw rfl rfl rfl (.inl rfl) rfl (by rw [ho]) (by rw [ho]) (by rw [ho]) (by rw [ho]) (by rw [ho])
      (by rw [ho]) (by rw [ho])

/-! ### Main power returns, and the backup supply fails -/

theorem Body.atRest.ofNil (hb : b.buffers = []) (hr : b.ready = []) (hw : b.windows = [])
    (hk : ∀ k, k < 4 → (b.bank k).fetchQueue = [] ∧ (b.bank k).op = .none) : b.atRest :=
  ⟨fun i => by unfold Body.buffer; rw [hb]; rfl, hr, hw, hk⟩

/-- A bank that is not in the table. -/
theorem Body.bank_of_nil (h : b.banks = []) (k : Nat) : b.bank k = ⟨[], [], [], .none⟩ := by
  unfold Body.bank
  rw [h]
  rfl

theorem Body.leaf_of_nil (h : b.leaves = []) (l : Nat) : b.leaf l = Leaf.blank := by
  unfold Body.leaf
  rw [h]
  rfl

theorem Body.coldStart_atRest (b : Body) : b.coldStart.atRest :=
  .ofNil rfl rfl rfl fun k _ => by rw [Body.bank_of_nil (show b.coldStart.banks = [] from rfl)]; exact ⟨rfl, rfl⟩

theorem Body.coldStart_scanned (b : Body) (f : Flash) : b.coldStart.scannedLawful f 0 := by
  have hbank := Body.bank_of_nil (show b.coldStart.banks = [] from rfl)
  refine ⟨⟨rfl, rfl⟩, ⟨List.Pairwise.nil, nofun⟩, fun l => ?_, fun k _ => ?_, fun k _ => ?_⟩
  · rw [if_neg (Nat.not_lt_zero l)]; exact Body.leaf_of_nil rfl l
  · rw [hbank]; exact ⟨List.nodup_nil, fun l => ⟨nofun, fun h => absurd h.1 (Nat.not_lt_zero l)⟩⟩
  · rw [hbank]; exact ⟨List.nodup_nil, fun l => ⟨nofun, fun h => absurd h.1 (Nat.not_lt_zero l)⟩⟩

theorem State.storeKept.warmBegin (h : s.storeKept) (hp : s.recovery.part = .off) (hm : s.recovery.mark = true)
    (hub node : Nat) : (s.warmBegin hub node).storeKept := by
  refine ⟨chargesWorkLaw.warm hub node h.charges hp hm, ?_⟩
  refine .ofRest rfl (h.charges.noAppend (by rw [hp]; rfl)) h.store.array (fun _ => ?_)
    ((h.store.atRest (by rw [hp]; rfl)).congr rfl rfl rfl rfl) nofun
  exact (h.store.believed (.inr (.inr (.inr ⟨hp, hm⟩)))).congr rfl rfl fun _ _ => ⟨rfl, rfl⟩

theorem State.storeKept.coldBegin (h : s.storeKept) (hp : s.recovery.part = .off) (hub node : Nat) :
    (s.coldBegin hub node).storeKept := by
  refine ⟨chargesWorkLaw.cold hub node h.charges hp, ?_⟩
  refine .ofRest rfl (h.charges.noAppend (by rw [hp]; rfl)) h.store.array (fun hb => ?_) s.body.coldStart_atRest
    fun _ => s.body.coldStart_scanned s.flash
  rcases hb with hb | ⟨hb, _⟩ <;> cases hb

theorem State.storeKept.backupLost (h : s.storeKept) (hp : s.recovery.part = .off) {r : Recovery} (hr : r.part = .off)
    (hm : r.mark = false) (hs : r.scanned = 0) : ({ s with body := s.body.coldStart, recovery := r } : State).storeKept := by
  refine ⟨chargesWorkLaw.failure h.charges hp hr hm hs, ?_⟩
  refine .ofRest (show r.part.works = false by rw [hr]; rfl) (h.charges.noAppend (by rw [hp]; rfl)) h.store.array
    (fun hb => ?_) s.body.coldStart_atRest fun hb => ?_
  · rcases hb with hb | ⟨_, hb⟩
    · rw [show r.part = _ from hr] at hb; cases hb
    · rw [show r.mark = _ from hm] at hb; cases hb
  · rw [show r.part = _ from hr] at hb; cases hb

/-! ### The header scan -/

theorem Body.scanLeaf_wf (f : Flash) (l : Nat) (hw : Table.wf Leaf.blank b.leaves) :
    Table.wf Leaf.blank (b.scanLeaf f l).leaves := by
  unfold Body.scanLeaf
  split
  · exact Table.wf_write l Leaf.blank hw
  · exact Table.wf_write l (⟨.void, none, none⟩ : Leaf) hw
  · exact Table.wf_write l (⟨.retired, none, none⟩ : Leaf) hw
  · exact hw

/-- A list that holds what is read so far, with the next leaf where it qualifies. -/
theorem Listing.scan {q : List Nat} {c : Nat → Prop} {l k : Nat} (h : Listing q fun x => x < l ∧ x % 4 = k ∧ c x)
    [Decidable (k = l % 4 ∧ c l)] : Listing (q ++ if k = l % 4 ∧ c l then [l] else []) fun x => x < l + 1 ∧ x % 4 = k ∧ c x := by
  split_ifs with hc
  · refine h.append (fun hl => absurd hl.1 (lt_irrefl l)) fun x => ?_
    constructor
    · rintro ⟨hx, hk, hcx⟩
      by_cases he : x = l
      · exact .inr he
      · exact .inl ⟨by omega, hk, hcx⟩
    · rintro (⟨hx, hk, hcx⟩ | rfl)
      · exact ⟨by omega, hk, hcx⟩
      · exact ⟨by omega, hc.1.symm, hc.2⟩
  · rw [List.append_nil]
    refine h.congr fun x => ⟨fun hx => ?_, fun hx => ⟨by omega, hx.2⟩⟩
    by_cases he : x = l
    · subst he; exact absurd ⟨hx.2.1.symm, hx.2.2⟩ hc
    · exact ⟨by omega, hx.2⟩

theorem Body.scannedLawful_leaf {scanned : Nat} (h : b.scannedLawful f scanned) (m : Nat) :
    b.leaf m = if m < scanned then (f.spareOf m).classOf.scanned Leaf.blank else Leaf.blank := by
  rw [h.leaves]
  split_ifs
  · cases (f.spareOf m).classOf <;> rfl
  · rfl

/-- One more leaf is read (R101, R167). -/
theorem Body.scannedLawful.scanLeaf (h : b.scannedLawful f l) : (b.scanLeaf f l).scannedLawful f (l + 1) := by
  have hframe := b.scanLeaf_frame f l
  have hbank := b.scanLeaf_bank f l
  refine ⟨by rw [hframe]; exact h.empty, Body.scanLeaf_wf f l h.canonical, fun m => ?_, fun k hk => ?_, fun k hk => ?_⟩
  · have hread : (b.scanLeaf f l).leaf m = if m < l + 1 then (f.spareOf m).classOf.scanned Leaf.blank else Leaf.blank := by
      rw [Body.scanLeaf_leaf, Body.scannedLawful_leaf h]
      by_cases hm : m = l
      · rw [hm, if_pos rfl, if_neg (lt_irrefl l), if_pos (Nat.lt_succ_self l)]
      · rw [if_neg hm]
        exact if_congr (by omega) rfl rfl
    rw [hread]
    split_ifs
    · cases (f.spareOf m).classOf <;> rfl
    · rfl
  · rw [hbank]; exact Listing.scan (c := fun x => (f.spareOf x).classOf = .erased) (h.blank k hk)
  · rw [hbank]; exact Listing.scan (c := fun x => (f.spareOf x).classOf = .voidMarked) (h.erase k hk)

theorem State.storeKept.scan (h : s.storeKept) (hp : s.recovery.part = .rebuilding) (hs : s.recovery.scanned < 65536) :
    ({ s with body := s.body.scanLeaf s.flash s.recovery.scanned,
              recovery := { s.recovery with scanned := s.recovery.scanned + 1 } } : State).storeKept := by
  have hw : s.recovery.part.works = false := by rw [hp]; rfl
  have hframe := s.body.scanLeaf_frame s.flash s.recovery.scanned
  have hrest := h.store.atRest hw
  refine ⟨chargesWorkLaw.scan h.charges hp hs, .ofRest hw (h.charges.noAppend hw) h.store.array (fun hb => ?_) ?_
    fun _ => (h.store.scan hp).scanLeaf⟩
  · rcases hb with hb | ⟨hb, _⟩ <;> rw [show s.recovery.part = _ from hp] at hb <;> cases hb
  · dsimp only
    refine ⟨fun i => ?_, by rw [hframe]; exact hrest.ready, by rw [hframe]; exact hrest.windows, fun k hk => ?_⟩
    · rw [hframe]; exact hrest.buffers i
    · rw [Body.scanLeaf_bank]; exact hrest.banks k hk

end

end Sys2Proof.Machine
end

section
/-! A warm start leaves a lawful leaf store: a leaf that a document keeps is the PROGRAMMED one that names its place, and every
other stands bare on the list of its state (R100, R164, R165). -/

namespace Sys2Proof.Machine

/-! ### The slots that a document keeps -/

/-- The leaf slot at a page and an index of page slots. -/
def slotIn (pages : List (List LeafSlot)) (page index : Nat) : Option LeafSlot :=
  if page = 0 then none else (pages[page - 1]?).bind (fun slots => slots[index]?)

theorem getElem?_of_prefix {α : Type} {l m : List α} (h : l <+: m) {j : Nat} {a : α} (hj : l[j]? = some a) : m[j]? = some a := by
  obtain ⟨t, rfl⟩ := h
  rw [List.getElem?_append_left (List.getElem?_eq_some_iff.mp hj).1, hj]

theorem slotIn_mem {pages : List (List LeafSlot)} {page index : Nat} {v : LeafSlot} (h : slotIn pages page index = some v) :
    v ∈ pages.flatten := by
  unfold slotIn at h
  split_ifs at h
  obtain ⟨slots, hs, hv⟩ := Option.bind_eq_some_iff.mp h
  exact List.mem_flatten.mpr ⟨slots, List.mem_of_getElem? hs, List.mem_of_getElem? hv⟩

section
variable {b c : Body} {d : Document} {n page index l : Nat} {v : LeafSlot} {p : Place}

theorem Document.slotAt_eq (d : Document) (page index : Nat) :
    d.slotAt page index = slotIn (d.pages.map (fun g => g.slots)) page index := by
  unfold Document.slotAt Document.page slotIn
  split_ifs
  · rfl
  · rw [List.getElem?_map]
    cases d.pages[page - 1]? <;> rfl

theorem Body.keptSlots_getElem? {j : Nat} {slots : List LeafSlot} (h : (b.keptSlots d)[j]? = some slots) :
    ∃ g, d.pages[j]? = some g ∧ slots = g.slots.takeWhile b.keeps := by
  have hget := getElem?_of_prefix (List.takeWhile_prefix _) h
  rw [List.getElem?_map, Option.map_eq_some_iff] at hget
  obtain ⟨g, hg, he⟩ := hget
  exact ⟨g, hg, he.symm⟩

/-- A kept slot is one that was there and is safe. -/
theorem Body.kept_slotAt (h : slotIn (b.keptSlots d) page index = some v) : d.slotAt page index = some v ∧ b.keeps v = true := by
  unfold slotIn at h
  unfold Document.slotAt Document.page
  split_ifs at h with hp
  rw [if_neg hp]
  obtain ⟨slots, hs, hv⟩ := Option.bind_eq_some_iff.mp h
  obtain ⟨g, hg, rfl⟩ := Body.keptSlots_getElem? hs
  rw [hg]
  exact ⟨getElem?_of_prefix (List.takeWhile_prefix _) hv, List.mem_takeWhile_imp (List.mem_of_getElem? hv)⟩

theorem Body.mem_lostSlots : v ∈ b.lostSlots d ↔
    ∃ page index, d.slotAt page index = some v ∧ slotIn (b.keptSlots d) page index = none := by
  have hread : ∀ (j x : Nat), ((b.keptSlots d)[j]?).bind (fun slots => slots[x]?) = none ↔ ((b.keptSlots d).getD j []).length ≤ x := by
    intro j x
    rw [List.getD_eq_getElem?_getD]
    cases (b.keptSlots d)[j]? with
    | none => simp
    | some slots => simp
  unfold Body.lostSlots Document.slotAt Document.page slotIn
  rw [List.mem_flatMap]
  constructor
  · rintro ⟨⟨g, j⟩, hg, hv⟩
    obtain ⟨x, hx⟩ := List.mem_iff_getElem?.mp hv
    rw [List.getElem?_drop] at hx
    refine ⟨j + 1, ((b.keptSlots d).getD j []).length + x, ?_, ?_⟩
    · rw [if_neg (Nat.succ_ne_zero j), Nat.add_sub_cancel, List.mem_zipIdx_iff_getElem?.mp hg]
      exact hx
    · rw [if_neg (Nat.succ_ne_zero j), Nat.add_sub_cancel, hread]
      exact Nat.le_add_right _ x
  · rintro ⟨page, index, hv, hk⟩
    by_cases hp : page = 0
    · rw [if_pos hp] at hv; cases hv
    rw [if_neg hp] at hv hk
    obtain ⟨g, hg, hv⟩ := Option.bind_eq_some_iff.mp hv
    rw [hread] at hk
    refine ⟨(g, page - 1), List.mem_zipIdx_iff_getElem?.mpr hg, List.mem_of_getElem? (i := index - ((b.keptSlots d).getD (page - 1) []).length) ?_⟩
    rw [List.getElem?_drop, Nat.add_sub_cancel' hk]
    exact hv

/-- A slot of a document is kept or lost. -/
theorem Body.kept_or_lost (h : d.slotAt page index = some v) :
    slotIn (b.keptSlots d) page index = some v ∨ v ∈ b.lostSlots d := by
  cases hk : slotIn (b.keptSlots d) page index with
  | none => exact .inr (Body.mem_lostSlots.mpr ⟨page, index, h, hk⟩)
  | some w =>
    rw [(Body.kept_slotAt hk).1] at h
    exact .inl h

/-- A document that goes keeps released slots alone. -/
theorem Body.released_of_goes (hs : b.stays d = false) (h : slotIn (b.keptSlots d) page index = some v) : v = .released := by
  have hmem := slotIn_mem h
  unfold Body.stays at hs
  rw [Bool.and_eq_false_iff, Bool.or_eq_false_iff] at hs
  rcases hs with hs | ⟨_, hs⟩
  · rw [Bool.not_eq_false', List.isEmpty_iff] at hs
    rw [hs] at hmem
    cases hmem
  · have := List.any_eq_false.mp hs v hmem
    simpa using this

/-! ### The slots after the start -/

theorem Document.warmed_slots (t : Tables) (tb : Timebase) (hl : Table.wf Leaf.blank b.leaves) (d : Document) :
    (d.warmed t tb b).pages.map (fun g => g.slots) = b.keptSlots d := by
  have hcut : (d.reconcile b.warmLeaves).pages.map (fun g => g.slots) = b.keptSlots d := by
    rw [Document.reconcile_pages, truncatePages_keptSlots, Body.keptSlots_congr (Body.warmLeaves_keeps hl)]
  unfold Document.warmed
  split_ifs
  · rw [Document.kept_pages, ← hcut, List.map_append]
    generalize (d.reconcile b.warmLeaves).pages = pages
    cases hg : pages.getLast? with
    | none => rw [List.getLast?_eq_none_iff.mp hg]; rfl
    | some g =>
      obtain ⟨init, rfl⟩ := List.getLast?_eq_some_iff.mp hg
      simp
  · exact hcut

/-- The slot at a place is the one that its document keeps. -/
theorem Body.warmed_slotAt (t : Tables) (tb : Timebase) (hl : Table.wf Leaf.blank b.leaves) (hw : Table.wf Slot.free b.catalog)
    (hv : v ≠ .released) : (b.warmed t tb).slotAt p = some v ↔
      ∃ d, b.doc p.slot = some d ∧ slotIn (b.keptSlots d) p.page p.index = some v := by
  cases hd : b.doc p.slot with
  | none =>
    have hnone : (b.warmed t tb).doc p.slot = none :=
      (congrArg Slot.doc (Body.warmed_slot_none t tb hw hd)).trans hd
    rw [Body.slotAt_none hnone]
    simp
  | some d =>
    cases hs : b.stays d with
    | false =>
      have hnone : (b.warmed t tb).doc p.slot = none := congrArg Slot.doc (Body.warmed_slot_gone t tb hl hw hd hs)
      rw [Body.slotAt_none hnone]
      refine ⟨nofun, ?_⟩
      rintro ⟨_, ⟨⟩, hk⟩
      exact absurd (Body.released_of_goes hs hk) hv
    | true =>
      have hdoc : (b.warmed t tb).doc p.slot = some (d.warmed t tb b) := congrArg Slot.doc (Body.warmed_slot_stays t tb hl hw hd hs)
      rw [show p = ⟨p.slot, p.page, p.index⟩ from rfl, Body.slotAt_doc hdoc, Document.slotAt_eq, Document.warmed_slots t tb hl]
      simp

/-! ### The leaf table after the start -/

theorem Body.leavesLawful.fits (h : b.leavesLawful) (l : Nat) : b.LeafFits l := ⟨h.bounded l, h.owner l, h.buffer l, h.placed l⟩

/-- A leaf's place is kept exactly where the leaf is PROGRAMMED and not dropped. -/
theorem Body.leavesLawful.warmed_placed (h : b.leavesLawful) (t : Tables) (tb : Timebase) (hw : Table.wf Slot.free b.catalog) :
    (b.warmed t tb).slotAt p = some (.placed l) ↔
      b.slotAt p = some (.placed l) ∧ (b.leaf l).state = .programmed ∧ l ∉ b.warmLeaves.droppedLeaves := by
  have hdrop := Body.mem_warmDropped (l := l) h.canonical hw
  rw [Body.warmed_slotAt (v := .placed l) t tb h.canonical hw nofun]
  constructor
  · rintro ⟨d, hd, hk⟩
    obtain ⟨hslot, hkeep⟩ := Body.kept_slotAt hk
    have hp : b.slotAt p = some (.placed l) := (Body.slotAt_doc hd p.page p.index).trans hslot
    refine ⟨hp, by simpa [Body.keeps] using hkeep, fun hm => ?_⟩
    obtain ⟨_, n, e, he, hlost⟩ := hdrop.mp hm
    obtain ⟨page, index, hq, hnone⟩ := Body.mem_lostSlots.mp hlost
    have hq' := (h.placed l ⟨n, page, index⟩).mpr ((Body.slotAt_doc he page index).trans hq)
    rw [(h.placed l p).mpr hp] at hq'
    cases hq'
    rw [hd] at he
    cases he
    rw [hk] at hnone
    cases hnone
  · rintro ⟨hp, hs, hm⟩
    obtain ⟨d, hd, hslot⟩ := Body.slotAt_some hp
    refine ⟨d, hd, (Body.kept_or_lost hslot).resolve_right fun hlost => hm (hdrop.mpr ⟨hs, p.slot, d, hd, hlost⟩)⟩

/-! ### The lists after the start -/

theorem Listing.union {q r : List Nat} {c e g : Nat → Prop} (h : Listing q c) (h' : Listing r e) (hne : ∀ x, c x → ¬ e x)
    (hg : ∀ x, g x ↔ c x ∨ e x) : Listing (q ++ r) g := by
  refine ⟨List.nodup_append.mpr ⟨h.1, h'.1, fun a ha y hy hay => ?_⟩, fun x => ?_⟩
  · exact hne a ((h.2 a).mp ha) ((h'.2 a).mp (hay ▸ hy))
  · rw [List.mem_append, h.2, h'.2, hg]

/-- Two lists of leaves of one bank, in states of two kinds. -/
theorem Listing.states {q r : List Nat} {k : Nat} {st : Nat → LeafState} {c e : LeafState → Bool}
    (h : Listing q fun l => l % 4 = k ∧ c (st l) = true) (h' : Listing r fun l => l % 4 = k ∧ e (st l) = true)
    (hne : ∀ s, c s = true → e s = false) : Listing (q ++ r) fun l => l % 4 = k ∧ (c (st l) || e (st l)) = true := by
  refine h.union h' (fun x hx hy => ?_) fun x => ?_
  · rw [hne _ hx.2] at hy
    cases hy.2
  · rw [Bool.or_eq_true, and_or_left]

theorem Body.listed_listing (hw : Table.wf Leaf.blank b.leaves) (k : Nat) {c : LeafState → Bool} (hc : c .blank = false) :
    Listing (b.listed k c) fun l => l % 4 = k ∧ c (b.leaf l).state = true := by
  refine ⟨((Body.leavesWhere_pairwise hw c).filter _).imp fun h => h.ne, fun l => ?_⟩
  have hmem := Body.mem_leavesWhere (l := l) hw hc
  unfold Body.leavesWhere at hmem
  unfold Body.listed
  rw [List.mem_filter, hmem, decide_eq_true_eq, and_comm]

/-- A leaf in another state than BLANK is one of the array. -/
theorem Body.leavesLawful.lt (h : b.leavesLawful) (hs : (b.leaf l).state ≠ .blank) : l < 65536 := by
  by_contra hl
  exact hs (by rw [h.bounded l (by omega)]; rfl)

theorem foldl_leaves_wf {step : Body → Nat → Body}
    (h : ∀ b l, Table.wf Leaf.blank b.leaves → Table.wf Leaf.blank (step b l).leaves) (ls : List Nat) (b : Body)
    (hb : Table.wf Leaf.blank b.leaves) : Table.wf Leaf.blank (ls.foldl step b).leaves := by
  induction ls generalizing b with
  | nil => exact hb
  | cons l ls ih => exact ih _ (h b l hb)

theorem Body.warmed_wf (t : Tables) (tb : Timebase) (hl : Table.wf Leaf.blank b.leaves) :
    Table.wf Leaf.blank (b.warmed t tb).leaves := by
  have hvoid : ∀ (b : Body) l, Table.wf Leaf.blank b.leaves → Table.wf Leaf.blank (b.voidLeaf l).leaves := fun b l h =>
    Table.wf_write l (⟨.void, none, none⟩ : Leaf) h
  have hfront : ∀ (b : Body) l, Table.wf Leaf.blank b.leaves → Table.wf Leaf.blank (b.voidFront l).leaves := fun b l h =>
    Table.wf_write l (⟨.void, none, none⟩ : Leaf) h
  have hblank : ∀ (b : Body) l, Table.wf Leaf.blank b.leaves → Table.wf Leaf.blank (b.blankLeaf l).leaves := fun b l h =>
    Table.wf_write l Leaf.blank h
  have hleaves : (b.warmed t tb).leaves = b.warmLeaves.truncate.leaves := by
    unfold Body.warmed
    rw [Body.closeReconciled_frame]
  rw [hleaves, Body.truncate_eq]
  refine foldl_leaves_wf hvoid _ _ ?_
  rw [Body.reconcileDocuments_leaves, Body.warmLeaves_eq]
  exact foldl_leaves_wf hfront _ _ (foldl_leaves_wf hvoid _ _ (foldl_leaves_wf hvoid _ _ (foldl_leaves_wf hblank _ _
    (by rw [Body.pooled_leaves]; exact hl))))

section
variable (t : Tables) (tb : Timebase)

/-- The state of a leaf after the start. -/
theorem Body.leavesLawful.warmed_bare (h : b.leavesLawful)
    (hs : (b.leaf l).state ≠ .programmed ∨ l ∈ b.warmLeaves.droppedLeaves) :
    ∃ st : LeafState, st.bare = true ∧ (b.warmed t tb).leaf l = ⟨st, none, none⟩ := by
  rw [Body.warmed_leaf t tb h.canonical]
  split_ifs with hm
  · exact ⟨.void, rfl, rfl⟩
  · have hs := hs.resolve_right hm
    have hfit := h.fits l
    cases hst : (b.leaf l).state with
    | filling => exact ⟨.blank, rfl, Leaf.settled_unwritten (.inl hst)⟩
    | ready => exact ⟨.blank, rfl, Leaf.settled_unwritten (.inr hst)⟩
    | programming => exact ⟨.void, rfl, Leaf.settled_interrupted (.inl hst)⟩
    | voiding => exact ⟨.void, rfl, Leaf.settled_interrupted (.inr (.inl hst))⟩
    | erasing => exact ⟨.void, rfl, Leaf.settled_interrupted (.inr (.inr hst))⟩
    | programmed => exact absurd hst hs
    | blank =>
      have hbare := (hfit.bare (by rw [hst]; rfl)).1
      rw [hst] at hbare
      exact ⟨.blank, rfl, (Leaf.settled_stays (.inr (.inl hst))).trans hbare⟩
    | void =>
      have hbare := (hfit.bare (by rw [hst]; rfl)).1
      rw [hst] at hbare
      exact ⟨.void, rfl, (Leaf.settled_stays (.inr (.inr (.inl hst)))).trans hbare⟩
    | retired =>
      have hbare := (hfit.bare (by rw [hst]; rfl)).1
      rw [hst] at hbare
      exact ⟨.retired, rfl, (Leaf.settled_stays (.inr (.inr (.inr hst)))).trans hbare⟩

theorem Body.leavesLawful.warmed_fits (h : b.leavesLawful) (hw : Table.wf Slot.free b.catalog) (l : Nat) :
    (b.warmed t tb).LeafFits l := by
  by_cases hs : (b.leaf l).state = .programmed ∧ l ∉ b.warmLeaves.droppedLeaves
  · obtain ⟨hl, p, hleaf, hplace⟩ := (h.fits l).programmed hs.1
    refine .ofProgrammed (p := p) ?_ hl fun q => ?_
    · rw [Body.warmed_leaf t tb h.canonical, if_neg hs.2, Leaf.settled_stays (.inl hs.1), hleaf]
    · rw [h.warmed_placed t tb hw, hplace]
      exact and_iff_left hs
  · have hplace : ∀ q, (b.warmed t tb).slotAt q ≠ some (.placed l) := fun q hq => hs ((h.warmed_placed t tb hw).mp hq).2
    obtain ⟨st, hst, hleaf⟩ := h.warmed_bare t tb (not_and_or.mp hs |>.imp_right not_not.mp)
    by_cases hl : l < 65536
    · exact .ofBare hleaf hst hl hplace
    · have hblank : (b.leaf l).state = .blank := by rw [h.bounded l (by omega)]; rfl
      have hread : (b.warmed t tb).leaf l = ⟨.blank, none, none⟩ := by
        rw [Body.warmed_leaf t tb h.canonical, if_neg fun hm => ?_, h.bounded l (by omega)]
        · rfl
        · rw [((Body.mem_warmDropped h.canonical hw).mp hm).1] at hblank
          cases hblank
      refine ⟨fun _ => hread, ?_, ?_, fun q => ?_⟩
      · rw [hread]; simp
      · rw [hread]; simp
      · rw [hread]; exact ⟨nofun, fun hq => absurd hq (hplace q)⟩

/-- The state of a leaf after the start, by the state before it. -/
theorem Body.leavesLawful.warmed_state (h : b.leavesLawful) (hw : Table.wf Slot.free b.catalog) (l : Nat) :
    (((b.warmed t tb).leaf l).state = .blank ↔
      (b.leaf l).state = .blank ∨ (b.leaf l).state = .filling ∨ (b.leaf l).state = .ready) ∧
    (((b.warmed t tb).leaf l).state = .void ↔ (b.leaf l).state = .erasing ∨ (b.leaf l).state = .void ∨
      (b.leaf l).state = .programming ∨ (b.leaf l).state = .voiding ∨ l ∈ b.warmLeaves.droppedLeaves) := by
  have hdrop := Body.mem_warmDropped (l := l) h.canonical hw
  rw [Body.warmed_leaf t tb h.canonical]
  by_cases hm : l ∈ b.warmLeaves.droppedLeaves
  · rw [if_pos hm, (hdrop.mp hm).1]
    simp [hm]
  · rw [if_neg hm]
    unfold Leaf.settled
    cases hs : (b.leaf l).state <;> simp [hm, hs, Leaf.blank]

theorem Body.leavesLawful.warmed (h : b.leavesLawful) (hw : Table.wf Slot.free b.catalog) :
    (b.warmed t tb).leavesLawful := by
  have hfit := h.warmed_fits t tb hw
  have hlisted := fun k (c : LeafState → Bool) hc => Body.listed_listing h.canonical k (c := c) hc
  refine ⟨Body.warmed_wf t tb h.canonical, fun l => (hfit l).bounded, fun l => (hfit l).owner, fun l => (hfit l).buffer,
    fun l => (hfit l).placed, fun k hk => ?_, fun k hk => ?_⟩
  · rw [Body.warmed_bank t tb hk]
    have hblank : Listing (b.bank k).blank fun l => l < 65536 ∧ l % 4 = k ∧ (b.leaf l).state = .blank := h.blank k hk
    refine hblank.union (hlisted k _ rfl) (fun x hx hy => ?_) fun x => ?_
    · rw [hx.2.2] at hy
      cases hy.2
    · rw [(h.warmed_state t tb hw x).1]
      have := h.lt (l := x)
      cases hs : (b.leaf x).state <;> simp_all
  · rw [Body.warmed_bank t tb hk]
    have hvoid : Listing (b.bank k).eraseQueue fun l => l < 65536 ∧ l % 4 = k ∧ (b.leaf l).state = .void := h.erase k hk
    have hdropped : Listing (b.warmLeaves.droppedLeaves.filter (fun l => l % 4 = k)) fun l =>
        l % 4 = k ∧ l ∈ b.warmLeaves.droppedLeaves := by
      refine ⟨((Body.droppedLeaves_pairwise _).imp fun h => h.ne).filter _, fun l => ?_⟩
      rw [List.mem_filter, decide_eq_true_eq, and_comm]
    have hprog : ∀ x, x ∈ b.warmLeaves.droppedLeaves → (b.leaf x).state = .programmed := fun x hx =>
      ((Body.mem_warmDropped h.canonical hw).mp hx).1
    have hvoid' : Listing (b.bank k).eraseQueue fun l => l % 4 = k ∧ ((b.leaf l).state == .void) = true := by
      refine hvoid.congr fun x => ?_
      rw [beq_iff_eq]
      exact ⟨fun hx => ⟨h.lt (by rw [hx.2]; nofun), hx⟩, fun hx => hx.2⟩
    have hfront := (hlisted k (fun st => st == .erasing) rfl).states (c := fun st => st == .erasing)
      (e := fun st => st == .void) hvoid' (by intro s; cases s <;> decide)
    have hcut := hfront.states (c := fun st => st == .erasing || st == .void) (e := fun st => st == .programming) (hlisted k (fun st => st == .programming) rfl)
      (by intro s; cases s <;> decide)
    have hmarked := hcut.states (c := fun st => st == .erasing || st == .void || st == .programming)
      (e := fun st => st == .voiding) (hlisted k (fun st => st == .voiding) rfl) (by intro s; cases s <;> decide)
    refine hmarked.union hdropped (fun x hx hy => ?_) fun x => ?_
    · rw [hprog x hy.2] at hx
      cases hx.2
    · rw [(h.warmed_state t tb hw x).2]
      simp only [Bool.or_eq_true, beq_iff_eq, ← and_or_left, or_assoc]
      have hlt : (b.leaf x).state = .erasing ∨ (b.leaf x).state = .void ∨ (b.leaf x).state = .programming ∨
          (b.leaf x).state = .voiding ∨ x ∈ b.warmLeaves.droppedLeaves → x < 65536 := fun hs => h.lt fun hblank => by
        rw [hblank] at hs
        obtain hs | hs | hs | hs | hs := hs
        · cases hs
        · cases hs
        · cases hs
        · cases hs
        · rw [hprog x hs] at hblank; cases hblank
      exact ⟨fun hx => hx.2, fun hx => ⟨hlt hx.2, hx⟩⟩

end

end

end Sys2Proof.Machine
end

section
/-! Which changes keep the window list: windows go or stay as they are, and a PROGRAMMED leaf stays PROGRAMMED (R74 to R79). -/

namespace Sys2Proof.Machine

/-- No window appears or names another leaf, and no PROGRAMMED leaf goes. -/
structure WindowsKept (b c : Body) : Prop where
  fewer : c.windows.length ≤ b.windows.length
  listed : ∀ i ∈ c.windows, i ∈ b.windows ∧ ((c.buffer i).discard = false →
    (b.buffer i).discard = false ∧ (c.buffer i).leaf = (b.buffer i).leaf)
  leaf : ∀ l, (b.leaf l).state = .programmed → (c.leaf l).state = .programmed

section
variable {a b c : Body} {i l n k : Nat}

/-- The law of the window list, one leaf apart: the windows of that leaf are about to go. -/
structure Body.WindowsFit (b : Body) (x : Option Nat) : Prop where
  bound : b.windows.length ≤ 24
  programmed : ∀ i ∈ b.windows, (b.buffer i).discard = false →
    ∃ l, (b.buffer i).leaf = some l ∧ (x = some l ∨ (b.leaf l).state = .programmed)
  distinct : ∀ i ∈ b.windows, ∀ j ∈ b.windows, (b.buffer i).discard = false → (b.buffer j).discard = false →
    (b.buffer i).leaf = (b.buffer j).leaf → i = j

theorem Body.windowsLawful_iff : b.windowsLawful ↔ b.WindowsFit none := by
  constructor
  · intro h
    refine ⟨h.bound, fun i hi hd => ?_, h.distinct⟩
    obtain ⟨l, hl, hst⟩ := h.programmed i hi hd
    exact ⟨l, hl, .inr hst⟩
  · intro h
    refine ⟨h.bound, fun i hi hd => ?_, h.distinct⟩
    obtain ⟨l, hl, hst⟩ := h.programmed i hi hd
    exact ⟨l, hl, hst.resolve_left nofun⟩

theorem Body.WindowsFit.kept {x : Option Nat} (h : b.WindowsFit x) (hk : WindowsKept b c) : c.WindowsFit x := by
  refine ⟨hk.fewer.trans h.bound, fun i hi hd => ?_, fun i hi j hj hdi hdj he => ?_⟩
  · obtain ⟨hm, hb⟩ := hk.listed i hi
    obtain ⟨hbd, hl⟩ := hb hd
    obtain ⟨l, hbl, hst⟩ := h.programmed i hm hbd
    exact ⟨l, hl.trans hbl, hst.imp_right (hk.leaf l)⟩
  · obtain ⟨hmi, hbi⟩ := hk.listed i hi
    obtain ⟨hmj, hbj⟩ := hk.listed j hj
    obtain ⟨hi, hli⟩ := hbi hdi
    obtain ⟨hj, hlj⟩ := hbj hdj
    exact h.distinct i hmi j hmj hi hj (hli.symm.trans (he.trans hlj))

theorem Body.windowsLawful.kept (h : b.windowsLawful) (hk : WindowsKept b c) : c.windowsLawful :=
  Body.windowsLawful_iff.mpr ((Body.windowsLawful_iff.mp h).kept hk)

theorem Body.windowsLawful.ofNil (h : b.windows = []) : b.windowsLawful := by
  refine ⟨by rw [h]; exact Nat.zero_le _, fun i hi => ?_, fun i hi => ?_⟩ <;> rw [h] at hi <;> cases hi

/-! ### Changes of one entry -/

theorem WindowsKept.of_eq (hw : c.windows = b.windows) (hb : c.buffers = b.buffers) (hl : c.leaves = b.leaves) :
    WindowsKept b c := by
  have hbuf : ∀ i, c.buffer i = b.buffer i := fun i => by unfold Body.buffer; rw [hb]
  exact ⟨by rw [hw], fun i hi => ⟨hw ▸ hi, fun hd => by rw [hbuf] at hd ⊢; exact ⟨hd, rfl⟩⟩,
    fun l hs => by rw [Body.leaf_congr hl]; exact hs⟩

theorem WindowsKept.refl (b : Body) : WindowsKept b b := .of_eq rfl rfl rfl

theorem WindowsKept.trans (h : WindowsKept a b) (h' : WindowsKept b c) : WindowsKept a c := by
  refine ⟨h'.fewer.trans h.fewer, fun i hi => ?_, fun l hs => h'.leaf l (h.leaf l hs)⟩
  obtain ⟨hm, hb⟩ := h'.listed i hi
  obtain ⟨hm, ha⟩ := h.listed i hm
  refine ⟨hm, fun hd => ?_⟩
  obtain ⟨hd, hl⟩ := hb hd
  obtain ⟨hd, hl'⟩ := ha hd
  exact ⟨hd, hl.trans hl'⟩

theorem WindowsKept.foldl {α : Type} {step : Body → α → Body} (h : ∀ b x, WindowsKept b (step b x)) (q : List α) (b : Body) :
    WindowsKept b (q.foldl step b) := by
  induction q generalizing b with
  | nil => exact .refl b
  | cons x q ih => exact (h b x).trans (ih _)

/-- A leaf changes that is not PROGRAMMED, or stays so. -/
theorem WindowsKept.setLeaf (b : Body) {v : Leaf} (h : (b.leaf l).state = .programmed → v.state = .programmed) :
    WindowsKept b (b.setLeaf l v) := by
  refine ⟨le_rfl, fun i hi => ⟨hi, fun hd => ⟨hd, rfl⟩⟩, fun m hs => ?_⟩
  rw [Body.setLeaf_leaf]
  split_ifs with hm
  · exact h (hm ▸ hs)
  · exact hs

/-- A buffer changes that is no window, or keeps the leaf that it names. -/
theorem WindowsKept.setBuffer (b : Body) {v : Buffer} (h : i ∈ b.windows → v.discard = false →
    (b.buffer i).discard = false ∧ v.leaf = (b.buffer i).leaf) : WindowsKept b (b.setBuffer i v) := by
  refine ⟨le_rfl, fun j hj => ⟨hj, fun hd => ?_⟩, fun _ hs => hs⟩
  rw [Body.setBuffer_buffer] at hd ⊢
  by_cases hji : j = i
  · rw [if_pos hji] at hd ⊢
    rw [hji]
    exact h (hji ▸ hj) hd
  · rw [if_neg hji] at hd ⊢
    exact ⟨hd, rfl⟩

/-- A buffer that is freed is no window. -/
theorem WindowsKept.releaseBuffer (b : Body) (i : Nat) : WindowsKept b (b.releaseBuffer i) := by
  refine ⟨?_, fun j hj => ?_, fun l hs => ?_⟩
  · rw [Body.releaseBuffer_windows]; exact List.length_filter_le _ _
  · rw [Body.releaseBuffer_windows, List.mem_filter, decide_eq_true_eq] at hj
    rw [Body.releaseBuffer_buffer, if_neg hj.2]
    exact ⟨hj.1, fun hd => ⟨hd, rfl⟩⟩
  · rw [Body.leaf_congr (Body.releaseBuffer_leaves ..)]; exact hs

theorem WindowsKept.orphan (b : Body) (i : Nat) : WindowsKept b (b.orphan i) := .setBuffer b fun _ hd => ⟨hd, rfl⟩

theorem WindowsKept.fill (b : Body) (i : Nat) (bytes : List Byte) : WindowsKept b (b.fill i bytes) :=
  .setBuffer b fun _ hd => ⟨hd, rfl⟩

/-- A buffer goes READY whose leaf is not PROGRAMMED. -/
theorem WindowsKept.makeReady (b : Body) (i : Nat) (h : ∀ l, (b.buffer i).leaf = some l → (b.leaf l).state ≠ .programmed) :
    WindowsKept b (b.makeReady i) := by
  have hwin : (b.makeReady i).windows = b.windows := by simp
  refine ⟨by rw [hwin], fun j hj => ⟨hwin ▸ hj, fun hd => ?_⟩, fun l hs => ?_⟩
  · rw [Body.makeReady_buffer] at hd ⊢
    split_ifs at hd ⊢ with hji
    · rw [hji]; exact ⟨hd, rfl⟩
    · exact ⟨hd, rfl⟩
  · rw [Body.makeReady_leaf, if_neg fun he => h l he hs]
    exact hs

/-! ### Documents -/

theorem WindowsKept.updDoc (b : Body) (n : Nat) (f : Document → Document) : WindowsKept b (b.updDoc n f) := by
  unfold Body.updDoc
  split
  · exact .of_eq rfl rfl rfl
  · exact .refl b

theorem WindowsKept.closeDocument (t : Tables) (tb : Timebase) (b : Body) (n : Nat) (e : Ending) :
    WindowsKept b (b.closeDocument t tb n e) := .of_eq (by simp) (by simp) (by simp)

theorem WindowsKept.releaseSlot (b : Body) (n page index : Nat) : WindowsKept b (b.releaseSlot n page index) := by
  unfold Body.releaseSlot
  dsimp only
  split
  · exact (WindowsKept.updDoc b n _).trans (.releaseBuffer _ _)
  · exact .updDoc b n _

theorem WindowsKept.advancePurge (b : Body) (n : Nat) : WindowsKept b (b.advancePurge n) := by
  unfold Body.advancePurge
  split
  · rename_i d hd
    have hset : WindowsKept b (d.unplacedAtCursor.foldl (fun acc s => acc.releaseSlot n s.1 s.2.1) b) :=
      .foldl (step := fun (acc : Body) (s : Nat × Nat × LeafSlot) => acc.releaseSlot n s.1 s.2.1)
        (fun c s => .releaseSlot c n s.1 s.2.1) _ b
    dsimp only
    split
    · split_ifs
      · exact hset.trans (.of_eq rfl rfl rfl)
      · exact hset
    · exact hset
  · exact .refl b

theorem WindowsKept.startPurge (b : Body) (n : Nat) : WindowsKept b (b.startPurge n) := by
  unfold Body.startPurge
  dsimp only
  refine WindowsKept.trans ?_ (.advancePurge _ n)
  exact (WindowsKept.updDoc b n fun d => { d with state := .purging }).trans (.of_eq rfl rfl rfl)

/-! ### Windows -/

theorem WindowsKept.dropWindow (b : Body) (l : Nat) : WindowsKept b (b.dropWindow l) := by
  unfold Body.dropWindow
  split
  · split_ifs
    · exact .releaseBuffer b _
    · exact .setBuffer b fun _ => nofun
  · exact .refl b

/-- A leaf is about to go. -/
theorem Body.windowsLawful.mark (h : b.windowsLawful) (l : Nat) (v : Leaf) : (b.setLeaf l v).WindowsFit (some l) := by
  refine ⟨h.bound, fun i hi hd => ?_, h.distinct⟩
  obtain ⟨m, hm, hst⟩ := h.programmed i hi hd
  refine ⟨m, hm, ?_⟩
  by_cases hml : m = l
  · exact .inl (congrArg some hml.symm)
  · rw [Body.setLeaf_leaf, if_neg hml]; exact .inr hst

/-- The window of a leaf goes with it (R78). -/
theorem Body.WindowsFit.dropWindow (h : b.WindowsFit (some l)) : (b.dropWindow l).windowsLawful := by
  have hk := WindowsKept.dropWindow b l
  have hgone : ∀ i ∈ (b.dropWindow l).windows, ((b.dropWindow l).buffer i).discard = false →
      ((b.dropWindow l).buffer i).leaf ≠ some l := fun i hi hd hl => by
    obtain ⟨hm, hb⟩ := hk.listed i hi
    obtain ⟨hbd, hbl⟩ := hb hd
    rw [hl] at hbl
    cases hw : b.windowOf l with
    | none =>
      have := List.find?_eq_none.mp hw i hm
      rw [← hbl, hbd] at this
      simp at this
    | some j =>
      have hj := List.find?_some hw
      rw [Bool.and_eq_true, beq_iff_eq, Bool.not_eq_true'] at hj
      have hij := h.distinct i hm j (List.mem_of_find?_eq_some hw) hbd hj.2 (hbl.symm.trans hj.1.symm)
      subst hij
      by_cases hst : (b.buffer i).state = .window
      · rw [Body.dropWindow_frees hw hst, Body.releaseBuffer_windows, List.mem_filter] at hi
        simp at hi
      · rw [Body.dropWindow_discards hw hst, Body.setBuffer_buffer, if_pos rfl] at hd
        cases hd
  have hfit := h.kept hk
  refine Body.windowsLawful_iff.mpr ⟨hfit.bound, fun i hi hd => ?_, hfit.distinct⟩
  obtain ⟨m, hm, hst⟩ := hfit.programmed i hi hd
  refine ⟨m, hm, .inr (hst.resolve_left fun he => hgone i hi hd ?_)⟩
  rw [hm, ← Option.some.inj he]

theorem WindowsKept.resetWindow (b : Body) (i : Nat) : WindowsKept b (b.resetWindow i) := by
  unfold Body.resetWindow
  split_ifs
  · exact .releaseBuffer b i
  · exact .setBuffer b fun _ => nofun

theorem WindowsKept.fetchDone (b : Body) (f : Flash) (k i : Nat) : WindowsKept b (b.fetchDone f k i) := by
  have hop : WindowsKept b (b.setOp k .none) := .of_eq rfl rfl rfl
  unfold Body.fetchDone
  dsimp only
  split_ifs
  · exact hop.trans (.releaseBuffer _ i)
  · exact hop.trans (.setBuffer _ fun _ hd => ⟨hd, rfl⟩)

/-- A window touched goes to the end of the list (R75). -/
theorem WindowsKept.touchWindow (hn : b.windows.Nodup) (hi : i ∈ b.windows) : WindowsKept b (b.touchWindow i) := by
  refine ⟨?_, fun j hj => ⟨?_, fun hd => ⟨hd, rfl⟩⟩, fun _ hs => hs⟩
  · have hlen := List.length_erase_of_mem hi
    have hpos := List.length_pos_of_mem hi
    have hfilter : b.windows.filter (fun j => j ≠ i) = b.windows.erase i := by
      rw [hn.erase_eq_filter]
      exact List.filter_congr fun j _ => by simp [bne, BEq.beq]
    change (b.windows.filter (fun j => j ≠ i) ++ [i]).length ≤ b.windows.length
    rw [List.length_append, hfilter, hlen, List.length_singleton]
    omega
  · rcases List.mem_append.mp hj with hj | hj
    · exact List.mem_of_mem_filter hj
    · rw [List.mem_singleton.mp hj]; exact hi

end

end Sys2Proof.Machine
end

section
/-! The changes of sessions, deliveries, purges and banks keep the window list (R74 to R79). -/

namespace Sys2Proof.Machine

section
variable {txn : Transaction} {b c : Body} {n k i l : Nat} {d f : Document} {p : Place}

/-! ### Sessions -/

theorem WindowsKept.calm (h : Calm b c) : WindowsKept b c := by
  have ho := h.others
  exact .of_eq (by rw [ho]) (by rw [ho]) (by rw [ho])

theorem WindowsKept.recharge (h : Recharged b c n d f) : WindowsKept b c := by
  have ho := h.others
  exact .of_eq (by rw [ho]) (by rw [ho]) (by rw [ho])

theorem WindowsKept.admitCall (b : Body) (n k : Nat) (d : Document) (deadline : Nat) :
    WindowsKept b (b.admitCall n k d deadline) := by
  refine .of_eq ?_ ?_ ?_
  all_goals
    unfold Body.admitCall
    dsimp only
    rw [foldl_callAttention_eq]
    rfl

/-- A buffer behind a leaf slot is no window. -/
theorem StoreHeld.notWindow (h : StoreHeld txn b) {st : LeafState} (hst : (b.buffer i).state.leafState = some st) :
    i ∉ b.windows := fun hi => by
  rcases (h.lists.windows.2 i).mp hi with hs | hs <;> rw [hs] at hst <;> cases hst

/-- The leaf of a buffer behind a leaf slot is in the buffer's state. -/
theorem StoreHeld.notProgrammed (h : StoreHeld txn b) {st : LeafState} (hst : (b.buffer i).state.leafState = some st)
    (hl : (b.buffer i).leaf = some l) : (b.leaf l).state ≠ .programmed := by
  obtain ⟨p, _, hbl, _⟩ := h.parts.behind hst hl
  rw [hbl]
  intro he
  change st = .programmed at he
  rw [he] at hst
  cases hs : (b.buffer i).state <;> rw [hs] at hst <;> cases hst

/-- A slot is taken (R50, R84). -/
theorem StoreHeld.windows_allocate (h : StoreHeld txn b) (hroom : b.room k = .found i l) (p : Place) :
    WindowsKept b (b.allocate k p l i) := by
  obtain ⟨_, _, hfree, _, hblank, _⟩ := h.lists.found hroom
  have hleaf : WindowsKept b ((b.popBlank (leafBank l)).setLeaf l ⟨.filling, some p, some i⟩) :=
    WindowsKept.trans (b := b.popBlank (leafBank l)) (.of_eq rfl rfl rfl)
      (.setLeaf _ fun hs => by cases hblank.symm.trans hs)
  have hbuf : WindowsKept b (((b.popBlank (leafBank l)).setLeaf l ⟨.filling, some p, some i⟩).setBuffer i
      ⟨.filling, some l, some p, some (.session k), [], false⟩) := by
    refine hleaf.trans (.setBuffer _ fun hi => ?_)
    rcases (h.lists.windows.2 i).mp hi with hs | hs <;> rw [hfree] at hs <;> cases hs
  exact hbuf.trans (.of_eq rfl rfl rfl)

theorem StoreHeld.windows_beginPage (h : StoreHeld txn b) (hroom : b.room k = .found i l) (n : Nat) (d : Document) (page : Page) :
    WindowsKept b (b.beginPage k n d page i l) :=
  (h.windows_allocate hroom ⟨n, d.pages.length + 1, 0⟩).trans
    (.of_eq (by simp [Body.beginPage]) (by simp [Body.beginPage]) (by simp [Body.beginPage]))

theorem StoreHeld.windows_rollOver (h : StoreHeld txn b) (hroom : b.room k = .found i l) (n : Nat) (d : Document) :
    WindowsKept b (b.rollOver k n d i l) :=
  (h.windows_allocate hroom ⟨n, d.pages.length, ((d.page d.pages.length).map (fun p => p.slots.length)).getD 0⟩).trans
    (.of_eq (by simp [Body.rollOver]) (by simp [Body.rollOver]) (by simp [Body.rollOver]))

theorem WindowsKept.growPage (b : Body) (n count : Nat) : WindowsKept b (b.growPage n count) := .updDoc ..

theorem WindowsKept.returnReserved (b : Body) (n i : Nat) (h : ∀ l, (b.buffer i).leaf = some l → (b.leaf l).state ≠ .programmed) :
    WindowsKept b (b.returnReserved n i) := by
  generalize hg : (fun d : Document => d.updLastPage (fun p => { p with slots := p.slots.dropLast })) = g
  have hrel : WindowsKept b (((b.updDoc n g).dischargeLead n).releaseBuffer i) :=
    ((WindowsKept.updDoc b n g).trans (.of_eq (by simp) (by simp) (by simp))).trans (.releaseBuffer _ i)
  have hleaf : ∀ l, (((b.updDoc n g).dischargeLead n).releaseBuffer i).leaf l = b.leaf l :=
    Body.leaf_congr (by rw [Body.releaseBuffer_leaves, Body.dischargeLead_leaves, Body.updDoc_leaves])
  unfold Body.returnReserved
  dsimp only
  rw [hg]
  generalize ((b.updDoc n g).dischargeLead n).releaseBuffer i = c at hrel hleaf
  split
  · rename_i l hl
    have hset : WindowsKept c (c.setLeaf l Leaf.blank) := .setLeaf c fun hs => absurd (by rw [← hleaf]; exact hs) (h l hl)
    exact (hrel.trans hset).trans (.of_eq rfl rfl rfl)
  · exact hrel

/-- Bytes leave every buffer with its leaf. -/
theorem Body.fill_leafOf (b : Body) (i : Nat) (bytes : List Byte) (j : Nat) :
    ((b.fill i bytes).buffer j).leaf = (b.buffer j).leaf := by
  unfold Body.fill
  rw [Body.setBuffer_buffer]
  split_ifs with hj
  · rw [hj]
  · rfl

/-- The leaf of the buffer that a session IN_PAGE fills is not PROGRAMMED. -/
theorem StoreHeld.windows_tail (h : StoreHeld txn b) (hin : (b.session k).state = .inPage) :
    ∀ l, (b.buffer (b.session k).tail).leaf = some l → (b.leaf l).state ≠ .programmed := by
  obtain ⟨_, _, _, i, _, _, _, ht, hfill, _⟩ := h.tails.tail k hin
  rw [Session.tail_eq ht]
  exact fun l hl => h.notProgrammed (by rw [hfill]; rfl) hl

/-- The bytes of an APPEND are settled (R52, R55, R56). -/
theorem StoreHeld.windows_settleAppend {a : AppendInFlight} (h : StoreHeld (.appending a) b)
    (hin : (b.session a.session).state = .inPage) (bytes : List Byte) : WindowsKept b (b.settleAppend a bytes) := by
  have htail := h.windows_tail hin
  unfold Body.settleAppend
  dsimp only
  by_cases hr : a.rolled = true
  · obtain ⟨_, _, _, old, _, _, _, hq, hfill, _⟩ := h.tails.rolled a rfl hr
    have hold : ∀ l, (b.buffer old).leaf = some l → (b.leaf l).state ≠ .programmed := fun l hl =>
      h.notProgrammed (by rw [hfill]; rfl) hl
    rw [if_pos hr, hq, Option.getD_some]
    split_ifs
    · refine ((WindowsKept.fill b old _).trans (.growPage _ _ _)).trans (.returnReserved _ _ _ fun l hl => ?_)
      have hbuf : (((b.fill old bytes).growPage ((b.session a.session).doc.getD 0) bytes.length).buffer
          (b.session a.session).tail).leaf = (b.buffer (b.session a.session).tail).leaf := by
        refine Eq.trans ?_ (b.fill_leafOf old bytes _)
        unfold Body.buffer Body.growPage
        rw [Body.updDoc_buffers]
      rw [hbuf] at hl
      have hleaves : ((b.fill old bytes).growPage ((b.session a.session).doc.getD 0) bytes.length).leaves = b.leaves :=
        Body.updDoc_leaves ..
      rw [Body.leaf_congr hleaves]
      exact htail l hl
    · refine (((WindowsKept.fill b old _).trans (.makeReady _ old fun l hl => ?_)).trans (.fill _ _ _)).trans (.growPage _ _ _)
      rw [Body.fill_leafOf] at hl
      exact hold l hl
  · rw [if_neg hr]
    exact (WindowsKept.fill b _ _).trans (.growPage _ _ _)

/-- A session IN_PAGE leaves its page, whose document has been changed (R53, R54, R57). -/
theorem StoreHeld.windows_leavePage (h : StoreHeld txn b) (hin : (b.session k).state = .inPage) (hb : c.buffers = b.buffers)
    (hl : c.leaves = b.leaves) (hw : c.windows = b.windows) (v : Session) :
    WindowsKept b ((c.makeReady (b.session k).tail).setSession k v) := by
  have hbuf : ∀ j, c.buffer j = b.buffer j := fun j => by unfold Body.buffer; rw [hb]
  refine ((WindowsKept.of_eq hw hb hl).trans (.makeReady c _ fun l hl' => ?_)).trans (.of_eq rfl rfl rfl)
  rw [hbuf] at hl'
  rw [Body.leaf_congr hl]
  exact h.windows_tail hin l hl'

theorem StoreHeld.windows_cutPage (h : StoreHeld txn b) (hin : (b.session k).state = .inPage) (st : SessState) :
    WindowsKept b (b.cutPage k st) := by
  unfold Body.cutPage
  dsimp only
  split
  · exact h.windows_leavePage hin (by simp) (by simp) (by simp) _
  · exact h.windows_leavePage hin rfl rfl rfl _

theorem StoreHeld.windows_endPage (h : StoreHeld txn b) (hin : (b.session k).state = .inPage) (n x y : Nat) :
    WindowsKept b (b.endPage k n x y) := by
  have hses : ∀ f, (b.updDoc n f).session k = b.session k := fun f => Body.session_congr (Body.updDoc_sessions ..) k
  unfold Body.endPage
  dsimp only
  rw [hses]
  exact h.windows_leavePage hin (by simp) (by simp) (by simp) _

theorem StoreHeld.windows_closeSession (h : StoreHeld txn b) (t : Tables) (tb : Timebase) (k : Nat) (e : Ending) :
    WindowsKept b (b.closeSession t tb k e) := by
  by_cases hidle : (b.session k).state = .idle
  · rw [Body.closeSession_idle hidle]; exact .refl b
  have hfilled : WindowsKept b (b.filledBy k) := by
    unfold Body.filledBy
    split_ifs with hin
    · exact .makeReady b _ (h.windows_tail hin)
    · exact .refl b
  have hparts := Body.closeSession_parts (t := t) (tb := tb) (ending := e) hidle
  have hframe := b.filledBy_eq k
  refine (hfilled.trans (.foldl WindowsKept.orphan (b.session k).queue _)).trans (.of_eq ?_ ?_ ?_)
  · rw [hparts, foldl_orphan_eq]
    exact (congrArg Body.windows hframe).symm
  · rw [hparts]
  · rw [hparts, foldl_orphan_eq]

/-! ### Deliveries -/

/-- A fetch of a leaf that no window names (R75). -/
theorem StoreHeld.windows_fetchInto (h : StoreHeld txn b) (hw : b.windowsLawful) (hi : b.windowBuffer = some i)
    (hl : b.slotAt p = some (.placed l)) (hbuf : (b.leaf l).buffer = none) (hnone : b.windowOf l = none) :
    (b.fetchInto i l).windowsLawful := by
  have hst : (b.leaf l).state = .programmed := by
    obtain ⟨howner, _, _⟩ := (h.parts.leaf l).owned hl
    have hstates := (h.parts.leaf l).owner.mp (by rw [howner]; rfl)
    have hfree : ¬ ((b.leaf l).buffer.isSome = true) := by rw [hbuf]; nofun
    rw [(h.parts.leaf l).buffer] at hfree
    tauto
  have hread : ∀ j, (b.fetchInto i l).buffer j =
      if j = i then ⟨.fetching, some l, none, some .delivery, [], false⟩ else b.buffer j := fun j =>
    Body.setBuffer_buffer b i ⟨.fetching, some l, none, some .delivery, [], false⟩ j
  have hwin : (b.fetchInto i l).windows = b.windows.filter (fun j => j ≠ i) ++ [i] := rfl
  have hmem : ∀ j, j ∈ (b.fetchInto i l).windows → j = i ∨ j ∈ b.windows ∧ j ≠ i := fun j hj => by
    rw [hwin, List.mem_append, List.mem_filter, List.mem_singleton, decide_eq_true_eq] at hj
    exact hj.symm
  have hfresh : ∀ j ∈ b.windows, (b.buffer j).discard = false → (b.buffer j).leaf ≠ some l := fun j hj hd hjl => by
    have := List.find?_eq_none.mp hnone j hj
    rw [hjl, hd] at this
    simp at this
  refine ⟨?_, fun j hj hd => ?_, fun x hx y hy hdx hdy he => ?_⟩
  · have hbound := hw.bound
    have hfilter := List.length_filter_le (fun j => decide (j ≠ i)) b.windows
    rw [hwin, List.length_append, List.length_singleton]
    by_cases hiw : i ∈ b.windows
    · have := List.length_filter_lt_length_iff_exists (p := fun j => decide (j ≠ i)).mpr ⟨i, hiw, by simp⟩
      omega
    · unfold Body.windowBuffer at hi
      split_ifs at hi with hallowed
      · have := (Body.windowAllowed_iff.mp hallowed).1
        omega
      · exact absurd (List.mem_of_find?_eq_some hi) hiw
  · rw [hread] at hd ⊢
    rcases hmem j hj with rfl | ⟨hjw, hji⟩
    · rw [if_pos rfl]; exact ⟨l, rfl, hst⟩
    · rw [if_neg hji] at hd ⊢
      exact hw.programmed j hjw hd
  · rw [hread] at hdx hdy he
    rw [hread] at he
    rcases hmem x hx with rfl | ⟨hxw, hxi⟩ <;> rcases hmem y hy with rfl | ⟨hyw, hyi⟩
    · rfl
    · rw [if_pos rfl, if_neg hyi] at he
      rw [if_neg hyi] at hdy
      exact absurd he.symm (hfresh y hyw hdy)
    · rw [if_pos rfl, if_neg hxi] at he
      rw [if_neg hxi] at hdx
      exact absurd he (hfresh x hxw hdx)
    · rw [if_neg hxi] at hdx he
      rw [if_neg hyi] at hdy he
      exact hw.distinct x hxw y hyw hdx hdy he

/-! ### Banks -/

theorem WindowsKept.startProgram (b : Body) (k i : Nat) (h : (b.leaf l).state ≠ .programmed) :
    WindowsKept b (b.startProgram k i l) := by
  have hset : WindowsKept b (b.setLeaf l { b.leaf l with state := .programming }) := .setLeaf b fun hs => absurd hs h
  have hbuf : WindowsKept (b.setLeaf l { b.leaf l with state := .programming }) (b.programming i l) :=
    .setBuffer _ fun _ hd => ⟨hd, rfl⟩
  exact (hset.trans hbuf).trans (.of_eq rfl rfl rfl)

/-- A replacement takes a BLANK leaf (R93). -/
theorem StoreHeld.windows_startReplace (h : StoreHeld txn b) (hst : (b.buffer i).state = .ready) (hk : k < 4) :
    WindowsKept b (b.startReplace k i) := by
  rcases Body.startReplace_cases (b := b) (k := k) i with ⟨_, he⟩ | ⟨l, rest, p, hblank, hp, he⟩
  · rw [he]; exact .refl b
  obtain ⟨_, _, hblank⟩ := ((h.lists.blank k hk).2 l).mp (by rw [hblank]; exact List.mem_cons_self)
  have hpop : WindowsKept b (b.popBlank k) := .of_eq rfl rfl rfl
  have hset := hpop.trans (.setLeaf (b.popBlank k) (l := l) (v := ⟨.blank, some p, some i⟩) fun hs => by
    cases hblank.symm.trans hs)
  have hleaf : ((b.popBlank k).setLeaf l ⟨.blank, some p, some i⟩).leaf l = ⟨.blank, some p, some i⟩ :=
    (Body.setLeaf_leaf ..).trans (if_pos rfl)
  have hwin : ((b.popBlank k).setLeaf l ⟨.blank, some p, some i⟩).windows = b.windows := rfl
  rw [he]
  generalize (b.popBlank k).setLeaf l ⟨.blank, some p, some i⟩ = c at hset hleaf hwin
  have hdoc := WindowsKept.updDoc c p.slot (fun d => d.updLeafSlot p.page p.index (LeafSlot.filled l))
  have hbuf : WindowsKept (c.updDoc p.slot (fun d => d.updLeafSlot p.page p.index (LeafSlot.filled l)))
      ((c.updDoc p.slot (fun d => d.updLeafSlot p.page p.index (LeafSlot.filled l))).setBuffer i
        { b.buffer i with leaf := some l }) :=
    .setBuffer _ fun hi => absurd (by rw [Body.updDoc_windows, hwin] at hi; exact hi) (h.notWindow (by rw [hst]; rfl))
  refine ((hset.trans hdoc).trans hbuf).trans (.startProgram _ k i ?_)
  rw [Body.leaf_congr (b := c) (by rw [Body.setBuffer_leaves, Body.updDoc_leaves]), hleaf]
  nofun

/-- The leaf whose void mark starts takes its window with it (R78, R95). -/
theorem Body.windowsLawful.startVoidMark (hw : b.windowsLawful) (k n page index l : Nat) :
    (b.startVoidMark k n page index l).windowsLawful := by
  have hmark : ((b.setLeaf l ⟨.voiding, none, none⟩).setOp k (.voidMark l)).WindowsFit (some l) :=
    (hw.mark l ⟨.voiding, none, none⟩).kept (.of_eq rfl rfl rfl)
  rw [Body.startVoidMark_eq]
  exact ((hmark.kept (.releaseSlot _ n page index)).dropWindow).kept (.advancePurge _ n)

theorem StoreHeld.windows_startWork (h : StoreHeld txn b) (hw : b.windowsLawful) {part : PartState} {floor : Nat} {w : Work}
    (hk : k < 4) (hc : b.choose part floor k = some w) : (b.startWork k w).windowsLawful := by
  rcases Body.choose_source hc with ⟨i, _, hready, hsource⟩ | ⟨_, ⟨l, rest, hq, rfl⟩ | ⟨i, rest, hq, rfl⟩ |
    ⟨n, hn, d, p, x, l, hd, hcur, hl, hlk, rfl⟩⟩
  · rcases hsource with ⟨l, hl, hlk, rfl⟩ | ⟨hl, ha, rfl⟩
    · exact hw.kept (.startProgram b k i (h.notProgrammed (by rw [hready]; rfl) hl))
    · exact hw.kept (h.windows_startReplace hready hk)
  · obtain ⟨_, _, hst⟩ := ((h.lists.erase k hk).2 l).mp (by rw [hq]; exact List.mem_cons_self)
    have hset : WindowsKept b (b.setLeaf l ⟨.erasing, none, none⟩) := .setLeaf b fun hs => by cases hst.symm.trans hs
    exact hw.kept (hset.trans (.of_eq rfl rfl rfl))
  · exact hw.kept (.of_eq rfl rfl rfl)
  · exact hw.startVoidMark k n p x l

/-! ### Operations end -/

theorem WindowsKept.programDone (b : Body) (k i l : Nat) : WindowsKept b (b.programDone k i l) := by
  have hop : WindowsKept b (b.setOp k .none) := .of_eq rfl rfl rfl
  exact (hop.trans (.setLeaf _ fun _ => rfl)).trans (.releaseBuffer _ i)

theorem WindowsKept.unplace (b : Body) (p : Place) : WindowsKept b (b.unplace p) := by
  have hdoc := WindowsKept.updDoc b p.slot (fun d => d.updLeafSlot p.page p.index LeafSlot.lost)
  unfold Body.unplace
  dsimp only
  split_ifs
  · exact hdoc.trans (.advancePurge _ _)
  · exact hdoc

theorem StoreHeld.windows_programLost (h : StoreHeld txn b) (hk : k < 4) {g : List Word} (hop : (b.bank k).op = .program i l g) :
    WindowsKept b (b.programLost k i l) := by
  obtain ⟨_, hst, _, p, hp, hbl, _⟩ := h.programs hk hop
  have hop' : WindowsKept b (b.setOp k .none) := .of_eq rfl rfl rfl
  have hleaf := hop'.trans (.setLeaf (b.setOp k .none) (l := l) (v := ⟨.retired, none, none⟩) fun hs => by
    cases (congrArg Leaf.state hbl).symm.trans hs)
  have hmissed : WindowsKept b (b.programMissed k i l) :=
    hleaf.trans (.setBuffer _ fun hi => absurd hi (h.notWindow (by rw [hst]; rfl)))
  rw [Body.programLost_unplace hp]
  exact hmissed.trans (.unplace _ p)

/-- A void mark or an erase ends. -/
theorem StoreHeld.windows_endBare (h : StoreHeld txn b) (hk : k < 4) (hop : (b.bank k).op = .voidMark l ∨ (b.bank k).op = .erase l)
    {v : Leaf} (hw : c.windows = b.windows) (hb : c.buffers = b.buffers) (hl : c.leaves = (b.setLeaf l v).leaves) :
    WindowsKept b c := by
  have hb' := h.parts.bank k hk
  have hne : (b.leaf l).state ≠ .programmed := fun hs => by
    rcases hop with hop | hop
    · have := (hb'.op_state (BankOp.leafState_voidMark.mpr hop)).2
      rw [hs] at this
      cases this
    · have := (hb'.op_state (BankOp.leafState_erase.mpr hop)).2
      rw [hs] at this
      cases this
  exact (WindowsKept.setLeaf b (v := v) fun hs => absurd hs hne).trans (.of_eq hw hb hl)

end

end Sys2Proof.Machine
end

section
/-! Charges, the leaf store and the window list are kept together by every change that the part's commands are made of. -/

namespace Sys2Proof.Machine

/-! ### The end of a warm start -/

section
variable {s : State} {b : Body} {k i l n : Nat} {f : Flash}

/-- A body at rest whose leaves are settled is one of a part that works (R66, R100). -/
theorem StoreHeld.ofRest {txn : Transaction} (hl : b.leavesLawful) (hr : b.atRest)
    (hs : ∀ k, b.session k = ⟨.idle, none, none, []⟩)
    (hst : ∀ l, (b.leaf l).state.busy = none ∧ (b.leaf l).state.buffered = false) (hn : ∀ a, txn ≠ .appending a) :
    StoreHeld txn b := by
  have hbuf := hr.buffers
  have hleaf : ∀ l, (b.leaf l).buffer = none := fun l => by
    rw [← Option.not_isSome_iff_eq_none, hl.buffer]
    have := (hst l).2
    rintro (h | h | h) <;> rw [h] at this <;> cases this
  refine ⟨⟨hl.canonical, hl.fits, fun l i hi => ?_, fun i => ?_, fun i j p hi _ => ?_, fun k hk => ?_⟩,
    ⟨hl.blank, hl.erase, ?_, ?_, fun k => ?_, fun k => ?_⟩, ⟨fun k hk => ?_, fun a ha => absurd ha (hn a)⟩⟩
  · rw [hleaf] at hi; cases hi
  · refine ⟨fun _ => hbuf i, fun _ => hbuf i, fun st h => ?_, fun h => ?_⟩
    · rw [hbuf] at h; cases h
    · rw [hbuf] at h; rcases h with h | h <;> cases h
  · have hp := hi.1
    rw [hbuf] at hp
    cases hp
  · obtain ⟨hq, hop⟩ := hr.banks k hk
    refine ⟨fun m _ => ?_, fun m _ => by rw [hop]; rfl, fun i l h hp => ?_, ?_⟩
    · rw [hop]; exact (hst m).1
    · rw [hop] at hp; cases hp
    · rw [hq, hop]
      refine ⟨List.nodup_nil, nofun, fun i => ⟨?_, ?_⟩⟩
      · rintro (h | h) <;> cases h
      · rintro ⟨h, _⟩
        rw [hbuf] at h
        cases h
  · rw [hr.ready]
    exact .nil fun i h => by rw [hbuf] at h; rcases h with h | h <;> cases h
  · rw [hr.windows]
    exact .nil fun i h => by rw [hbuf] at h; rcases h with h | h <;> cases h
  · rw [hs]
    exact .nil fun i h => by rw [hbuf] at h; cases h
  · rw [hs]; exact ⟨Nat.zero_le _, fun _ => rfl⟩
  · rw [hs] at hk; cases hk

theorem Leaf.settled_rests (v : Leaf) : v.settled.state.busy = none ∧ v.settled.state.buffered = false := by
  unfold Leaf.settled
  cases hs : v.state <;> simp [hs, Leaf.blank, LeafState.busy, LeafState.buffered]

theorem State.reconcile_flash (s : State) : s.reconcile.flash = s.flash := by
  unfold State.reconcile
  dsimp only

/-- A lawful leaf store is one of a part that works once the start has completed. -/
theorem Body.leavesLawful.warmHeld (h : b.leavesLawful) (hw : Table.wf Slot.free b.catalog) (t : Tables) (tb : Timebase)
    {txn : Transaction} (hn : ∀ a, txn ≠ .appending a) : StoreHeld txn (b.warmed t tb) := by
  refine .ofRest (h.warmed t tb hw) (.ofNil (Body.warmed_buffers ..) (Body.warmed_ready ..) (Body.warmed_windows ..) fun k hk => ?_)
    (Body.session_of_nil (Body.warmed_sessions ..)) (fun l => ?_) hn
  · rw [Body.warmed_bank _ _ hk]; exact ⟨rfl, rfl⟩
  · rw [Body.warmed_leaf _ _ h.canonical]
    split_ifs
    · exact ⟨rfl, rfl⟩
    · exact (b.leaf l).settled_rests

theorem State.storeKept.reconcile (h : s.storeKept) (hp : s.recovery.part = .starting) : s.reconcile.storeKept := by
  have hheld : StoreHeld s.txn (s.body.warmed s.tables s.time) :=
    (h.store.believed (.inr (.inr (.inl hp)))).warmHeld h.charges.charges.canonical s.tables s.time
      (h.charges.noAppend (by rw [hp]; rfl))
  have hbody : s.reconcile.body = s.body.warmed s.tables s.time := State.reconcile_body s
  have htxn := State.reconcile_txn s
  have hflash := State.reconcile_flash s
  have hworks : s.reconcile.recovery.part.works = true := by
    rw [State.reconcile_part]
    exact Recovery.afterStart_works _
  have hcharges := chargesWorkLaw.reconcile h.charges hp
  generalize s.reconcile = v at *
  exact ⟨hcharges, StoreHeld.storeLawful (by rw [htxn, hbody]; exact hheld) hworks (hflash ▸ h.store.array)⟩

/-! ### The law of the leaf store -/

theorem State.storeKept.works (h : s.storeKept) (hk : k < 4) {op : BankOp} (hop : (s.body.bank k).op = op) (hne : op ≠ .none) :
    s.recovery.part.works = true := h.store.busy hk (by rw [hop]; exact hne)

/-- An operation on a leaf ends while the part works: the array keeps its size. -/
theorem State.storeKept.endOp (h : s.storeKept) (hk : k < 4) {st : LeafState} (hop : (s.body.bank k).op.leafState l = some st)
    (hne : (s.body.bank k).op ≠ .none) (hf : ∀ m, m ≠ l → f.spareOf m = s.flash.spareOf m)
    (hc : ({ s with body := b, flash := f } : State).chargesLawful)
    (hb : s.recovery.part.works = true → StoreHeld s.txn b) : ({ s with body := b, flash := f } : State).storeKept := by
  have hw := h.store.busy hk hne
  have hbound := (h.held hw).op_bounded hk hop
  exact ⟨hc, StoreHeld.storeLawful (hb hw) hw (h.store.array_of hbound hf)⟩

theorem storeWorkLaw : WorkLaw State.storeKept where
  charges h := h.charges
  frame h hb hf hp hm hs ht := h.frame hb hf hp hm hs ht
  calm h hc := ⟨chargesWorkLaw.calm h.charges hc, h.store.calm h.charges hc⟩
  recharge h hw hr := ⟨chargesWorkLaw.recharge h.charges hw hr,
    StoreHeld.storeLawful ((h.held hw).recharge h.charges.held.calls hr) hw h.store.array⟩
  admitted deadline h hw hidle hd hn := ⟨chargesWorkLaw.admitted deadline h.charges hw hidle hd hn,
    StoreHeld.storeLawful ((h.held hw).admitCall h.charges.held.calls hd hidle hn deadline) hw h.store.array⟩
  stop h hw hst := ⟨chargesWorkLaw.stop h.charges hw hst,
    StoreHeld.storeLawful ((h.held hw).stop h.charges.held.calls hst) hw h.store.array⟩
  beginPage h hw hc hst hdoc hd hroom hp := ⟨chargesWorkLaw.beginPage h.charges hw hc hst hdoc hd hroom hp,
    StoreHeld.storeLawful ((h.held hw).beginPage h.charges.held hd hst hdoc hroom hp) hw h.store.array⟩
  await h hw hst hr := by
    have hcharges := chargesWorkLaw.await h.charges hw hst hr
    have hheld := h.held hw
    refine ⟨hcharges, StoreHeld.storeLawful ⟨hheld.parts, hheld.lists, hheld.tails.tail, fun a' ha hrolled => ?_⟩ hw h.store.array⟩
    cases ha
    rw [hr] at hrolled
    cases hrolled
  rollOver h hw hst hdoc hd hroom := ⟨chargesWorkLaw.rollOver h.charges hw hst hdoc hd hroom,
    StoreHeld.storeLawful ((h.held hw).rollOver h.charges.held hd hst hdoc hroom) hw h.store.array⟩
  settle {s a} bytes h ht := by
    have hw := PartState.works_iff.mpr (h.charges.append a ht).1
    have hheld : StoreHeld (.appending a) s.body := ht ▸ h.held hw
    have hcharges : ChargesHeld (.appending a) s.body := ht ▸ h.charges.held
    exact ⟨chargesWorkLaw.settle bytes h.charges ht, StoreHeld.storeLawful (hheld.settleAppend hcharges bytes) hw h.store.array⟩
  cutPage h hw hc hst hn := ⟨chargesWorkLaw.cutPage h.charges hw hc hst hn,
    StoreHeld.storeLawful ((h.held hw).cutPage h.charges.held.calls hc hst hn) hw h.store.array⟩
  endPage x y h hw hc hst hdoc := ⟨chargesWorkLaw.endPage x y h.charges hw hc hst hdoc,
    StoreHeld.storeLawful ((h.held hw).endPage h.charges.held.calls hc hst hdoc x y) hw h.store.array⟩
  close t tb k e h hw hc := ⟨chargesWorkLaw.close t tb k e h.charges hw hc,
    StoreHeld.storeLawful ((h.held hw).closeSession h.charges.held.calls hc t tb e) hw h.store.array⟩
  touch h hw hi := ⟨chargesWorkLaw.touch h.charges hw hi,
    StoreHeld.storeLawful ((h.held hw).touchWindow h.charges.held.calls hi) hw h.store.array⟩
  fetch h hw hi hs hl hn := ⟨chargesWorkLaw.fetch h.charges hw hi hs hl hn,
    StoreHeld.storeLawful ((h.held hw).fetchInto h.charges.held.calls hi _) hw h.store.array⟩
  purge h hw hd hs := ⟨chargesWorkLaw.purge h.charges hw hd hs,
    StoreHeld.storeLawful ((h.held hw).startPurge h.charges.held hd hs) hw h.store.array⟩
  start h hk hop hc := ⟨chargesWorkLaw.start h.charges hk hop hc,
    StoreHeld.storeLawful ((h.held (Body.choose_works hc)).startWork h.charges.held hk hop hc) (Body.choose_works hc) h.store.array⟩
  resetWindows h hw := ⟨chargesWorkLaw.resetWindows h.charges hw,
    StoreHeld.storeLawful ((h.held hw).resetWindows h.charges.held _ (h.held hw).lists.windows.1
      fun i => ((h.held hw).lists.windows.2 i).mp) hw h.store.array⟩
  programDone h hk hop hf := h.endOp hk (BankOp.leafState_program.mpr ⟨_, _, hop⟩) (by rw [hop]; nofun) hf
    (chargesWorkLaw.programDone h.charges hk hop hf) fun hw => (h.held hw).programDone h.charges.held.calls hk hop
  programLost h hk hop hf := h.endOp hk (BankOp.leafState_program.mpr ⟨_, _, hop⟩) (by rw [hop]; nofun) hf
    (chargesWorkLaw.programLost h.charges hk hop hf) fun hw => (h.held hw).programLost h.charges.held hk hop
  fetchDone f h hk hop := ⟨chargesWorkLaw.fetchDone f h.charges hk hop,
    StoreHeld.storeLawful ((h.held (h.works hk hop nofun)).fetchDone h.charges.held.calls hk hop f) (h.works hk hop nofun)
      h.store.array⟩
  voidDone h hk hop hf := h.endOp hk (BankOp.leafState_voidMark.mpr hop) (by rw [hop]; nofun) hf
    (chargesWorkLaw.voidDone h.charges hk hop hf) fun hw => (h.held hw).voidDone h.charges.held.calls hk hop
  eraseDone h hk hop hf := h.endOp hk (BankOp.leafState_erase.mpr hop) (by rw [hop]; nofun) hf
    (chargesWorkLaw.eraseDone h.charges hk hop hf) fun hw => (h.held hw).eraseDone h.charges.held.calls hk hop
  eraseLost h hk hop hf := h.endOp hk (BankOp.leafState_erase.mpr hop) (by rw [hop]; nofun) hf
    (chargesWorkLaw.eraseLost h.charges hk hop hf) fun hw => (h.held hw).eraseLost h.charges.held.calls hk hop
  warm hub node h hp hm := h.warmBegin hp hm hub node
  cold hub node h hp := h.coldBegin hp hub node
  failure h hp hr hm hs := h.backupLost hp hr hm hs
  scan h hp hs := h.scan hp hs
  reconcile h hp := h.reconcile hp

end

end Sys2Proof.Machine
end

section
/-! Every step keeps the window list: the statement (R74 to R79). -/

namespace Sys2Proof.Machine

section
variable {s t : State} {b : Body} {k : Nat}

/-! ### The law of the window list -/

/-- Charges, the leaf store and the window list together. -/
structure State.windowsHold (s : State) : Prop where
  store : s.storeKept
  windows : s.body.windowsLawful

theorem State.storeKept.restWindows (h : s.storeKept) (hw : s.recovery.part.works = false) : s.body.windowsLawful :=
  .ofNil (h.store.atRest hw).windows

theorem State.storeKept.reconcileWindows (h : s.storeKept) (hp : s.recovery.part = .starting) :
    s.reconcile.windowsHold := by
  have hwin : s.reconcile.body.windows = [] := (congrArg Body.windows (State.reconcile_body s)).trans
    (Body.warmed_windows s.tables s.time s.body)
  exact ⟨storeWorkLaw.reconcile h hp, .ofNil hwin⟩

theorem windowWorkLaw : WorkLaw State.windowsHold where
  charges h := h.store.charges
  frame h hb hf hp hm hs ht := ⟨storeWorkLaw.frame h.store hb hf hp hm hs ht, hb ▸ h.windows⟩
  calm h hc := ⟨storeWorkLaw.calm h.store hc, h.windows.kept (.calm hc)⟩
  recharge h hw hr := ⟨storeWorkLaw.recharge h.store hw hr, h.windows.kept (.recharge hr)⟩
  admitted deadline h hw hidle hd hn :=
    ⟨storeWorkLaw.admitted deadline h.store hw hidle hd hn, h.windows.kept (.admitCall _ _ _ _ deadline)⟩
  stop h hw hst := ⟨storeWorkLaw.stop h.store hw hst, h.windows.kept (.of_eq rfl rfl rfl)⟩
  beginPage h hw hc hst hdoc hd hroom hp := ⟨storeWorkLaw.beginPage h.store hw hc hst hdoc hd hroom hp,
    h.windows.kept ((h.store.held hw).windows_beginPage hroom _ _ _)⟩
  await h hw hst hr := ⟨storeWorkLaw.await h.store hw hst hr, h.windows⟩
  rollOver h hw hst hdoc hd hroom := ⟨storeWorkLaw.rollOver h.store hw hst hdoc hd hroom,
    h.windows.kept ((h.store.held hw).windows_rollOver hroom _ _)⟩
  settle {s a} bytes h ht := by
    obtain ⟨hp, hin, _⟩ := h.store.charges.append a ht
    have hheld : StoreHeld (.appending a) s.body := ht ▸ h.store.held (PartState.works_iff.mpr hp)
    exact ⟨storeWorkLaw.settle bytes h.store ht, h.windows.kept (hheld.windows_settleAppend hin bytes)⟩
  cutPage h hw hc hst hn := ⟨storeWorkLaw.cutPage h.store hw hc hst hn,
    h.windows.kept ((h.store.held hw).windows_cutPage hst _)⟩
  endPage x y h hw hc hst hdoc := ⟨storeWorkLaw.endPage x y h.store hw hc hst hdoc,
    h.windows.kept ((h.store.held hw).windows_endPage hst _ x y)⟩
  close t tb k e h hw hc := ⟨storeWorkLaw.close t tb k e h.store hw hc,
    h.windows.kept ((h.store.held hw).windows_closeSession t tb k e)⟩
  touch h hw hi := ⟨storeWorkLaw.touch h.store hw hi,
    h.windows.kept (.touchWindow (h.store.held hw).lists.windows.1 hi)⟩
  fetch h hw hi hs hl hn := ⟨storeWorkLaw.fetch h.store hw hi hs hl hn,
    (h.store.held hw).windows_fetchInto h.windows hi hs hl hn⟩
  purge h hw hd hs := ⟨storeWorkLaw.purge h.store hw hd hs, h.windows.kept (.startPurge _ _)⟩
  start h hk hop hc := ⟨storeWorkLaw.start h.store hk hop hc,
    (h.store.held (Body.choose_works hc)).windows_startWork h.windows hk hc⟩
  resetWindows h hw := ⟨storeWorkLaw.resetWindows h.store hw, h.windows.kept (.foldl WindowsKept.resetWindow _ _)⟩
  programDone h hk hop hf := ⟨storeWorkLaw.programDone h.store hk hop hf, h.windows.kept (.programDone _ _ _ _)⟩
  programLost h hk hop hf := ⟨storeWorkLaw.programLost h.store hk hop hf,
    h.windows.kept ((h.store.held (h.store.works hk hop nofun)).windows_programLost hk hop)⟩
  fetchDone f h hk hop := ⟨storeWorkLaw.fetchDone f h.store hk hop, h.windows.kept (.fetchDone _ f _ _)⟩
  voidDone h hk hop hf := ⟨storeWorkLaw.voidDone h.store hk hop hf,
    h.windows.kept ((h.store.held (h.store.works hk hop nofun)).windows_endBare (v := ⟨.void, none, none⟩) hk (.inl hop) rfl rfl rfl)⟩
  eraseDone h hk hop hf := ⟨storeWorkLaw.eraseDone h.store hk hop hf,
    h.windows.kept ((h.store.held (h.store.works hk hop nofun)).windows_endBare (v := Leaf.blank) hk (.inr hop) rfl rfl rfl)⟩
  eraseLost h hk hop hf := ⟨storeWorkLaw.eraseLost h.store hk hop hf,
    h.windows.kept ((h.store.held (h.store.works hk hop nofun)).windows_endBare hk (.inr hop) rfl rfl rfl)⟩
  warm hub node h hp hm := ⟨storeWorkLaw.warm hub node h.store hp hm, h.windows.kept (.of_eq rfl rfl rfl)⟩
  cold hub node h hp := ⟨storeWorkLaw.cold hub node h.store hp, .ofNil rfl⟩
  failure h hp hr hm hs := ⟨storeWorkLaw.failure h.store hp hr hm hs, .ofNil rfl⟩
  scan {s} h hp hs := ⟨storeWorkLaw.scan h.store hp hs, (storeWorkLaw.scan h.store hp hs).restWindows (by rw [hp]; rfl)⟩
  reconcile h hp := h.store.reconcileWindows hp

/-! ### The loss of main power and the rebuild -/

theorem Body.loseVolatile_windows (b : Body) : b.loseVolatile.windows = [] := by rw [Body.loseVolatile_eq]

/-- Without windows the start of an operation makes none. -/
theorem Body.startWork_windows (h : b.windows = []) (k : Nat) (w : Work) : (b.startWork k w).windows = [] := by
  cases w with
  | program i l => exact h
  | fetch i => exact h
  | erase l => exact h
  | replace i =>
    rcases Body.startReplace_cases (b := b) (k := k) i with ⟨_, he⟩ | ⟨l, rest, p, _, _, he⟩
    · exact (congrArg Body.windows he).trans h
    · refine (congrArg Body.windows he).trans ?_
      exact (Body.updDoc_windows ..).trans h
  | voidMark n page index l =>
    have hrel := WindowsKept.releaseSlot ((b.setLeaf l ⟨.voiding, none, none⟩).setOp k (.voidMark l)) n page index
    have hkept := (hrel.trans (.dropWindow _ l)).trans (.advancePurge _ n)
    have hnone : ((b.setLeaf l ⟨.voiding, none, none⟩).setOp k (.voidMark l)).windows = [] := h
    have hfewer := hkept.fewer
    rw [hnone] at hfewer
    exact List.length_eq_zero_iff.mp (Nat.le_zero.mp hfewer)

/-- Nothing waits for a rebuild: no rebuilt document is due for purge or escalation. -/
theorem rebuiltDocument_quiet (g : Group) (clock run : Nat) : ¬ dueForPurge (rebuiltDocument g) clock ∧
    ∀ o ∈ (rebuiltDocument g).obligations, ¬ Obligation.reached o run := by
  refine ⟨fun h => ?_, fun o ho => ?_⟩
  · cases h.1
  rw [rebuiltDocument_obligations, List.mem_singleton] at ho
  rw [ho]
  rintro ⟨_, h, _⟩
  cases h

theorem State.rebuild_windows (hcat : s.body.catalog = []) (hw : s.body.windows = []) : s.rebuild.resume.body.windows = [] := by
  have hscan := s.scannedBody_frame
  have hcat' : s.scannedBody.catalog = [] := by rw [hscan]; exact hcat
  have hbody : s.rebuild.body =
      s.scannedBody.rebuiltFrom (groupsOf s.flash.valid) (droppedFound s.flash.valid (groupsOf s.flash.valid)) := by
    rw [State.rebuild_eq]
  generalize groupsOf s.flash.valid = groups at hbody
  generalize droppedFound s.flash.valid groups = dropped at hbody
  have hwin : s.rebuild.body.windows = [] := by
    rw [hbody, Body.rebuiltFrom_frame, hscan]
    exact hw
  have hquiet : ∀ e ∈ s.rebuild.body.documents, ¬ dueForPurge e.2 s.rebuild.time.clock ∧
      ∀ o ∈ e.2.obligations, ¬ Obligation.reached o s.rebuild.time.run := fun e he => by
    rw [hbody, Body.rebuiltFrom_documents hcat', List.mem_map] at he
    obtain ⟨g, _, rfl⟩ := he
    exact rebuiltDocument_quiet g.1 _ _
  generalize s.rebuild = v at hwin hquiet
  rw [State.resume_quiet hquiet]
  exact Body.arbitrate_keeps (P := fun c => c.windows = []) (fun _ h => h) (fun c k w h _ _ _ => Body.startWork_windows h k w) hwin

end

/-- Settles O14: each change that a command is made of keeps the window list together with the leaf store, and the loss of
main power and the rebuild leave no window. -/
theorem everyStepKeepsTheWindowsDistinct : Obligations.EveryStepKeepsTheWindowsDistinct := by
  intro s t hcharges _ hstore hwindows hstep
  rcases step_next hstep with rfl | ⟨c, rest, hr⟩
  · exact hwindows
  have hold : ({ s with pending := rest } : State).windowsHold :=
    windowWorkLaw.frame (s := s) ⟨⟨hcharges, hstore⟩, hwindows⟩ rfl rfl (.inl rfl) rfl rfl (.inl rfl)
  generalize ({ s with pending := rest } : State) = u at hold hr
  by_cases hl : ∃ x, c = .mainPowerLoss x
  · obtain ⟨x, rfl⟩ := hl
    rcases execMainPowerLoss_next hr with ⟨_, rfl⟩ | ⟨_, rfl⟩
    · exact hold.windows
    · exact .ofNil u.body.loseVolatile_windows
  by_cases hc : c = .rebuildComplete
  · subst hc
    obtain ⟨hp, ht⟩ := execRebuildComplete_next hr
    have hnone := State.rebuild_windows (s := u.quiet) (hold.store.store.scan hp).empty.1
      (hold.store.store.atRest (by rw [hp]; rfl)).windows
    rw [ht]
    generalize u.quiet.rebuild.resume = v at hnone
    exact .ofNil hnone
  · exact (windowWorkLaw.exec (fun x hx => hl ⟨x, hx⟩) hc hold hr).windows

end Sys2Proof.Machine
end
